-- ==== Sys2Proof/Word.lean ====
section
/-! DEFINITION. The word types: a byte of a frame, the 48-bit seconds count, an instant of local time. -/

namespace Sys2Proof

/-- One byte of a frame or message (R191). -/
abbrev Byte := BitVec 8

/-- A 48-bit seconds count (R4): it wraps. -/
abbrev Seconds := BitVec 48

/-- An instant of local time in ps since the end of the cold reset; DEDUCED scale, see log 3. Safe: it only fixes a unit. -/
abbrev Instant := Int

end Sys2Proof
end

