-- ==== Sys2Proof/Config.lean ====
section
/-! DEFINITION. The figures the manual fixes, and the one free value. -/

namespace Sys2Proof.Config

/-- The U cap, 999,999 ns, in ps (section 1.1). -/
def uCapPs : Nat := 999999000
/-- The U cap in ns (section 1.1). -/
def uCapNs : Nat := 999999
/-- The clamp on the frequency correction, in ppt (R9, R12). -/
def fLimit : Int := 20000000
/-- The limit of a saturating 16-bit count (00_scope.md, Saturation). -/
def countMax : Nat := 65535
/-- The limit of a 32-bit figure: window sum, WF and a squared difference (R38, R41). -/
def wordMax : Nat := 4294967295
/-- One epoch of local time, in ps. -/
def epochPs : Int := 1000000000000
/-- Half an epoch, 500,000,000 ns, in ps (R30). -/
def halfEpochPs : Int := 500000000000
/-- One slot, 3,906,250 ns, in ns and in ps (R97). -/
def slotNs : Int := 3906250
def slotPs : Int := 3906250000
/-- The enrolment span, eight slots (R107), in ps. -/
def enrolSpanPs : Int := 31250000000
/-- One character on a link, 5.5 us (R135), in ps. -/
def charPs : Int := 5500000
/-- The number of units of 1/32 ns in a line period, and half of it rounded down (section 2.5, R38). -/
def linePeriod32 : Int := 15625
def lineHalf32 : Int := 7812
/-- Site Service Table size, drops of a link, slots of an epoch, indices of the Alarm Table. -/
def maxSites : Nat := 64
def maxDrop : Nat := 15
def slotCount : Nat := 256
def generalAlarms : Nat := 47
def tableFullIndex : Nat := 47
/-- Training ends at 2 (R129); parent silence ends at 8 (R148); the third miss and the third outlier (R39, R36). -/
def trainingEnd : Nat := 2
def silenceEnd : Nat := 8
def runEnd : Nat := 3
/-- The eight values of the split (section 5.2). -/
def splits : List Nat := [128, 144, 160, 176, 192, 208, 224, 240]
/-- The five rates (section 4.1), by their code. -/
def rates : List Nat := [1, 2, 4, 8, 16]
/-- Reply window lengths by code (R141). -/
def windowLengths : List Nat := [1, 2, 3, 4, 6, 8, 12, 16]
/-- The default thresholds T1 to T7, in ns squared (section 2.1). -/
def thresholds : List Nat := [1000000, 250000, 62500, 15625, 3906, 977, 244]
/-- DEVICE_IDENTIFY: family code, part number, revision (R188). -/
def familyCode : Nat := 0x5B
def partNumber : Nat := 7240
def revision : Nat := 1
/-- The capability the part sends in its own ENROL (R194). -/
def ownCapability : Nat := 0x13

/-- FREE VALUE (log 14): a figure in ns for the base uncertainty, or for the size of the residual, where the
timebase follows a phase reference and the manual states none; by the number of the boundary that reads it.
Nothing constrains it. DESIGN CHOICE of form. Safe: a claim holds whatever it is. -/
opaque unstatedNs : Nat → Nat

end Sys2Proof.Config
end

