-- ==== Sys2Proof/Syntax.lean ====
section
/-! DEFINITION. The commands the part takes: one constructor of Instr per row of spec/opcode_table.json, with its operands. -/

namespace Sys2Proof

/-- The five references, by table index 0 to 4 (section 2.1). -/
inductive RefId where
  | satA | satB | parent | lineA | lineB
  deriving DecidableEq, Repr

/-- The two satellite inputs. -/
inductive SatId where
  | a | b
  deriving DecidableEq, Repr

/-- The two line inputs. -/
inductive LineId where
  | a | b
  deriving DecidableEq, Repr

/-- The four message lines (R195, R196). -/
inductive MessageLine where
  | sat (i : SatId)
  | line (i : LineId)
  deriving DecidableEq, Repr

/-- The six site links. -/
inductive LinkId where
  | l0 | l1 | l2 | l3 | l4 | l5
  deriving DecidableEq, Repr

/-- One value for each of the six links. -/
structure PerLink (α : Type) where
  l0 : α
  l1 : α
  l2 : α
  l3 : α
  l4 : α
  l5 : α
  deriving DecidableEq, Repr

/-- One value for each of the five references. -/
structure PerRef (α : Type) where
  satA : α
  satB : α
  parent : α
  lineA : α
  lineB : α
  deriving DecidableEq, Repr

/-- A slot base asked for: a number, or "any" (R101). -/
inductive BaseReq where
  | any
  | explicit (base : Nat)
  deriving DecidableEq, Repr

/-- HUB_SET's values, each present or absent (R187). -/
structure HubSetReq where
  identity : Option Nat
  tTurn : Option Nat
  parentDrop : Option Nat
  timeout : Option Nat
  deriving DecidableEq, Repr

/-- TB_SET's nine values, each present or absent (R25). -/
structure TbSetReq where
  learningPeriod : Option Nat
  lockThreshold : Option Nat
  lockCount : Option Nat
  unlockThreshold : Option Nat
  slewLimit : Option Nat
  ceiling : Option Nat
  g0 : Option Nat
  agingInterval : Option Nat
  ga : Option Nat
  deriving DecidableEq, Repr

/-- REF_SET form 0: the selector settings and every entry setting but T1 to T7 (R186, R66). -/
structure RefGeneralReq where
  wtr : Option Nat
  revertive : Option Bool
  enabled : Option Bool
  priority : Option Nat
  hysteresis : Option Nat
  window : Option Nat
  floor : Option Nat
  qualifyPeriod : Option Nat
  gateWidth : Option Nat
  acceptLevel : Option Nat
  maxDepth : Option Nat
  baseUncertainty : Option Nat
  allowance : Option Nat
  deriving DecidableEq, Repr

/-- REF_SET form 1: T1 to T7 (R186). -/
structure RefThresholdReq where
  t1 : Option Nat
  t2 : Option Nat
  t3 : Option Nat
  t4 : Option Nat
  t5 : Option Nat
  t6 : Option Nat
  t7 : Option Nat
  deriving DecidableEq, Repr

/-- The body of a REF_SET by its form byte (R186). -/
inductive RefSetBody where
  | general (g : RefGeneralReq)
  | thresholds (t : RefThresholdReq)
  | other (form : Nat)
  deriving DecidableEq, Repr

/-- SITE_ADMIT's values (R80). Enumerations are the raw codes of R191, judged by the owner. -/
structure AdmitReq where
  handle : Nat
  protectedFlag : Bool
  squelch : Bool
  autoComp : Bool
  cls : Nat
  budget : Nat
  rate : Nat
  slotBase : BaseReq
  ackMode : Nat
  window : Nat
  compensation : Int
  groups : BitVec 8
  deriving DecidableEq, Repr

/-- SITE_AMEND's values, each present or absent (R113). -/
structure AmendReq where
  handle : Nat
  budget : Option Nat
  groups : Option (BitVec 8)
  protectedFlag : Option Bool
  autoComp : Option Bool
  cls : Option Nat
  rate : Option Nat
  slotBase : Option BaseReq
  ackMode : Option Nat
  window : Option Nat
  compensation : Option Int
  squelch : Option Bool
  deriving DecidableEq, Repr

/-- SITE_AMEND_GROUP's mask and values (R122). -/
structure AmendGroupReq where
  mask : BitVec 8
  budget : Option Nat
  window : Option Nat
  squelch : Option Bool
  autoComp : Option Bool
  delta : Option Int
  deriving DecidableEq, Repr

/-- The three ways SITE_LOOKUP names a record, and a form byte outside them (R91, R193). -/
inductive SiteKey where
  | byHandle (handle : Nat)
  | bySiteId (siteId : Nat)
  | byLinkDrop (link drop : Nat)
  | other (form : Nat)
  deriving DecidableEq, Repr

/-- The two ways ALARM_LOOKUP names an entry, and a form byte outside them (R174, R193). -/
inductive AlarmKey where
  | byIndex (index : Nat)
  | bySource (sourceType number kind : Nat)
  | other (form : Nat)
  deriving DecidableEq, Repr

/-- The contents of a TIME frame (R137, R194). -/
structure TimeFrame where
  addr : Nat
  seconds : Seconds
  slot : Nat
  index : Nat
  offset : Int
  quality : Nat
  depth : Nat
  appliedStep : Int
  senderU : Nat
  replyRequested : Bool
  deriving DecidableEq, Repr

/-- The five frame types of the site links, with the fields of R194. -/
inductive LinkFrame where
  | time (f : TimeFrame)
  | call (addr hubId depth : Nat) (seconds : Seconds)
  | farewell (addr siteId hubId : Nat)
  | reply (addr slot index : Nat)
  | enrol (addr siteId : Nat) (capability : Byte)
  deriving DecidableEq, Repr

/-- A character on a link: its mark bit and its data byte (R135). -/
structure LinkChar where
  mark : Bool
  byte : Byte
  deriving DecidableEq, Repr

/-- A frame the LE has begun to receive: the instant its address character was taken, and the bytes so far (R135). -/
structure RxFrame where
  instant : Instant
  bytes : List Byte
  deriving DecidableEq, Repr

/-- The commands. A request row stands for one write select whose frame is that request, with the tag of R192;
an event row for one event taken by the block that owns it. Raw codes and numbers are natural numbers: what does
not fit the field that carries it is ill-formed (Instr.wf), and what lies outside a range is answered by the owner. -/
inductive Instr where
  /-- COLD_RESET (R190): the levels of the SENSE inputs as the reset ends. -/
  | coldReset (sense : PerLink Bool)
  /-- WRITE_SELECT (R181 to R183): the bytes clocked on MOSI, the access byte first. -/
  | writeSelect (mosi : List Byte)
  /-- READ_SELECT (R184): how many bytes are clocked after the access byte. -/
  | readSelect (clocked : Nat)
  | hubSet (tag : Nat) (p : HubSetReq)
  | deviceIdentify (tag : Nat)
  | deviceWarmReset (tag : Nat)
  | tbLookup (tag : Nat)
  | tbSet (tag : Nat) (p : TbSetReq)
  | tbSetTime (tag : Nat) (seconds : Seconds)
  | refLookup (tag index page : Nat)
  | refSet (tag index : Nat) (p : RefSetBody)
  | refForce (tag index : Nat)
  | refRelease (tag : Nat)
  | siteCreate (tag siteId link drop : Nat)
  | siteAdmit (tag : Nat) (p : AdmitReq)
  | siteAmend (tag : Nat) (p : AmendReq)
  | siteAmendGroup (tag : Nat) (p : AmendGroupReq)
  | siteSuspend (tag handle : Nat)
  | siteResume (tag handle : Nat)
  | siteRetire (tag handle : Nat) (now : Bool)
  | siteLookup (tag : Nat) (key : SiteKey)
  | siteNext (tag cursor : Nat)
  | siteTakeCounts (tag handle : Nat)
  | enrolOpen (tag link epochs : Nat)
  | enrolClose (tag link : Nat)
  | linkSet (tag link : Nat) (role split : Option Nat)
  | linkRestart (tag link : Nat)
  | linkLookup (tag link : Nat) (take : Bool)
  | alarmLookup (tag : Nat) (key : AlarmKey)
  | alarmNext (tag cursor : Nat)
  | alarmAck (tag index : Nat)
  | alarmAckSeverity (tag : Nat) (set : BitVec 8)
  | notifyArm (tag : Nat)
  | notifyAck (tag : Nat)
  | notifySet (tag threshold : Nat)
  /-- EPOCH_BOUNDARY (R3, R6): the TBU makes the next boundary. -/
  | epochBoundary
  | holdoverAging
  | holdoverCeiling
  | acquireSample
  | lockedSample
  | lineSample
  | phaseReferencePublication
  | lineReferencePublication
  | selectionLostPublication
  /-- SAT_MESSAGE (R28, R195): the bytes taken on the input's message line; the message completes at its twelfth. -/
  | satMessage (input : SatId) (bytes : List Byte)
  | satMessageLapse (input : SatId)
  | messageIdleTimeout (line : MessageLine)
  /-- PPS_EDGE (R29): the instant of the leading edge. -/
  | ppsEdge (input : SatId) (instant : Instant)
  | deferredEdgeSample (ref : RefId)
  /-- LINE_CLOCK_EDGE (R33): the instant of a rising edge. -/
  | lineClockEdge (input : LineId) (instant : Instant)
  /-- LINE_QUALITY_MESSAGE (R32, R196): the bytes taken on the input's quality line. -/
  | lineQualityMessage (input : LineId) (bytes : List Byte)
  | rmEpochAccounting
  | referenceAbsent (ref : RefId)
  | windowEnd (ref : RefId)
  | parentEnrolledReport (link : LinkId)
  | parentLostReport (link : LinkId)
  | parentFrameMeasure (link : LinkId)
  | selBoundary
  | wtrSwitch
  | provisionalExpiry
  | amendmentApplication
  /-- SERVICE_EVALUATION (R151): older = the STU holds the copy published at the previous boundary (R7). -/
  | serviceEvaluation (older : Bool)
  | linkEpochBoundary (link : LinkId)
  | enrolWindowExpiry (link : LinkId)
  | trainingComplete (link : LinkId)
  | parentSilenceExpiry (link : LinkId)
  | lineSenseLost (link : LinkId)
  | lineSenseReturn (link : LinkId)
  /-- DELIVERY_SLOT_START (R97, R137): the slot that begins, and which copy the LE holds (R7). -/
  | deliverySlotStart (link : LinkId) (slot : Nat) (older : Bool)
  | callSlot (link : LinkId) (older : Bool)
  | farewellSlot (link : LinkId) (slot : Nat)
  /-- EXCHANGE_WINDOW_END (R143): the exchange whose window ends, and the frame the LE is receiving at that moment,
  if one is being received. -/
  | exchangeWindowEnd (link : LinkId) (handle slot index : Nat) (receiving : Option RxFrame)
  | frameGapTimeout (link : LinkId)
  /-- REPLY_FRAME (R142): the instant its address character was taken, its address and the echoed slot and index. -/
  | replyFrame (link : LinkId) (instant : Instant) (addr slot index : Nat)
  /-- ENROL_FRAME (R140): the instant, the address, the site ID and the capability byte. -/
  | enrolFrame (link : LinkId) (instant : Instant) (addr siteId : Nat) (capability : Byte)
  | enrolResult (link : LinkId)
  /-- LINK_FRAME_DISCARDED (R136): the characters taken on the link, back to back, the first at the instant. -/
  | linkFrameDiscarded (link : LinkId) (instant : Instant) (chars : List LinkChar)
  | parentCallFrame (link : LinkId) (instant : Instant) (addr hubId depth : Nat) (seconds : Seconds)
  | parentEnrolSend (link : LinkId)
  | parentTimeFrame (link : LinkId) (instant : Instant) (frame : TimeFrame)
  | parentReplySend (link : LinkId)
  | parentFarewellFrame (link : LinkId) (instant : Instant) (addr siteId hubId : Nat)
  /-- ALARM_SCAN (R163): older = the ATU holds the copy published at the previous boundary (R7). -/
  | alarmScan (older : Bool)
  deriving DecidableEq, Repr

end Sys2Proof
end

