-- ==== Sys2Proof/WellFormed.lean ====
section
/-! DEFINITION. Which commands are well formed: every operand fits the field of the frame, message or slot that carries it (R191 to R196). -/

namespace Sys2Proof

/-- The value fits n bytes (R191, R193). -/
def fits (bytes value : Nat) : Bool := decide (value < 256 ^ bytes)

/-- An absent value fits; a present one as its width says (R193). -/
def optFits (bytes : Nat) : Option Nat → Bool
  | none => true
  | some v => fits bytes v

/-- The value fits a four-byte two's complement number (R191). -/
def fitsSigned (value : Int) : Bool := decide (-2147483648 ≤ value ∧ value ≤ 2147483647)

def optFitsSigned : Option Int → Bool
  | none => true
  | some v => fitsSigned v

/-- An instant does not lie before the end of the cold reset. -/
def instantOk (t : Instant) : Bool := decide (0 ≤ t)

def baseFits : BaseReq → Bool
  | .any => true
  | .explicit b => fits 1 b

def HubSetReq.wf (p : HubSetReq) : Bool :=
  optFits 4 p.identity && optFits 4 p.tTurn && optFits 1 p.parentDrop && optFits 1 p.timeout

def TbSetReq.wf (p : TbSetReq) : Bool :=
  optFits 2 p.learningPeriod && optFits 2 p.lockThreshold && optFits 1 p.lockCount && optFits 2 p.unlockThreshold
    && optFits 2 p.slewLimit && optFits 4 p.ceiling && optFits 2 p.g0 && optFits 2 p.agingInterval && optFits 2 p.ga

def RefGeneralReq.wf (p : RefGeneralReq) : Bool :=
  optFits 2 p.wtr && optFits 1 p.priority && optFits 1 p.hysteresis && optFits 1 p.window && optFits 1 p.floor
    && optFits 1 p.qualifyPeriod && optFits 4 p.gateWidth && optFits 1 p.acceptLevel && optFits 1 p.maxDepth
    && optFits 2 p.baseUncertainty && optFits 2 p.allowance

def RefThresholdReq.wf (p : RefThresholdReq) : Bool :=
  optFits 4 p.t1 && optFits 4 p.t2 && optFits 4 p.t3 && optFits 4 p.t4 && optFits 4 p.t5 && optFits 4 p.t6 && optFits 4 p.t7

/-- A form byte outside 0 and 1 is one byte above 1 (R186). -/
def RefSetBody.wf : RefSetBody → Bool
  | .general g => g.wf
  | .thresholds t => t.wf
  | .other f => decide (2 ≤ f) && fits 1 f

def AdmitReq.wf (p : AdmitReq) : Bool :=
  fits 1 p.handle && fits 1 p.cls && fits 2 p.budget && fits 1 p.rate && baseFits p.slotBase && fits 1 p.ackMode
    && fits 1 p.window && fitsSigned p.compensation

def AmendReq.wf (p : AmendReq) : Bool :=
  fits 1 p.handle && optFits 2 p.budget && optFits 1 p.cls && optFits 1 p.rate
    && (match p.slotBase with | none => true | some b => baseFits b)
    && optFits 1 p.ackMode && optFits 1 p.window && optFitsSigned p.compensation

def AmendGroupReq.wf (p : AmendGroupReq) : Bool :=
  optFits 2 p.budget && optFits 1 p.window && optFitsSigned p.delta

/-- A form byte of SITE_LOOKUP outside 0 to 2 (R193). -/
def SiteKey.wf : SiteKey → Bool
  | .byHandle h => fits 1 h
  | .bySiteId i => fits 4 i
  | .byLinkDrop l d => fits 1 l && fits 1 d
  | .other f => decide (3 ≤ f) && fits 1 f

/-- A form byte of ALARM_LOOKUP outside 0 and 1 (R193). -/
def AlarmKey.wf : AlarmKey → Bool
  | .byIndex i => fits 1 i
  | .bySource t n k => fits 1 t && fits 1 n && fits 1 k
  | .other f => decide (2 ≤ f) && fits 1 f

/-- The fields of a TIME frame fit its bytes (R194). -/
def TimeFrame.wf (f : TimeFrame) : Bool :=
  fits 1 f.addr && fits 1 f.slot && fits 1 f.index && fitsSigned f.offset && decide (f.quality < 16)
    && decide (f.depth < 16) && fitsSigned f.appliedStep && fits 4 f.senderU

/-- A frame being received has taken its address character, and fewer bytes than the longest frame (R135, R194). -/
def rxFits : Option RxFrame → Bool
  | none => true
  | some f => instantOk f.instant && decide (1 ≤ f.bytes.length) && decide (f.bytes.length < 25)

/-- The operands of a command fit what carries them. -/
def Instr.wf : Instr → Bool
  | .coldReset _ => true
  | .writeSelect _ => true
  | .readSelect _ => true
  | .hubSet tag p => fits 1 tag && p.wf
  | .deviceIdentify tag => fits 1 tag
  | .deviceWarmReset tag => fits 1 tag
  | .tbLookup tag => fits 1 tag
  | .tbSet tag p => fits 1 tag && p.wf
  | .tbSetTime tag _ => fits 1 tag
  | .refLookup tag index page => fits 1 tag && fits 1 index && fits 1 page
  | .refSet tag index p => fits 1 tag && fits 1 index && p.wf
  | .refForce tag index => fits 1 tag && fits 1 index
  | .refRelease tag => fits 1 tag
  | .siteCreate tag siteId link drop => fits 1 tag && fits 4 siteId && fits 1 link && fits 1 drop
  | .siteAdmit tag p => fits 1 tag && p.wf
  | .siteAmend tag p => fits 1 tag && p.wf
  | .siteAmendGroup tag p => fits 1 tag && p.wf
  | .siteSuspend tag handle => fits 1 tag && fits 1 handle
  | .siteResume tag handle => fits 1 tag && fits 1 handle
  | .siteRetire tag handle _ => fits 1 tag && fits 1 handle
  | .siteLookup tag key => fits 1 tag && key.wf
  | .siteNext tag cursor => fits 1 tag && fits 4 cursor
  | .siteTakeCounts tag handle => fits 1 tag && fits 1 handle
  | .enrolOpen tag link epochs => fits 1 tag && fits 1 link && fits 1 epochs
  | .enrolClose tag link => fits 1 tag && fits 1 link
  | .linkSet tag link role split => fits 1 tag && fits 1 link && optFits 1 role && optFits 1 split
  | .linkRestart tag link => fits 1 tag && fits 1 link
  | .linkLookup tag link _ => fits 1 tag && fits 1 link
  | .alarmLookup tag key => fits 1 tag && key.wf
  | .alarmNext tag cursor => fits 1 tag && fits 6 cursor
  | .alarmAck tag index => fits 1 tag && fits 1 index
  | .alarmAckSeverity tag _ => fits 1 tag
  | .notifyArm tag => fits 1 tag
  | .notifyAck tag => fits 1 tag
  | .notifySet tag threshold => fits 1 tag && fits 1 threshold
  | .epochBoundary => true
  | .holdoverAging => true
  | .holdoverCeiling => true
  | .acquireSample => true
  | .lockedSample => true
  | .lineSample => true
  | .phaseReferencePublication => true
  | .lineReferencePublication => true
  | .selectionLostPublication => true
  | .satMessage _ _ => true
  | .satMessageLapse _ => true
  | .messageIdleTimeout _ => true
  | .ppsEdge _ t => instantOk t
  | .deferredEdgeSample _ => true
  | .lineClockEdge _ t => instantOk t
  | .lineQualityMessage _ _ => true
  | .rmEpochAccounting => true
  | .referenceAbsent _ => true
  | .windowEnd _ => true
  | .parentEnrolledReport _ => true
  | .parentLostReport _ => true
  | .parentFrameMeasure _ => true
  | .selBoundary => true
  | .wtrSwitch => true
  | .provisionalExpiry => true
  | .amendmentApplication => true
  | .serviceEvaluation _ => true
  | .linkEpochBoundary _ => true
  | .enrolWindowExpiry _ => true
  | .trainingComplete _ => true
  | .parentSilenceExpiry _ => true
  | .lineSenseLost _ => true
  | .lineSenseReturn _ => true
  | .deliverySlotStart _ slot _ => fits 1 slot
  | .callSlot _ _ => true
  | .farewellSlot _ slot => fits 1 slot
  | .exchangeWindowEnd _ handle slot index rx => decide (handle < 64) && fits 1 slot && decide (index < 16) && rxFits rx
  | .frameGapTimeout _ => true
  | .replyFrame _ t addr slot index => instantOk t && fits 1 addr && fits 1 slot && fits 1 index
  | .enrolFrame _ t addr siteId _ => instantOk t && fits 1 addr && fits 4 siteId
  | .enrolResult _ => true
  | .linkFrameDiscarded _ t _ => instantOk t
  | .parentCallFrame _ t addr hubId depth _ => instantOk t && fits 1 addr && fits 4 hubId && fits 1 depth
  | .parentEnrolSend _ => true
  | .parentTimeFrame _ t f => instantOk t && f.wf
  | .parentReplySend _ => true
  | .parentFarewellFrame _ t addr siteId hubId => instantOk t && fits 1 addr && fits 4 siteId && fits 4 hubId
  | .alarmScan _ => true

end Sys2Proof
end

