-- ==== Sys2Proof/Decode.lean ====
section
/-! DEFINITION. Bytes and fields: byte order, check byte, the layout of payloads (R191, R193), the request frames (R185, R192), the link frames (R194), the reference messages (R195, R196), and decodeTableWord. -/

namespace Sys2Proof

/-! ### Bytes (R191) -/

/-- The byte with a value modulo 256. -/
def byteOf (v : Nat) : Byte := BitVec.ofNat 8 v

/-- A number as bytes, most significant first (R191). -/
def beBytes : Nat → Nat → List Byte
  | 0, _ => []
  | n + 1, v => byteOf (v / 256 ^ n) :: beBytes n v

/-- The number that bytes spell, most significant first (R191). -/
def beNat (bs : List Byte) : Nat := bs.foldl (fun a b => a * 256 + b.toNat) 0

/-- A signed number as four bytes of two's complement (R191, R193). -/
def beSigned (v : Int) : List Byte := beBytes 4 (v % 4294967296).toNat

/-- The signed number that four bytes of two's complement spell (R191). -/
def signedOf (v : Nat) : Int := if v < 2147483648 then (v : Int) else (v : Int) - 4294967296

/-- The sum of bytes modulo 256. -/
def byteSum (bs : List Byte) : Byte := bs.foldl (fun a b => a + b) 0

/-- The check byte that makes the whole add up to 0 modulo 256 (R191). -/
def checkByte (bs : List Byte) : Byte := 0 - byteSum bs

/-- The bytes with their check byte after them. -/
def withCheck (bs : List Byte) : List Byte := bs ++ [checkByte bs]

/-- The bytes add up to 0 modulo 256 (R191). -/
def checkHolds (bs : List Byte) : Bool := byteSum bs == 0

/-- Bits as a number, bit k the k-th of them (R193). -/
def bitsNat : List Bool → Nat
  | [] => 0
  | b :: bs => b.toNat + 2 * bitsNat bs

/-- A number as bytes, the first holding bits 0 to 7 (R193, Presence). -/
def leBytes : Nat → Nat → List Byte
  | 0, _ => []
  | n + 1, v => byteOf v :: leBytes n (v / 256)

/-- The number that the presence bytes spell, the first holding bits 0 to 7 (R193). -/
def leNat : List Byte → Nat
  | [] => 0
  | b :: bs => b.toNat + 256 * leNat bs

/-- A byte of a list, 0 beyond its end. -/
def byteAt (bs : List Byte) (k : Nat) : Nat := ((bs.drop k).headD 0).toNat

/-- The number in a run of bytes of a list. -/
def fieldAt (bs : List Byte) (start width : Nat) : Nat := beNat ((bs.drop start).take width)

/-! ### The layout of parameters and payloads (R193) -/

/-- One item of a payload: a value of fixed width, a yes/no value, a value or a yes/no value that may be absent. -/
inductive Item where
  | val (bytes : List Byte)
  | flag (b : Bool)
  | opt (width : Nat) (bytes : Option (List Byte))
  | optFlag (b : Option Bool)
  deriving DecidableEq, Repr

/-- The presence bits an item asks for. -/
def Item.presence : Item → List Bool
  | .val _ => []
  | .flag _ => []
  | .opt _ bs => [bs.isSome]
  | .optFlag b => [b.isSome]

/-- The bits an item puts into the flag byte. -/
def Item.flags : Item → List Bool
  | .val _ => []
  | .flag b => [b]
  | .opt _ _ => []
  | .optFlag b => [b.getD false]

/-- The bytes an item puts among the values: an absent value is sent as 0 across its width. -/
def Item.values : Item → List Byte
  | .val bs => bs
  | .flag _ => []
  | .opt w bs => bs.getD (List.replicate w 0)
  | .optFlag _ => []

/-- The flag byte, where there are yes/no values (R193). -/
def flagByte : List Bool → List Byte
  | [] => []
  | bits => [byteOf (bitsNat bits)]

/-- Presence bytes, flag byte, values (R193, Order). -/
def packItems (items : List Item) : List Byte :=
  let present := items.flatMap Item.presence
  leBytes ((present.length + 7) / 8) (bitsNat present) ++ flagByte (items.flatMap Item.flags)
    ++ items.flatMap Item.values

/-- A number that may be absent, as an item of a width. -/
def optNat (width : Nat) (v : Option Nat) : Item := .opt width (v.map (beBytes width))

/-- A signed number that may be absent. -/
def optInt (v : Option Int) : Item := .opt 4 (v.map beSigned)

/-- A number of a width. -/
def natItem (width v : Nat) : Item := .val (beBytes width v)

/-- A signed number. -/
def intItem (v : Int) : Item := .val (beSigned v)

/-! ### Request frames (R185, R192, R193) -/

/-- The fixed lengths of a request code's frames; an unknown code has none (R185). A REF_SET with a form byte other
than 0 or 1 is taken at either of the two lengths (DESIGN CHOICE, log 22; unsafe). -/
def requestLengths (code form : Nat) : List Nat :=
  match code with
  | 0x01 => [15] | 0x02 => [4] | 0x03 => [4]
  | 0x10 => [4] | 0x11 => [25] | 0x12 => [10]
  | 0x18 => [6] | 0x19 => (match form with | 0 => [26] | 1 => [35] | _ => [26, 35]) | 0x1A => [5] | 0x1B => [4]
  | 0x20 => [10] | 0x21 => [18] | 0x22 => [20] | 0x23 => [14] | 0x24 => [5] | 0x25 => [5] | 0x26 => [6]
  | 0x27 => [9] | 0x28 => [8] | 0x29 => [5]
  | 0x30 => [6] | 0x31 => [5] | 0x32 => [8] | 0x33 => [5] | 0x34 => [6]
  | 0x40 => [9] | 0x41 => [10] | 0x42 => [5] | 0x43 => [5] | 0x44 => [4] | 0x45 => [4] | 0x46 => [5]
  | _ => []

/-- The frame passes the length and sum checks of R182. -/
def frameSound (frame : List Byte) : Bool :=
  decide (4 ≤ frame.length ∧ frame.length ≤ 40) && byteAt frame 1 == frame.length && checkHolds frame

/-- The frame's code names a request of section 10.2 (R182). -/
def codeKnown (frame : List Byte) : Bool := !(requestLengths (byteAt frame 0) (byteAt frame 4)).isEmpty

/-- The frame has a fixed length of its code and form (R182). -/
def lengthFits (frame : List Byte) : Bool :=
  (requestLengths (byteAt frame 0) (byteAt frame 4)).contains frame.length

/-- A value with a presence bit: bit k of the presence number (R193). The bits above those of named values are not judged
(log 48). -/
def presentAt {α : Type} (present k : Nat) (v : α) : Option α := if present.testBit k then some v else none

/-- HUB_SET's parameters (R187), after the three bytes of the header. -/
def readHubSet (ps : List Byte) : HubSetReq :=
  let p := byteAt ps 0
  { identity := presentAt p 0 (fieldAt ps 1 4), tTurn := presentAt p 1 (fieldAt ps 5 4),
    parentDrop := presentAt p 2 (fieldAt ps 9 1), timeout := presentAt p 3 (fieldAt ps 10 1) }

/-- TB_SET's parameters (R25). The order of the nine values and their presence bits is that of section 1.1's table of settings
(DESIGN CHOICE, log 51; unsafe). -/
def readTbSet (ps : List Byte) : TbSetReq :=
  let p := leNat (ps.take 2)
  { learningPeriod := presentAt p 0 (fieldAt ps 2 2), lockThreshold := presentAt p 1 (fieldAt ps 4 2),
    lockCount := presentAt p 2 (fieldAt ps 6 1), unlockThreshold := presentAt p 3 (fieldAt ps 7 2),
    slewLimit := presentAt p 4 (fieldAt ps 9 2), ceiling := presentAt p 5 (fieldAt ps 11 4),
    g0 := presentAt p 6 (fieldAt ps 15 2), agingInterval := presentAt p 7 (fieldAt ps 17 2),
    ga := presentAt p 8 (fieldAt ps 19 2) }

/-- REF_SET's form 0 after the index and form bytes: presence, flags, values in the order R186 names them (log 20). -/
def readRefGeneral (ps : List Byte) : RefGeneralReq :=
  let p := leNat (ps.take 2)
  let f := byteAt ps 2
  { wtr := presentAt p 0 (fieldAt ps 3 2), revertive := presentAt p 1 (f.testBit 0),
    enabled := presentAt p 2 (f.testBit 1), priority := presentAt p 3 (fieldAt ps 5 1),
    hysteresis := presentAt p 4 (fieldAt ps 6 1), window := presentAt p 5 (fieldAt ps 7 1),
    floor := presentAt p 6 (fieldAt ps 8 1), qualifyPeriod := presentAt p 7 (fieldAt ps 9 1),
    gateWidth := presentAt p 8 (fieldAt ps 10 4), acceptLevel := presentAt p 9 (fieldAt ps 14 1),
    maxDepth := presentAt p 10 (fieldAt ps 15 1), baseUncertainty := presentAt p 11 (fieldAt ps 16 2),
    allowance := presentAt p 12 (fieldAt ps 18 2) }

/-- REF_SET's form 1 after the index and form bytes (R186). -/
def readRefThresholds (ps : List Byte) : RefThresholdReq :=
  let p := byteAt ps 0
  { t1 := presentAt p 0 (fieldAt ps 1 4), t2 := presentAt p 1 (fieldAt ps 5 4), t3 := presentAt p 2 (fieldAt ps 9 4),
    t4 := presentAt p 3 (fieldAt ps 13 4), t5 := presentAt p 4 (fieldAt ps 17 4), t6 := presentAt p 5 (fieldAt ps 21 4),
    t7 := presentAt p 6 (fieldAt ps 25 4) }

/-- REF_SET's body by its form byte (R186). -/
def readRefSet (ps : List Byte) : RefSetBody :=
  match byteAt ps 1 with
  | 0 => .general (readRefGeneral (ps.drop 2))
  | 1 => .thresholds (readRefThresholds (ps.drop 2))
  | f => .other f

/-- A slot base byte with its "any" bit (R193, Flag byte). -/
def readBase (anyBit : Bool) (v : Nat) : BaseReq := if anyBit then .any else .explicit v

/-- SITE_ADMIT's parameters (R80): handle, flags, class, budget, rate, base, mode, window code, compensation, groups. -/
def readAdmit (ps : List Byte) : AdmitReq :=
  let f := byteAt ps 1
  { handle := byteAt ps 0, protectedFlag := f.testBit 0, squelch := f.testBit 1, autoComp := f.testBit 2,
    cls := fieldAt ps 2 1, budget := fieldAt ps 3 2, rate := fieldAt ps 5 1,
    slotBase := readBase (f.testBit 3) (fieldAt ps 6 1), ackMode := fieldAt ps 7 1, window := fieldAt ps 8 1,
    compensation := signedOf (fieldAt ps 9 4), groups := byteOf (fieldAt ps 13 1) }

/-- SITE_AMEND's parameters (R113). -/
def readAmend (ps : List Byte) : AmendReq :=
  let p := leNat ((ps.drop 1).take 2)
  let f := byteAt ps 3
  { handle := byteAt ps 0, budget := presentAt p 0 (fieldAt ps 4 2), groups := presentAt p 1 (byteOf (fieldAt ps 6 1)),
    protectedFlag := presentAt p 2 (f.testBit 0), autoComp := presentAt p 3 (f.testBit 1),
    cls := presentAt p 4 (fieldAt ps 7 1), rate := presentAt p 5 (fieldAt ps 8 1),
    slotBase := presentAt p 6 (readBase (f.testBit 3) (fieldAt ps 9 1)), ackMode := presentAt p 7 (fieldAt ps 10 1),
    window := presentAt p 8 (fieldAt ps 11 1), compensation := presentAt p 9 (signedOf (fieldAt ps 12 4)),
    squelch := presentAt p 10 (f.testBit 2) }

/-- SITE_AMEND_GROUP's parameters (R122). -/
def readAmendGroup (ps : List Byte) : AmendGroupReq :=
  let p := byteAt ps 1
  let f := byteAt ps 2
  { mask := byteOf (byteAt ps 0), budget := presentAt p 0 (fieldAt ps 3 2), window := presentAt p 1 (fieldAt ps 5 1),
    squelch := presentAt p 2 (f.testBit 0), autoComp := presentAt p 3 (f.testBit 1),
    delta := presentAt p 4 (signedOf (fieldAt ps 6 4)) }

/-- SITE_LOOKUP's form byte and the four bytes after it (R193). -/
def readSiteKey (ps : List Byte) : SiteKey :=
  match byteAt ps 0 with
  | 0 => .byHandle (byteAt ps 1)
  | 1 => .bySiteId (fieldAt ps 1 4)
  | 2 => .byLinkDrop (byteAt ps 1) (byteAt ps 2)
  | f => .other f

/-- ALARM_LOOKUP's form byte and the four bytes after it (R193): index, source type, source number, kind. -/
def readAlarmKey (ps : List Byte) : AlarmKey :=
  match byteAt ps 0 with
  | 0 => .byIndex (byteAt ps 1)
  | 1 => .bySource (byteAt ps 2) (byteAt ps 3) (byteAt ps 4)
  | f => .other f

/-- The request row that a frame of the management port spells, by its code (R185). -/
def decodeRequest (frame : List Byte) : Option Instr :=
  let tag := byteAt frame 2
  let ps := frame.drop 3
  match byteAt frame 0 with
  | 0x01 => some (.hubSet tag (readHubSet ps))
  | 0x02 => some (.deviceIdentify tag)
  | 0x03 => some (.deviceWarmReset tag)
  | 0x10 => some (.tbLookup tag)
  | 0x11 => some (.tbSet tag (readTbSet ps))
  | 0x12 => some (.tbSetTime tag (BitVec.ofNat 48 (fieldAt ps 0 6)))
  | 0x18 => some (.refLookup tag (byteAt ps 0) (byteAt ps 1))
  | 0x19 => some (.refSet tag (byteAt ps 0) (readRefSet ps))
  | 0x1A => some (.refForce tag (byteAt ps 0))
  | 0x1B => some (.refRelease tag)
  | 0x20 => some (.siteCreate tag (fieldAt ps 0 4) (byteAt ps 4) (byteAt ps 5))
  | 0x21 => some (.siteAdmit tag (readAdmit ps))
  | 0x22 => some (.siteAmend tag (readAmend ps))
  | 0x23 => some (.siteAmendGroup tag (readAmendGroup ps))
  | 0x24 => some (.siteSuspend tag (byteAt ps 0))
  | 0x25 => some (.siteResume tag (byteAt ps 0))
  | 0x26 => some (.siteRetire tag (byteAt ps 0) ((byteAt ps 1).testBit 0))
  | 0x27 => some (.siteLookup tag (readSiteKey ps))
  | 0x28 => some (.siteNext tag (fieldAt ps 0 4))
  | 0x29 => some (.siteTakeCounts tag (byteAt ps 0))
  | 0x30 => some (.enrolOpen tag (byteAt ps 0) (byteAt ps 1))
  | 0x31 => some (.enrolClose tag (byteAt ps 0))
  | 0x32 => some (.linkSet tag (byteAt ps 0) (presentAt (byteAt ps 1) 0 (byteAt ps 2)) (presentAt (byteAt ps 1) 1 (byteAt ps 3)))
  | 0x33 => some (.linkRestart tag (byteAt ps 0))
  | 0x34 => some (.linkLookup tag (byteAt ps 0) ((byteAt ps 1).testBit 0))
  | 0x40 => some (.alarmLookup tag (readAlarmKey ps))
  | 0x41 => some (.alarmNext tag (fieldAt ps 0 6))
  | 0x42 => some (.alarmAck tag (byteAt ps 0))
  | 0x43 => some (.alarmAckSeverity tag (byteOf (byteAt ps 0)))
  | 0x44 => some (.notifyArm tag)
  | 0x45 => some (.notifyAck tag)
  | 0x46 => some (.notifySet tag (byteAt ps 0))
  | _ => none

/-- A request frame: code, length, tag, parameters, check byte (R192). -/
def requestFrame (code tag : Nat) (params : List Byte) : List Byte :=
  withCheck ([byteOf code, byteOf (params.length + 4), byteOf tag] ++ params)

def hubSetParams (p : HubSetReq) : List Byte :=
  packItems [optNat 4 p.identity, optNat 4 p.tTurn, optNat 1 p.parentDrop, optNat 1 p.timeout]

/-- The order of readTbSet (log 51). -/
def tbSetParams (p : TbSetReq) : List Byte :=
  packItems [optNat 2 p.learningPeriod, optNat 2 p.lockThreshold, optNat 1 p.lockCount, optNat 2 p.unlockThreshold,
    optNat 2 p.slewLimit, optNat 4 p.ceiling, optNat 2 p.g0, optNat 2 p.agingInterval, optNat 2 p.ga]

def refGeneralParams (g : RefGeneralReq) : List Byte :=
  packItems [optNat 2 g.wtr, .optFlag g.revertive, .optFlag g.enabled, optNat 1 g.priority, optNat 1 g.hysteresis,
    optNat 1 g.window, optNat 1 g.floor, optNat 1 g.qualifyPeriod, optNat 4 g.gateWidth, optNat 1 g.acceptLevel,
    optNat 1 g.maxDepth, optNat 2 g.baseUncertainty, optNat 2 g.allowance]

def refThresholdParams (t : RefThresholdReq) : List Byte :=
  packItems [optNat 4 t.t1, optNat 4 t.t2, optNat 4 t.t3, optNat 4 t.t4, optNat 4 t.t5, optNat 4 t.t6, optNat 4 t.t7]

/-- The form byte and what follows it; an unknown form is written at form 0's length (log 22). -/
def refSetParams : RefSetBody → List Byte
  | .general g => byteOf 0 :: refGeneralParams g
  | .thresholds t => byteOf 1 :: refThresholdParams t
  | .other f => byteOf f :: List.replicate 20 0

def baseValue : BaseReq → Nat
  | .any => 0
  | .explicit b => b

def baseIsAny : BaseReq → Bool
  | .any => true
  | .explicit _ => false

def admitParams (p : AdmitReq) : List Byte :=
  byteOf p.handle :: packItems [natItem 1 p.cls, natItem 2 p.budget, natItem 1 p.rate, natItem 1 (baseValue p.slotBase),
    natItem 1 p.ackMode, natItem 1 p.window, intItem p.compensation, .flag p.protectedFlag, .flag p.squelch,
    .flag p.autoComp, .flag (baseIsAny p.slotBase), natItem 1 p.groups.toNat]

def amendParams (p : AmendReq) : List Byte :=
  byteOf p.handle :: packItems [optNat 2 p.budget, optNat 1 (p.groups.map BitVec.toNat), .optFlag p.protectedFlag,
    .optFlag p.autoComp, optNat 1 p.cls, optNat 1 p.rate, optNat 1 (p.slotBase.map baseValue), optNat 1 p.ackMode,
    optNat 1 p.window, optInt p.compensation, .optFlag p.squelch, .flag ((p.slotBase.map baseIsAny).getD false)]

def amendGroupParams (p : AmendGroupReq) : List Byte :=
  byteOf p.mask.toNat :: packItems [optNat 2 p.budget, optNat 1 p.window, .optFlag p.squelch, .optFlag p.autoComp,
    optInt p.delta]

def siteKeyParams : SiteKey → List Byte
  | .byHandle h => [byteOf 0, byteOf h, 0, 0, 0]
  | .bySiteId i => byteOf 1 :: beBytes 4 i
  | .byLinkDrop l d => [byteOf 2, byteOf l, byteOf d, 0, 0]
  | .other f => [byteOf f, 0, 0, 0, 0]

def alarmKeyParams : AlarmKey → List Byte
  | .byIndex i => [byteOf 0, byteOf i, 0, 0, 0]
  | .bySource t n k => [byteOf 1, 0, byteOf t, byteOf n, byteOf k]
  | .other f => [byteOf f, 0, 0, 0, 0]

/-- The frame of a request row, and none for an event row (R185, R192, R193). -/
def encodeRequest : Instr → Option (List Byte)
  | .hubSet tag p => some (requestFrame 0x01 tag (hubSetParams p))
  | .deviceIdentify tag => some (requestFrame 0x02 tag [])
  | .deviceWarmReset tag => some (requestFrame 0x03 tag [])
  | .tbLookup tag => some (requestFrame 0x10 tag [])
  | .tbSet tag p => some (requestFrame 0x11 tag (tbSetParams p))
  | .tbSetTime tag v => some (requestFrame 0x12 tag (beBytes 6 v.toNat))
  | .refLookup tag index page => some (requestFrame 0x18 tag [byteOf index, byteOf page])
  | .refSet tag index p => some (requestFrame 0x19 tag (byteOf index :: refSetParams p))
  | .refForce tag index => some (requestFrame 0x1A tag [byteOf index])
  | .refRelease tag => some (requestFrame 0x1B tag [])
  | .siteCreate tag siteId link drop => some (requestFrame 0x20 tag (beBytes 4 siteId ++ [byteOf link, byteOf drop]))
  | .siteAdmit tag p => some (requestFrame 0x21 tag (admitParams p))
  | .siteAmend tag p => some (requestFrame 0x22 tag (amendParams p))
  | .siteAmendGroup tag p => some (requestFrame 0x23 tag (amendGroupParams p))
  | .siteSuspend tag handle => some (requestFrame 0x24 tag [byteOf handle])
  | .siteResume tag handle => some (requestFrame 0x25 tag [byteOf handle])
  | .siteRetire tag handle now => some (requestFrame 0x26 tag [byteOf handle, byteOf now.toNat])
  | .siteLookup tag key => some (requestFrame 0x27 tag (siteKeyParams key))
  | .siteNext tag cursor => some (requestFrame 0x28 tag (beBytes 4 cursor))
  | .siteTakeCounts tag handle => some (requestFrame 0x29 tag [byteOf handle])
  | .enrolOpen tag link n => some (requestFrame 0x30 tag [byteOf link, byteOf n])
  | .enrolClose tag link => some (requestFrame 0x31 tag [byteOf link])
  | .linkSet tag link role split => some (requestFrame 0x32 tag (byteOf link :: packItems [optNat 1 role, optNat 1 split]))
  | .linkRestart tag link => some (requestFrame 0x33 tag [byteOf link])
  | .linkLookup tag link take => some (requestFrame 0x34 tag [byteOf link, byteOf take.toNat])
  | .alarmLookup tag key => some (requestFrame 0x40 tag (alarmKeyParams key))
  | .alarmNext tag cursor => some (requestFrame 0x41 tag (beBytes 6 cursor))
  | .alarmAck tag index => some (requestFrame 0x42 tag [byteOf index])
  | .alarmAckSeverity tag set => some (requestFrame 0x43 tag [byteOf set.toNat])
  | .notifyArm tag => some (requestFrame 0x44 tag [])
  | .notifyAck tag => some (requestFrame 0x45 tag [])
  | .notifySet tag threshold => some (requestFrame 0x46 tag [byteOf threshold])
  | _ => none

/-! ### Site link frames (R194) -/

/-- The fixed length of a frame by its type byte, none for an unknown type (R194). -/
def linkFrameLength (type : Nat) : Option Nat :=
  match type with
  | 0x31 => some 25 | 0x32 => some 14 | 0x33 => some 11 | 0x34 => some 5 | 0x35 => some 8
  | _ => none

/-- The bytes of a link frame, its check byte last (R194). -/
def encodeLinkFrame : LinkFrame → List Byte
  | .time f => withCheck ([byteOf f.addr, byteOf 0x31] ++ beBytes 6 f.seconds.toNat ++ [byteOf f.slot, byteOf f.index]
      ++ beSigned f.offset ++ [byteOf (f.quality * 16 + f.depth)] ++ beSigned f.appliedStep ++ beBytes 4 f.senderU
      ++ [byteOf f.replyRequested.toNat])
  | .call addr hubId depth seconds =>
      withCheck ([byteOf addr, byteOf 0x32] ++ beBytes 4 hubId ++ [byteOf depth] ++ beBytes 6 seconds.toNat)
  | .farewell addr siteId hubId => withCheck ([byteOf addr, byteOf 0x33] ++ beBytes 4 siteId ++ beBytes 4 hubId)
  | .reply addr slot index => withCheck [byteOf addr, byteOf 0x34, byteOf slot, byteOf index]
  | .enrol addr siteId cap => withCheck ([byteOf addr, byteOf 0x35] ++ beBytes 4 siteId ++ [cap])

/-- The fields of a complete frame whose check byte holds; none for an unknown type, a wrong length or a bad check. -/
def decodeLinkFrame (bs : List Byte) : Option LinkFrame :=
  if linkFrameLength (byteAt bs 1) == some bs.length && checkHolds bs then
    match byteAt bs 1 with
    | 0x31 => some (.time {
        addr := byteAt bs 0, seconds := BitVec.ofNat 48 (fieldAt bs 2 6), slot := byteAt bs 8, index := byteAt bs 9,
        offset := signedOf (fieldAt bs 10 4), quality := byteAt bs 14 / 16, depth := byteAt bs 14 % 16,
        appliedStep := signedOf (fieldAt bs 15 4), senderU := fieldAt bs 19 4, replyRequested := (byteAt bs 23).testBit 0 })
    | 0x32 => some (.call (byteAt bs 0) (fieldAt bs 2 4) (byteAt bs 6) (BitVec.ofNat 48 (fieldAt bs 7 6)))
    | 0x33 => some (.farewell (byteAt bs 0) (fieldAt bs 2 4) (fieldAt bs 6 4))
    | 0x34 => some (.reply (byteAt bs 0) (byteAt bs 2) (byteAt bs 3))
    | 0x35 => some (.enrol (byteAt bs 0) (fieldAt bs 2 4) (byteOf (byteAt bs 6)))
    | _ => none
  else none

/-! ### Reference messages (R195, R196) -/

/-- The format check of a satellite message: length byte 12 and the check byte holds (R195). -/
def satMessageSound (bs : List Byte) : Bool := byteAt bs 1 == 12 && checkHolds bs

/-- The format check of a line quality message: high four bits 0 and the check byte holds (R196). -/
def lineMessageSound (bs : List Byte) : Bool := decide (byteAt bs 1 < 16) && checkHolds bs

/-- One byte taken by a message receiver: a message begins at its sync byte while none is in progress, a stray byte is
ignored, and the message is complete at its length (R195, R196). Answers what is now in progress, and the message that
this byte completed. -/
def takeMessageByte (sync : Nat) (length : Nat) (part : List Byte) (b : Byte) : List Byte × Option (List Byte) :=
  match part with
  | [] => if b.toNat == sync then ([b], none) else ([], none)
  | p :: ps => if (p :: ps).length + 1 == length then ([], some ((p :: ps) ++ [b])) else ((p :: ps) ++ [b], none)

/-- A run of bytes taken by a message receiver: what is left in progress, and the messages completed, in order. -/
def takeMessageBytes (sync length : Nat) : List Byte → List Byte → List Byte × List (List Byte)
  | part, [] => (part, [])
  | part, b :: bs =>
    let (part', done) := takeMessageByte sync length part b
    let (rest, more) := takeMessageBytes sync length part' bs
    (rest, done.toList ++ more)

/-! ### The table's bits -/

/-- The command a word of the table's bits spells: no row of spec/opcode_table.json gives bits, so none. -/
def decodeTableWord (_nbits _w : Nat) : Option Instr := none

end Sys2Proof
end

