-- ==== Sys2Proof/Machine/State.lean ====
section
/-! DEFINITION. The state of the part: every record of its seven blocks, what is in transit between them, and the commands waiting; State.reset is the part right after a cold reset. -/

namespace Sys2Proof.Machine

/-! ### Names of states, verdicts and kinds -/

/-- The timebase states (section 1.1). -/
inductive TbState where
  | freerun | acquire | locked | freqHold | holdover
  deriving DecidableEq, Repr

/-- The states of a Reference Table entry (section 3.1). -/
inductive RefState where
  | absent | qualifying | qualified | disqualified
  deriving DecidableEq, Repr

/-- Why an entry is DISQUALIFIED (section 2.1). -/
inductive Cause where
  | quality | declared | outlier | time | chain
  deriving DecidableEq, Repr

/-- The verdict on what a reference declared (R34). -/
inductive Verdict where
  | acceptable | declared | chain | time
  deriving DecidableEq, Repr

/-- Lifecycle states of a site record (chapter 4). -/
inductive Lifecycle where
  | provisional | active | suspended | retiring
  deriving DecidableEq, Repr

/-- Service classes (section 4.1). -/
inductive SiteClass where
  | freq | phaseStd | phaseTight
  deriving DecidableEq, Repr

/-- Acknowledge modes (section 4.1). -/
inductive AckMode where
  | confirmed | unconfirmed
  deriving DecidableEq, Repr

/-- Service conditions (R150). -/
inductive Condition where
  | none | inService | degraded | unusable
  deriving DecidableEq, Repr

/-- Silence levels (R144). -/
inductive Silence where
  | none | short | long
  deriving DecidableEq, Repr

/-- Link roles (section 7.1). -/
inductive LinkRole where
  | serve | parent | off
  deriving DecidableEq, Repr

/-- Link states (section 7.1). -/
inductive LinkState where
  | down | training | up
  deriving DecidableEq, Repr

/-- Parent states (section 7.1). -/
inductive ParentState where
  | unenrolled | enrolled
  deriving DecidableEq, Repr

/-- Alarm severities, from highest to lowest (00_scope.md, Severity). -/
inductive Severity where
  | critical | major | minor | warning
  deriving DecidableEq, Repr

/-- Alarm kinds (R162). -/
inductive AlarmKind where
  | tbFreerun | tbHoldover | tbFreqHold | refAbsent | refDisqualified | linkDown | siteService | siteSilence | tableFull
  deriving DecidableEq, Repr

/-- What an alarm entry is about (R160); a site source carries the copy of the record's site ID. -/
inductive AlarmSource where
  | timebase
  | ref (r : RefId)
  | link (l : LinkId)
  | site (handle siteId : Nat)
  | table
  deriving DecidableEq, Repr

/-- Whether the owner's condition is present as of the last scan (R160). -/
inductive AlarmCondition where
  | active | cleared
  deriving DecidableEq, Repr

/-- States of the management port (section 10.1). -/
inductive PortState where
  | idle | executing | responseReady
  deriving DecidableEq, Repr

/-- Result codes (00_scope.md, Results). -/
inductive Result where
  | ok | accepted | noRecord | duplicate | full | noSlots | align | region | conflict | protectedField | badState
  | range | capability | role | checkError | unknown
  deriving DecidableEq, Repr

/-- One entry of a slot map (R96). -/
inductive SlotEntry where
  | free
  | held (handle : Nat)
  | reserved (handle : Nat)
  deriving DecidableEq, Repr

/-! ### Time -/

/-- Local time, the oscillator time it has taken, and the epoch boundaries (R3); log 3. -/
structure Clock where
  now : Instant
  /-- Oscillator time elapsed, in units of 10^-24 s: a ps of local time takes 10^12 + f of them (R3). -/
  osc : Int
  boundaryAt : Instant
  nextAt : Instant
  boundaries : Nat
  deriving DecidableEq, Repr

/-! ### Timebase Unit -/

/-- The nine timebase settings (section 1.1). -/
structure TbSettings where
  learningPeriod : Nat
  lockThreshold : Nat
  lockCount : Nat
  unlockThreshold : Nat
  slewLimit : Nat
  ceiling : Nat
  g0 : Nat
  agingInterval : Nat
  ga : Nat
  deriving DecidableEq, Repr

/-- The timebase record (section 1.1). -/
structure Timebase where
  state : TbState
  timeValid : Bool
  seconds : Seconds
  f : Int
  steered : Bool
  e : Option Int
  inLock : Nat
  learning : Nat
  /-- U, in ps. -/
  u : Nat
  g : Nat
  aging : Nat
  /-- A boundary has raised the aging count, and it has not been compared with A since (R21, log 2). -/
  agingDue : Bool
  holdoverEpochs : Nat
  selected : Option RefId
  stepSum : Int
  appliedStep : Int
  settings : TbSettings
  deriving DecidableEq, Repr

/-- The published copy (R7). -/
structure Published where
  state : TbState
  timeValid : Bool
  seconds : Seconds
  uNs : Nat
  selected : Option RefId
  appliedStep : Int
  deriving DecidableEq, Repr

/-! ### Reference Monitor -/

/-- The settings of an entry (section 2.1). -/
structure RefSettings where
  enabled : Bool
  priority : Nat
  thresholds : List Nat
  hysteresis : Nat
  window : Nat
  floor : Nat
  qualifyPeriod : Nat
  gateWidth : Nat
  acceptLevel : Nat
  maxDepth : Nat
  baseUncertainty : Nat
  allowance : Nat
  deriving DecidableEq, Repr

/-- What the input last declared (R29, R31, R32); the fields of the other kinds stay absent. -/
structure Declared where
  message : Option Bool
  tracking : Option Bool
  accuracy : Option Nat
  level : Option Nat
  parentQuality : Option Nat
  parentDepth : Option Nat
  parentU : Option Nat
  deriving DecidableEq, Repr

/-- The difference base with its measuring boundary (section 2.1). -/
structure DiffBase where
  value : Int
  boundary : Nat
  deriving DecidableEq, Repr

/-- What a formed sample leaves for the epoch report (R44). -/
structure SampleRec where
  verdict : Verdict
  outlier : Bool
  deriving DecidableEq, Repr

/-- What came with a reference edge (R29, R31): its declared count, the paired message's tracking flag, the
frame's quality code and chain depth. -/
structure EdgeInfo where
  declared : Option Seconds
  tracking : Option Bool
  quality : Nat
  depth : Nat
  deriving DecidableEq, Repr

/-- An edge that waits for its boundary (R30): the boundary's number. -/
structure WaitingEdge where
  instant : Instant
  boundary : Nat
  info : EdgeInfo
  deriving DecidableEq, Repr

/-- A Reference Table entry (section 2.1), and what the RM keeps of its samples until they are accounted (R39). -/
structure RefEntry where
  state : RefState
  cause : Option Cause
  qualify : Nat
  missRun : Nat
  lostLatch : Bool
  lastSample : Option Int
  lastDeclared : Option Seconds
  lastAge : Nat
  /-- A sample has become the last sample, so that the last sample age goes on with each boundary made (R37). -/
  ageRuns : Bool
  base : Option DiffBase
  /-- The applied steps published since the base's measuring boundary (R38). -/
  stepsSince : Int
  windowSum : Nat
  windowCount : Nat
  /-- Squared differences of samples measured against a boundary not yet accounted (log 30). -/
  aheadSum : Nat
  aheadCount : Nat
  windowEpochs : Option Nat
  /-- The window began at a boundary not yet accounted, whose accounting does not count as an epoch of it (log 30). -/
  windowAhead : Bool
  /-- A REF_SET carried W: the window restarts at the next accounting (R47). -/
  windowRestart : Bool
  wf : Nat
  q : Nat
  worstQ : Nat
  outlierRun : Nat
  declared : Declared
  /-- U of the most recent TIME frame handed over (R19); PARENT only (log 13). -/
  recentParentU : Option Nat
  settings : RefSettings
  /-- The sample of the epoch that the last accounted boundary began, and of the one after it (R39, log 30). -/
  thisEpoch : Option SampleRec
  nextEpoch : Option SampleRec
  /-- The last epoch report showed a sample with verdict ACCEPTABLE (R53). -/
  epochAcceptable : Bool
  /-- The boundaries, of the most recent and the next, that an edge has been attributed to (R29, R31). -/
  edges : List Nat
  waiting : Option WaitingEdge
  /-- The sample (or, for LINE, the difference) offered to the TBU and not yet taken (R37, log 9). -/
  offer : Option Int
  deriving DecidableEq, Repr

/-- A waiting satellite message (R28), with the boundaries made since it was taken. -/
structure SatMessage where
  seconds : Seconds
  tracking : Bool
  accuracy : Nat
  boundaries : Nat
  deriving DecidableEq, Repr

/-- A satellite input: the waiting message, and a message partly received (R28, R195). -/
structure SatInput where
  waiting : Option SatMessage
  part : List Byte
  deriving DecidableEq, Repr

/-- A line input: a quality message partly received, and whether the RM waits for a clock edge (R196, R33). -/
structure LineInput where
  part : List Byte
  edgeWait : Bool
  deriving DecidableEq, Repr

/-- The Reference Monitor. -/
structure Monitor where
  entries : PerRef RefEntry
  inputA : SatInput
  inputB : SatInput
  clockA : LineInput
  clockB : LineInput
  parentPresent : Bool
  /-- The number of the boundary last accounted (R39, log 30). -/
  accounted : Nat
  deriving DecidableEq, Repr

/-! ### Reference Selector -/

/-- The SEL's record and settings (section 3.3), and the publications the TBU has not yet taken (R65). -/
structure Selector where
  selected : Option RefId
  forced : Option RefId
  wtrCand : Option RefId
  wtrCount : Nat
  /-- A boundary has raised the WTR counter, and it has not been compared with WTR since (R61, log 2). -/
  wtrDue : Bool
  wtr : Nat
  revertive : Bool
  toTbu : List (Option RefId)
  deriving DecidableEq, Repr

/-! ### Site Table Unit -/

/-- A declared capability (section 4.1): the highest rate is 1, 2, 4, 8 or 16. -/
structure Capability where
  phase : Bool
  tight : Bool
  highest : Nat
  deriving DecidableEq, Repr

/-- A pending amendment's eight staged values (R112); absent when all eight are. -/
structure Pending where
  cls : Option SiteClass
  budget : Option Nat
  rate : Option Nat
  slotBase : Option Nat
  ackMode : Option AckMode
  window : Option Nat
  compensation : Option Int
  squelch : Option Bool
  deriving DecidableEq, Repr

/-- An open exchange (R141); held = its window has ended while a frame of the record's drop is received (R143). -/
structure Exchange where
  slot : Nat
  index : Nat
  sendTime : Instant
  windowEnd : Nat
  held : Bool
  deriving DecidableEq, Repr

/-- A site record: administrative fields, then exchange fields (section 4.1). -/
structure SiteRecord where
  handle : Nat
  siteId : Nat
  link : LinkId
  drop : Nat
  lifecycle : Lifecycle
  cls : Option SiteClass
  budget : Option Nat
  rate : Option Nat
  slotBase : Option Nat
  ackMode : Option AckMode
  window : Option Nat
  groups : BitVec 8
  protectedFlag : Bool
  squelch : Bool
  autoComp : Bool
  capability : Option Capability
  expiry : Option Nat
  pending : Pending
  condition : Condition
  compensation : Int
  exchanges : List Exchange
  missRun : Nat
  silence : Silence
  sent : Nat
  onTime : Nat
  late : Nat
  missed : Nat
  lastRoundTrip : Option Nat
  serviceStarted : Bool
  /-- An on-time reply was completed since the last boundary the LE took (R145, log 31). -/
  onTimeSince : Bool
  /-- The boundary at which a staged compensation was last applied (R145, log 31). -/
  stagedCompAt : Option Nat
  deriving DecidableEq, Repr

/-- The Site Table Unit: the records in ascending order of handle, and its three collections (R70 to R72). -/
structure SiteTable where
  records : List SiteRecord
  index : List (Nat × Nat)
  freeHandles : List Nat
  dropMaps : PerLink (List (Option Nat))
  provisionalTimeout : Nat
  deriving DecidableEq, Repr

/-! ### Link Engines -/

/-- What the parent-role LE hands to the RM (R56, R147). -/
inductive ParentEvent where
  | enrolled
  | lost
  | frame (instant : Instant) (f : TimeFrame)
  deriving DecidableEq, Repr

/-- An ENROL result (R75). -/
structure EnrolResult where
  drop : Nat
  siteId : Nat
  capability : Capability
  deriving DecidableEq, Repr

/-- A REPLY scheduled in PARENT role (R147). -/
structure ScheduledReply where
  due : Instant
  slot : Nat
  index : Nat
  deriving DecidableEq, Repr

/-- A frame on the transmit pair: the instant it was sent, and its bytes (R135). -/
structure TxFrame where
  instant : Instant
  bytes : List Byte
  deriving DecidableEq, Repr

/-- The CALL of a calling epoch: the boundary that began the epoch, and the start of slot S (R106, R107). -/
structure Calling where
  boundary : Nat
  instant : Instant
  deriving DecidableEq, Repr

/-- A link record with its plan (section 7.1, R96, R98, R108), its pins, and what is in transit on and from it. -/
structure Link where
  role : LinkRole
  state : LinkState
  trainingCount : Nat
  downLatch : Bool
  split : Nat
  pendingSplit : Option Nat
  window : Nat
  enrolConflicts : Nat
  enrolRefused : Nat
  badFrames : Nat
  strayReplies : Nat
  parentState : ParentState
  ownDrop : Option Nat
  parentSilence : Nat
  slots : List SlotEntry
  retireQueue : List Nat
  sense : Bool
  tx : Option TxFrame
  rx : Option RxFrame
  /-- The instant from which a frame's address character is taken: of the boundary that made the link UP, or of a warm reset
since (R127, R129, R136). -/
  hearsFrom : Instant
  calling : Option Calling
  toRm : List ParentEvent
  toStu : List EnrolResult
  dueEnrols : List Instant
  dueReplies : List ScheduledReply
  deriving DecidableEq, Repr

/-! ### Alarm Table Unit -/

/-- An alarm entry (R160). -/
structure AlarmEntry where
  index : Nat
  serial : Nat
  source : AlarmSource
  kind : AlarmKind
  severity : Severity
  condition : AlarmCondition
  acknowledged : Bool
  root : Option Nat
  raiseCount : Nat
  firstRaised : Seconds
  lastChange : Seconds
  unrecorded : Nat
  deriving DecidableEq, Repr

/-- The Alarm Table in age order, the next serial, the last unrecorded count and the notify state (R161, R171, R176). -/
structure AlarmTable where
  entries : List AlarmEntry
  nextSerial : Nat
  lastUnrecorded : Nat
  asserted : Bool
  armed : Bool
  threshold : Severity
  deriving DecidableEq, Repr

/-! ### Management Port -/

/-- The management port (section 10.1) and the hub settings it holds (R187). -/
structure Port where
  state : PortState
  request : List Byte
  response : List Byte
  overrun : Bool
  hubIdentity : Nat
  tTurn : Nat
  parentDrop : Nat
  /-- What the last read select drove on MISO after the access byte (R181). -/
  miso : List Byte
  deriving DecidableEq, Repr

/-! ### The part -/

/-- The part, and the commands waiting, first in first out. -/
structure State where
  pending : List Instr
  clock : Clock
  tb : Timebase
  published : Published
  /-- The copy published at the boundary before (R7: a reader acting at a boundary may take it). -/
  older : Published
  rm : Monitor
  sel : Selector
  stu : SiteTable
  links : PerLink Link
  atu : AlarmTable
  port : Port
  deriving DecidableEq, Repr

/-- No command of this part stops the machine: a request is answered with a result code (R182), a bad frame or message is
discarded (R136, R195). So there is no fault. -/
inductive Fault where
  deriving DecidableEq, Repr

/-- Why the model has no meaning for a command. -/
inductive Refusal where
  /-- Raised by exec alone, for a row without a meaning yet; safe: nothing is claimed. No row has this now. -/
  | notModelled (mnemonic : String)
  deriving DecidableEq, Repr

/-! ### Cold reset contents -/

/-- Local time at the end of the cold reset; the first boundary comes one second later (R1). -/
def Clock.reset : Clock := { now := 0, osc := 0, boundaryAt := 0, nextAt := Config.epochPs, boundaries := 0 }

/-- The default timebase settings (section 1.1). -/
def TbSettings.defaults : TbSettings :=
  { learningPeriod := 900, lockThreshold := 20, lockCount := 8, unlockThreshold := 200, slewLimit := 100,
    ceiling := 100000, g0 := 20, agingInterval := 600, ga := 5 }

/-- The timebase record after a cold reset (R1). -/
def Timebase.reset : Timebase :=
  { state := .freerun, timeValid := false, seconds := 0, f := 0, steered := false, e := none, inLock := 0, learning := 0,
    u := Config.uCapPs, g := 0, aging := 0, agingDue := false, holdoverEpochs := 0, selected := none, stepSum := 0, appliedStep := 0,
    settings := TbSettings.defaults }

/-- The published copy after a cold reset (R1, R7). -/
def Published.reset : Published :=
  { state := .freerun, timeValid := false, seconds := 0, uNs := Config.uCapNs, selected := none, appliedStep := 0 }

/-- The default settings of an entry with its default priority (section 2.1). -/
def RefSettings.defaults (priority : Nat) : RefSettings :=
  { enabled := true, priority := priority, thresholds := Config.thresholds, hysteresis := 1, window := 16, floor := 4,
    qualifyPeriod := 20, gateWidth := 1000, acceptLevel := 4, maxDepth := 4, baseUncertainty := 40, allowance := 50 }

/-- Nothing declared (R27). -/
def Declared.absent : Declared :=
  { message := none, tracking := none, accuracy := none, level := none, parentQuality := none, parentDepth := none,
    parentU := none }

/-- An entry after a cold reset (R27). -/
def RefEntry.reset (priority : Nat) : RefEntry :=
  { state := .absent, cause := none, qualify := 0, missRun := 3, lostLatch := false, lastSample := none,
    lastDeclared := none, lastAge := 0, ageRuns := false, base := none, stepsSince := 0, windowSum := 0, windowCount := 0, aheadSum := 0,
    aheadCount := 0, windowEpochs := none, windowAhead := false, windowRestart := false, wf := 0, q := 0, worstQ := 0,
    outlierRun := 0, declared := Declared.absent, recentParentU := none, settings := RefSettings.defaults priority,
    thisEpoch := none, nextEpoch := none, epochAcceptable := false, edges := [], waiting := none, offer := none }

/-- The Reference Monitor after a cold reset (R27, R56). -/
def Monitor.reset : Monitor :=
  { entries := { satA := RefEntry.reset 1, satB := RefEntry.reset 2, parent := RefEntry.reset 3,
                 lineA := RefEntry.reset 4, lineB := RefEntry.reset 5 },
    inputA := { waiting := none, part := [] }, inputB := { waiting := none, part := [] },
    clockA := { part := [], edgeWait := false }, clockB := { part := [], edgeWait := false },
    parentPresent := false, accounted := 0 }

/-- The SEL's record after a cold reset (R67). -/
def Selector.reset : Selector :=
  { selected := none, forced := none, wtrCand := none, wtrCount := 0, wtrDue := false, wtr := 60, revertive := true, toTbu := [] }

/-- A drop map with every entry empty (R72). -/
def emptyDrops : List (Option Nat) := List.replicate Config.maxDrop none

/-- The Site Service Table after a cold reset (R94). -/
def SiteTable.reset : SiteTable :=
  { records := [], index := [], freeHandles := List.range Config.maxSites,
    dropMaps := { l0 := emptyDrops, l1 := emptyDrops, l2 := emptyDrops, l3 := emptyDrops, l4 := emptyDrops, l5 := emptyDrops },
    provisionalTimeout := 30 }

/-- A link record after a cold reset, as the reset ends: with line sense present the link enters TRAINING, without it
it stays DOWN (R126, R128, R96, R98, R108). -/
def Link.reset (sense : Bool) : Link :=
  { role := .serve, state := if sense then .training else .down, trainingCount := 0, downLatch := true, split := 224,
    pendingSplit := none, window := 0, enrolConflicts := 0, enrolRefused := 0, badFrames := 0, strayReplies := 0,
    parentState := .unenrolled, ownDrop := none, parentSilence := 0,
    slots := List.replicate Config.slotCount .free, retireQueue := [], sense := sense, tx := none, rx := none, hearsFrom := 0,
    calling := none, toRm := [], toStu := [], dueEnrols := [], dueReplies := [] }

/-- The Alarm Table after either reset (R179). -/
def AlarmTable.reset : AlarmTable :=
  { entries := [], nextSerial := 1, lastUnrecorded := 0, asserted := false, armed := false, threshold := .major }

/-- The port and the hub settings after a cold reset (R190, R187). -/
def Port.reset : Port :=
  { state := .idle, request := [], response := [], overrun := false, hubIdentity := 0, tTurn := 40000, parentDrop := 1,
    miso := [] }

/-- The part as a cold reset ends with the SENSE levels given, and a queue of commands. -/
def State.cold (sense : PerLink Bool) (pending : List Instr) : State :=
  { pending := pending, clock := Clock.reset, tb := Timebase.reset, published := Published.reset, older := Published.reset,
    rm := Monitor.reset, sel := Selector.reset, stu := SiteTable.reset,
    links := { l0 := Link.reset sense.l0, l1 := Link.reset sense.l1, l2 := Link.reset sense.l2,
               l3 := Link.reset sense.l3, l4 := Link.reset sense.l4, l5 := Link.reset sense.l5 },
    atu := AlarmTable.reset, port := Port.reset }

/-- SENSE low on every link. -/
def noSense : PerLink Bool := { l0 := false, l1 := false, l2 := false, l3 := false, l4 := false, l5 := false }

/-- The part right after a cold reset with no line sense and no command waiting (log 24). -/
def State.reset : State := State.cold noSense []

end Sys2Proof.Machine
end

