-- ==== Sys2Proof/Machine/Ops.lean ====
section
/-! DEFINITION. Named operations that every family uses: tables of five and of six, records, counts, local time, and the request and response of the management port. -/

namespace Sys2Proof

/-! ### Tables of five references and six links -/

/-- The references in table order (section 2.1). -/
def RefId.all : List RefId := [.satA, .satB, .parent, .lineA, .lineB]

/-- The table index of a reference (section 2.1). -/
def RefId.index : RefId → Nat
  | .satA => 0 | .satB => 1 | .parent => 2 | .lineA => 3 | .lineB => 4

/-- The reference at a table index, none outside 0 to 4 (R45). -/
def RefId.ofIndex : Nat → Option RefId
  | 0 => some .satA | 1 => some .satB | 2 => some .parent | 3 => some .lineA | 4 => some .lineB | _ => none

/-- PHASE kind: SAT-A, SAT-B and PARENT (section 2.1). -/
def RefId.isPhase : RefId → Bool
  | .satA => true | .satB => true | .parent => true | .lineA => false | .lineB => false

/-- SAT-A and SAT-B. -/
def RefId.isSat : RefId → Bool
  | .satA => true | .satB => true | .parent => false | .lineA => false | .lineB => false

/-- LINE-A and LINE-B. -/
def RefId.isLine (r : RefId) : Bool := !r.isPhase

/-- The Reference Table entry of a satellite input. -/
def SatId.ref : SatId → RefId
  | .a => .satA | .b => .satB

/-- The Reference Table entry of a line input. -/
def LineId.ref : LineId → RefId
  | .a => .lineA | .b => .lineB

/-- The links in order. -/
def LinkId.all : List LinkId := [.l0, .l1, .l2, .l3, .l4, .l5]

/-- The number of a link. -/
def LinkId.index : LinkId → Nat
  | .l0 => 0 | .l1 => 1 | .l2 => 2 | .l3 => 3 | .l4 => 4 | .l5 => 5

/-- The link of a number, none outside 0 to 5 (R185). -/
def LinkId.ofIndex : Nat → Option LinkId
  | 0 => some .l0 | 1 => some .l1 | 2 => some .l2 | 3 => some .l3 | 4 => some .l4 | 5 => some .l5 | _ => none

def PerRef.get {α : Type} (p : PerRef α) : RefId → α
  | .satA => p.satA | .satB => p.satB | .parent => p.parent | .lineA => p.lineA | .lineB => p.lineB

def PerRef.set {α : Type} (p : PerRef α) (r : RefId) (v : α) : PerRef α :=
  match r with
  | .satA => { p with satA := v } | .satB => { p with satB := v } | .parent => { p with parent := v }
  | .lineA => { p with lineA := v } | .lineB => { p with lineB := v }

def PerRef.update {α : Type} (p : PerRef α) (r : RefId) (f : α → α) : PerRef α := p.set r (f (p.get r))

def PerRef.map {α : Type} (f : α → α) (p : PerRef α) : PerRef α :=
  { satA := f p.satA, satB := f p.satB, parent := f p.parent, lineA := f p.lineA, lineB := f p.lineB }

def PerLink.get {α : Type} (p : PerLink α) : LinkId → α
  | .l0 => p.l0 | .l1 => p.l1 | .l2 => p.l2 | .l3 => p.l3 | .l4 => p.l4 | .l5 => p.l5

def PerLink.set {α : Type} (p : PerLink α) (l : LinkId) (v : α) : PerLink α :=
  match l with
  | .l0 => { p with l0 := v } | .l1 => { p with l1 := v } | .l2 => { p with l2 := v }
  | .l3 => { p with l3 := v } | .l4 => { p with l4 := v } | .l5 => { p with l5 := v }

def PerLink.update {α : Type} (p : PerLink α) (l : LinkId) (f : α → α) : PerLink α := p.set l (f (p.get l))

def PerLink.map {α : Type} (f : α → α) (p : PerLink α) : PerLink α :=
  { l0 := f p.l0, l1 := f p.l1, l2 := f p.l2, l3 := f p.l3, l4 := f p.l4, l5 := f p.l5 }

namespace Machine

/-! ### Numbers (00_scope.md, Conventions) -/

/-- A count one higher, saturating at 65,535 (00_scope.md, Saturation). -/
def inc16 (n : Nat) : Nat := min (n + 1) Config.countMax

/-- A value replaced by the nearer end of the range -limit to limit (00_scope.md, Clamping). -/
def clampTo (limit x : Int) : Int := max (-limit) (min x limit)

/-- A whole number of ns from ps, rounded down (00_scope.md, Units). -/
def nsOf (ps : Nat) : Nat := ps / 1000

/-- U in ps, replaced by the cap where it would exceed it (section 1.1). -/
def capU (ps : Nat) : Nat := min ps Config.uCapPs

/-! ### Entries, links and records -/

def State.entry (s : State) (r : RefId) : RefEntry := s.rm.entries.get r

def State.updEntry (s : State) (r : RefId) (f : RefEntry → RefEntry) : State :=
  { s with rm := { s.rm with entries := s.rm.entries.update r f } }

def State.link (s : State) (l : LinkId) : Link := s.links.get l

def State.updLink (s : State) (l : LinkId) (f : Link → Link) : State :=
  { s with links := s.links.update l f }

/-- A satellite input's message line. -/
def Monitor.input (m : Monitor) : SatId → SatInput
  | .a => m.inputA | .b => m.inputB

def Monitor.setInput (m : Monitor) (i : SatId) (v : SatInput) : Monitor :=
  match i with
  | .a => { m with inputA := v } | .b => { m with inputB := v }

/-- A line input's quality line and edge wait. -/
def Monitor.line (m : Monitor) : LineId → LineInput
  | .a => m.clockA | .b => m.clockB

def Monitor.setLine (m : Monitor) (i : LineId) (v : LineInput) : Monitor :=
  match i with
  | .a => { m with clockA := v } | .b => { m with clockB := v }

/-- The record of a handle (R71). -/
def State.record? (s : State) (h : Nat) : Option SiteRecord := s.stu.records.find? (fun r => r.handle == h)

/-- A change of one record, by its handle. -/
def updRecords (h : Nat) (f : SiteRecord → SiteRecord) (rs : List SiteRecord) : List SiteRecord :=
  rs.map (fun r => if r.handle == h then f r else r)

def State.updRecord (s : State) (h : Nat) (f : SiteRecord → SiteRecord) : State :=
  { s with stu := { s.stu with records := updRecords h f s.stu.records } }

/-- A change of every record of a link. -/
def State.updLinkRecords (s : State) (l : LinkId) (f : SiteRecord → SiteRecord) : State :=
  { s with stu := { s.stu with records := s.stu.records.map (fun r => if r.link == l then f r else r) } }

/-- The record that a link's drop map names at a drop, 1 to 15 (R72). -/
def State.recordAtDrop? (s : State) (l : LinkId) (drop : Nat) : Option SiteRecord :=
  if drop == 0 then none
  else match ((s.stu.dropMaps.get l)[drop - 1]?).join with
    | some h => s.record? h
    | none => none

/-! ### Local time (R3) -/

/-- Local time goes on to an instant; the oscillator time it takes follows f (R3, log 3). An instant already past moves
nothing. -/
def Clock.advance (c : Clock) (f : Int) (t : Instant) : Clock :=
  if c.now < t then { c with now := t, osc := c.osc + (t - c.now) * (1000000000000 + f) } else c

def State.advance (s : State) (t : Instant) : State := { s with clock := s.clock.advance s.tb.f t }

/-- A phase step in ns moves the next boundary not yet made (R3). -/
def Clock.moveNext (c : Clock) (ns : Int) : Clock := { c with nextAt := c.nextAt + ns * 1000 }

/-! ### The management port (R181 to R184, R192) -/

/-- The number of a result code (R185). -/
def Result.code : Result → Nat
  | .ok => 0 | .accepted => 1 | .noRecord => 2 | .duplicate => 3 | .full => 4 | .noSlots => 5 | .align => 6 | .region => 7
  | .conflict => 8 | .protectedField => 9 | .badState => 10 | .range => 11 | .capability => 12 | .role => 13
  | .checkError => 14 | .unknown => 15

/-- The number of a port state in the port flags (R192). -/
def PortState.code : PortState → Nat
  | .idle => 0 | .executing => 1 | .responseReady => 2

/-- The port-flags byte (R192). -/
def portFlags (overrun : Bool) (state : PortState) (statusOnly notify : Bool) : Byte :=
  byteOf (overrun.toNat + 2 * state.code + 8 * statusOnly.toNat + 16 * notify.toNat)

/-- A response frame: length, tag, result code, port flags, payload, check byte (R192). -/
def responseFrame (tag result : Nat) (flags : Byte) (payload : List Byte) : List Byte :=
  withCheck ([byteOf (payload.length + 5), byteOf tag, byteOf result, flags] ++ payload)

/-- The response is built as the port enters RESPONSE_READY; its flags carry the overrun flag, which is then cleared
(R182, R183). -/
def State.respond (s : State) (tag : Nat) (r : Result) (payload : List Item) : State :=
  { s with port := { s.port with
      state := .responseReady, request := [], overrun := false,
      response := responseFrame tag r.code (portFlags s.port.overrun .responseReady false s.atu.asserted)
        (packItems payload) } }

/-- A write select that comes while the port is not IDLE is discarded whole, and the overrun flag is set (R183). -/
def State.overrunSet (s : State) : State := { s with port := { s.port with overrun := true } }

/-- A request as a whole write select: in IDLE its owner acts on it and the response is built; otherwise it is discarded
(R182, R183; log 18). -/
def request (tag : Nat) (act : State → State × Result × List Item) (s : State) : State :=
  match s.port.state with
  | .idle => let a := act s; a.1.respond tag a.2.1 a.2.2
  | .executing => s.overrunSet
  | .responseReady => s.overrunSet

end Machine

end Sys2Proof
end

