-- ==== Sys2Proof/Machine/Operands.lean ====
section
/-! DEFINITION. Operand forms: the numbers of enumerations and of values that may be none (R191, R193), the ranges of values, and the capability byte (R194). -/

namespace Sys2Proof.Machine

open Sys2Proof

/-! ### Ranges -/

/-- The value lies in the range, both ends included. -/
def inRange (lo hi v : Nat) : Bool := decide (lo ≤ v ∧ v ≤ hi)

/-- An absent value passes; a present one lies in the range. -/
def optIn (lo hi : Nat) : Option Nat → Bool
  | none => true
  | some v => inRange lo hi v

/-- The signed value lies within the limit either side of zero. -/
def withinSigned (limit v : Int) : Bool := decide (-limit ≤ v ∧ v ≤ limit)

/-- An absent value passes; a present one lies within the limit either side of zero. -/
def optWithin (limit : Int) : Option Int → Bool
  | none => true
  | some v => withinSigned limit v

/-! ### Enumerations, numbered from 0 in the order the manual first lists their values (R191) -/

def TbState.code : TbState → Nat
  | .freerun => 0 | .acquire => 1 | .locked => 2 | .freqHold => 3 | .holdover => 4

def RefState.code : RefState → Nat
  | .absent => 0 | .qualifying => 1 | .qualified => 2 | .disqualified => 3

def Cause.code : Cause → Nat
  | .quality => 0 | .declared => 1 | .outlier => 2 | .time => 3 | .chain => 4

/-- The list of causes ends with absent, which is 5 (R193, None and absent). -/
def causeCode : Option Cause → Nat
  | some c => c.code
  | none => 5

/-- The list of references ends with none, which is 5 (R193, None and absent). -/
def refCode : Option RefId → Nat
  | some r => r.index
  | none => 5

def Lifecycle.code : Lifecycle → Nat
  | .provisional => 0 | .active => 1 | .suspended => 2 | .retiring => 3

def SiteClass.code : SiteClass → Nat
  | .freq => 0 | .phaseStd => 1 | .phaseTight => 2

def SiteClass.ofCode : Nat → Option SiteClass
  | 0 => some .freq | 1 => some .phaseStd | 2 => some .phaseTight | _ => none

def AckMode.code : AckMode → Nat
  | .confirmed => 0 | .unconfirmed => 1

def AckMode.ofCode : Nat → Option AckMode
  | 0 => some .confirmed | 1 => some .unconfirmed | _ => none

def Condition.code : Condition → Nat
  | .none => 0 | .inService => 1 | .degraded => 2 | .unusable => 3

def Silence.code : Silence → Nat
  | .none => 0 | .short => 1 | .long => 2

def LinkRole.code : LinkRole → Nat
  | .serve => 0 | .parent => 1 | .off => 2

def LinkRole.ofCode : Nat → Option LinkRole
  | 0 => some .serve | 1 => some .parent | 2 => some .off | _ => none

def LinkState.code : LinkState → Nat
  | .down => 0 | .training => 1 | .up => 2

def ParentState.code : ParentState → Nat
  | .unenrolled => 0 | .enrolled => 1

def Severity.code : Severity → Nat
  | .critical => 0 | .major => 1 | .minor => 2 | .warning => 3

def Severity.ofCode : Nat → Option Severity
  | 0 => some .critical | 1 => some .major | 2 => some .minor | 3 => some .warning | _ => none

def AlarmKind.code : AlarmKind → Nat
  | .tbFreerun => 0 | .tbHoldover => 1 | .tbFreqHold => 2 | .refAbsent => 3 | .refDisqualified => 4 | .linkDown => 5
  | .siteService => 6 | .siteSilence => 7 | .tableFull => 8

def AlarmCondition.code : AlarmCondition → Nat
  | .active => 0 | .cleared => 1

/-- The source type of an alarm source (R193, Widths). -/
def AlarmSource.typeCode : AlarmSource → Nat
  | .timebase => 0 | .ref _ => 1 | .link _ => 2 | .site _ _ => 3 | .table => 4

/-- The source number: r, l or h, and 0 for the others (R193, Widths). -/
def AlarmSource.number : AlarmSource → Nat
  | .timebase => 0 | .ref r => r.index | .link l => l.index | .site h _ => h | .table => 0

/-- The site ID copy of a SITE source, and 0 for the others (R193, Widths). -/
def AlarmSource.siteId : AlarmSource → Nat
  | .timebase => 0 | .ref _ => 0 | .link _ => 0 | .site _ i => i | .table => 0

/-! ### The capability byte (R194) -/

/-- The code of a rate: 0 to 4 for 1, 2, 4, 8 and 16. -/
def rateCode (rate : Nat) : Nat := Nat.log2 rate

/-- Bit 0 phase capable, bit 1 tight capable, bits 2 to 4 the highest-rate code (R194). -/
def Capability.code (c : Capability) : Nat := c.phase.toNat + 2 * c.tight.toNat + 4 * rateCode c.highest

/-- A declared capability; none where the highest-rate code is above 4, which is malformed (R75). Bits 5 to 7 are not
read (R191). -/
def Capability.ofByte (b : Byte) : Option Capability :=
  match (b.toNat / 4) % 8 with
  | 0 => some { phase := b.toNat.testBit 0, tight := b.toNat.testBit 1, highest := 1 }
  | 1 => some { phase := b.toNat.testBit 0, tight := b.toNat.testBit 1, highest := 2 }
  | 2 => some { phase := b.toNat.testBit 0, tight := b.toNat.testBit 1, highest := 4 }
  | 3 => some { phase := b.toNat.testBit 0, tight := b.toNat.testBit 1, highest := 8 }
  | 4 => some { phase := b.toNat.testBit 0, tight := b.toNat.testBit 1, highest := 16 }
  | _ => none

/-! ### Values of a request that name a choice -/

/-- The length of a reply window by its code (R141). -/
def windowLength (code : Nat) : Nat := (Config.windowLengths[code]?).getD 0

/-- The range of a budget for a class: 0; 1,000 to 65,535; 100 to 1,500 ns (R80). -/
def budgetIn : SiteClass → Nat → Bool
  | .freq, b => b == 0
  | .phaseStd, b => inRange 1000 65535 b
  | .phaseTight, b => inRange 100 1500 b

/-- The rate is 1, 2, 4, 8 or 16 (R80). -/
def rateIn (rate : Nat) : Bool := Config.rates.contains rate

/-- The class and rate agree with the record's capability, when one is present (R81, R116). -/
def capabilityAllows (cap : Option Capability) (cls : SiteClass) (rate : Nat) : Bool :=
  match cap with
  | none => true
  | some c =>
    (match cls with
      | .freq => true
      | .phaseStd => c.phase
      | .phaseTight => c.phase && c.tight)
    && decide (rate ≤ c.highest)

end Sys2Proof.Machine
end

