-- ==== Sys2Proof/Machine/Flags.lean ====
section
/-! DEFINITION. Grades, verdicts and judgements: the verdict on a sample (R34, R35), differences (R38), the quality index (R42), the service condition (R152, R153), the quality code (R155), chain depth (R157), silence (R144) and what qualifies for notification (R176). -/

namespace Sys2Proof.Machine

open Sys2Proof

/-! ### Samples (R34 to R38) -/

/-- The cause that takes a failed verdict's name, none for ACCEPTABLE (R49). -/
def Verdict.cause : Verdict → Option Cause
  | .acceptable => none
  | .declared => some .declared
  | .chain => some .chain
  | .time => some .time

/-- The time check of R35: passes while time valid is no; else the edge's declared count is the boundary's count. -/
def timeCheck (tb : Timebase) (count : Option Seconds) : Bool := !tb.timeValid || count == some tb.seconds

/-- The verdict on a SAT sample: paired with a message with tracking valid, then the time check (R34). -/
def satVerdict (tb : Timebase) (info : EdgeInfo) : Verdict :=
  if info.tracking != some true then .declared
  else if timeCheck tb info.declared then .acceptable else .time

/-- The verdict on a PARENT sample: quality code at or below the accept level, chain depth below the maximum (R34). -/
def parentVerdict (set : RefSettings) (info : EdgeInfo) : Verdict :=
  if set.acceptLevel < info.quality then .declared
  else if set.maxDepth ≤ info.depth then .chain else .acceptable

/-- The verdict on a LINE sample: the level is present and at or below the accept level (R34). -/
def lineVerdict (set : RefSettings) (level : Option Nat) : Verdict :=
  match level with
  | none => .declared
  | some l => if set.acceptLevel < l then .declared else .acceptable

/-- The verdict by the kind of entry (R34). -/
def verdictOf (r : RefId) (tb : Timebase) (e : RefEntry) (info : EdgeInfo) : Verdict :=
  match r with
  | .satA => satVerdict tb info
  | .satB => satVerdict tb info
  | .parent => parentVerdict e.settings info
  | .lineA => lineVerdict e.settings e.declared.level
  | .lineB => lineVerdict e.settings e.declared.level

/-- A sample is gated while the timebase is LOCKED to its entry (R36). -/
def gated (tb : Timebase) (r : RefId) : Bool := tb.state == .locked && tb.selected == some r

/-- A gated sample beyond the gate width is an outlier (R36). -/
def isOutlier (tb : Timebase) (r : RefId) (e : RefEntry) (sample : Int) : Bool :=
  gated tb r && decide (e.settings.gateWidth < sample.natAbs)

/-- The wrapped difference of a LINE entry, in units of 1/32 ns, within -7,812 to 7,812 (R38). -/
def wrapLine (x : Int) : Int := (x + Config.lineHalf32) % Config.linePeriod32 - Config.lineHalf32

/-- The difference of a sample from the base, with the applied steps published since the base's boundary (R38). -/
def difference (r : RefId) (sample base steps : Int) : Int :=
  if r.isPhase then sample - base + steps else Int.tdiv (wrapLine (32 * (sample - base + steps))) 32

/-- The square of a difference, taken as 4,294,967,295 where it exceeds that (R38). -/
def squared (d : Int) : Nat := min (d.natAbs * d.natAbs) Config.wordMax

/-! ### The quality index (R42) -/

/-- The plain level: how many of T1 to T7 the wander figure lies at or below (R42). -/
def plainLevel (ts : List Nat) (wf : Nat) : Nat := (ts.filter (fun t => decide (wf ≤ t))).length

/-- The threshold Tk, k from 1, 0 where there is none. -/
def thresholdAt (ts : List Nat) (k : Nat) : Nat := (ts[k - 1]?).getD 0

/-- The figure that a rise to level k has to clear: Tk × (8 − HY) / 8, rounded down (R42). -/
def raisedThreshold (ts : List Nat) (hy k : Nat) : Nat := thresholdAt ts k * (8 - hy) / 8

/-- The largest level above q and at or below the plain level that the figure clears by the margin, else q (R42). -/
def raisedLevel (ts : List Nat) (hy wf q : Nat) : Nat → Nat
  | 0 => q
  | k + 1 => if q < k + 1 && decide (wf ≤ raisedThreshold ts hy (k + 1)) then k + 1 else raisedLevel ts hy wf q k

/-- The new quality index at a window end (R42). -/
def newQuality (set : RefSettings) (count wf q : Nat) : Nat :=
  let level := plainLevel set.thresholds wf
  if count < set.window / 2 then 0
  else if level ≤ q then level
  else raisedLevel set.thresholds set.hysteresis wf q level

/-! ### Service condition (R150 to R153) -/

/-- The condition of a FREQ record (R152). -/
def freqCondition (p : Published) : Condition := if p.state == .freerun then .degraded else .inService

/-- The condition of a phase record by U, its budget and its previous condition (R153). -/
def phaseCondition (p : Published) (b : Nat) (previous : Condition) : Condition :=
  let u := p.uNs
  let m := b / 8
  if p.timeValid == false then .unusable
  else match previous with
    | .none => if u ≤ b then .inService else if u ≤ 2 * b then .degraded else .unusable
    | .inService => if u ≤ b then .inService else if u ≤ 2 * b then .degraded else .unusable
    | .degraded => if u ≤ b - m then .inService else if 2 * b < u then .unusable else .degraded
    | .unusable => if u ≤ b - m then .inService else if u ≤ 2 * b - m then .degraded else .unusable

/-- The condition a record is judged to be in, by its class, its budget and its previous condition (R151). A record
without a class is not judged. -/
def judge (p : Published) (r : SiteRecord) (previous : Condition) : Condition :=
  match r.cls with
  | none => .none
  | some .freq => freqCondition p
  | some .phaseStd => phaseCondition p (r.budget.getD 0) previous
  | some .phaseTight => phaseCondition p (r.budget.getD 0) previous

/-! ### What a frame tells (R155 to R157) -/

/-- The code sent for an IN_SERVICE record, by the copy (R155). LOCKED names a phase reference (R8). -/
def inServiceCode (p : Published) : Nat :=
  match p.state with
  | .locked => if p.selected == some .parent then 1 else 0
  | .acquire => 2
  | .freqHold => 3
  | .holdover => 4
  | .freerun => 5

/-- The quality code of a condition; NONE takes the code of the interim condition (R155, R156). -/
def qualityCode (p : Published) (r : SiteRecord) : Nat :=
  match (if r.condition == .none then judge p r .none else r.condition) with
  | .unusable => 15
  | .degraded => 5
  | .inService => inServiceCode p
  | .none => inServiceCode p

/-- The chain depth sent (R157), with the depth the PARENT entry declares. -/
def chainDepth (p : Published) (parentDepth : Option Nat) : Nat :=
  match p.selected with
  | some .satA => 0
  | some .satB => 0
  | some .parent =>
    match parentDepth with
    | some d => min (d + 1) 15
    | none => 15
  | some .lineA => 15
  | some .lineB => 15
  | none => 15

/-! ### Misses of a site (R144) -/

/-- The silence level of a miss run (R144). -/
def silenceOf (run : Nat) : Silence := if run < 3 then .none else if run < 32 then .short else .long

/-- A miss run, and the silence level that follows it at once (R144). -/
def SiteRecord.withMissRun (r : SiteRecord) (run : Nat) : SiteRecord := { r with missRun := run, silence := silenceOf run }

/-- One miss counted (R138, R143, R144). -/
def SiteRecord.countMiss (r : SiteRecord) : SiteRecord :=
  { r with missed := inc16 r.missed }.withMissRun (min (r.missRun + 1) 255)

/-! ### Notification (R176) -/

/-- The severity lies at or above the threshold (00_scope.md, Severity). -/
def Severity.reaches (s threshold : Severity) : Bool := decide (s.code ≤ threshold.code)

/-- The entry qualifies: ACTIVE, unacknowledged, without a root, severe enough (R176). -/
def AlarmEntry.qualifies (threshold : Severity) (e : AlarmEntry) : Bool :=
  e.condition == .active && !e.acknowledged && e.root.isNone && e.severity.reaches threshold

end Sys2Proof.Machine
end

