-- ==== Sys2Proof/Machine/Timebase.lean ====
section
/-! DEFINITION. The Timebase Unit (chapter 1): the boundary and the published copy, samples, selection publications, uncertainty, and the timebase requests. -/

namespace Sys2Proof.Machine

open Sys2Proof

/-! ### Entry into FREERUN, HOLDOVER and FREQ_HOLD (R17, R22) -/

/-- U, in whole ns, is at or above the holdover ceiling (R17, R22). -/
def Timebase.atCeiling (tb : Timebase) : Bool := decide (tb.settings.ceiling ≤ nsOf tb.u)

/-- Entry into FREERUN sets U to the cap and the learning counter to 0 (R17). -/
def Timebase.enterFreerun (tb : Timebase) : Timebase :=
  { tb with state := .freerun, u := Config.uCapPs, learning := 0 }

/-- In HOLDOVER or FREQ_HOLD with U at or above the ceiling, entry into FREERUN (R22). -/
def Timebase.ceilingCheck (tb : Timebase) : Timebase :=
  match tb.state with
  | .freqHold => if tb.atCeiling then tb.enterFreerun else tb
  | .holdover => if tb.atCeiling then tb.enterFreerun else tb
  | .freerun => tb
  | .acquire => tb
  | .locked => tb

/-- Entry into FREQ_HOLD, or into FREERUN where U is at or above the ceiling (R15, R17). -/
def Timebase.enterFreqHold (tb : Timebase) : Timebase :=
  if tb.atCeiling then tb.enterFreerun else { tb with state := .freqHold }

/-- Entry into HOLDOVER with its growth set up, or into FREERUN where U is at or above the ceiling (R16, R17). -/
def Timebase.enterHoldover (tb : Timebase) : Timebase :=
  if tb.atCeiling then tb.enterFreerun
  else { tb with state := .holdover, g := tb.settings.g0, holdoverEpochs := 0, aging := 0, agingDue := false }

/-- What follows a selection of none from LOCKED, ACQUIRE or FREQ_HOLD (R16). -/
def Timebase.loseSelection (tb : Timebase) : Timebase :=
  if tb.settings.learningPeriod ≤ tb.learning then tb.enterHoldover else tb.enterFreerun

/-! ### Uncertainty (R19 to R21) -/

/-- A figure the manual does not state, capped (log 14). -/
def unstatedNs (boundary : Nat) : Nat := min (Config.unstatedNs boundary) Config.uCapNs

/-- The base uncertainty of the selected reference, in ns (R19). Where the table gives none, a free value (log 14). -/
def baseNs (s : State) : Nat :=
  match s.tb.selected with
  | some .satA => (s.entry .satA).settings.baseUncertainty
  | some .satB => (s.entry .satB).settings.baseUncertainty
  | some .parent =>
    match (s.entry .parent).recentParentU with
    | some u => min (u + (s.entry .parent).settings.allowance) Config.uCapNs
    | none => unstatedNs s.clock.boundaries
  | some .lineA => unstatedNs s.clock.boundaries
  | some .lineB => unstatedNs s.clock.boundaries
  | none => unstatedNs s.clock.boundaries

/-- The size of the residual, in ns (R20). In ACQUIRE e is always present; where it is not, a free value (log 14). -/
def residualNs (s : State) : Nat :=
  match s.tb.e with
  | some e => e.natAbs
  | none => unstatedNs s.clock.boundaries

/-- The aging count compared with A after a boundary has raised it, once: with A not 0 and the count at or above A, g rises by
one and the count is set to 0 (R21). A count that no boundary has raised since is left alone, whatever A a TB_SET gives. -/
def Timebase.age (tb : Timebase) : Timebase :=
  if tb.agingDue then
    if tb.settings.agingInterval ≠ 0 ∧ tb.settings.agingInterval ≤ tb.aging then
      { tb with g := inc16 tb.g, aging := 0, agingDue := false }
    else { tb with agingDue := false }
  else tb

/-- A boundary in HOLDOVER: U grows by g, the counts rise, and g ages (R21). -/
def Timebase.growHoldover (tb : Timebase) : Timebase :=
  { tb with u := capU (tb.u + tb.g), holdoverEpochs := inc16 tb.holdoverEpochs, aging := inc16 tb.aging,
            agingDue := true }.age

/-- U brought up to date for the state in force (R20), with the base and the residual in ns. -/
def Timebase.updateU (base residual : Nat) (tb : Timebase) : Timebase :=
  match tb.state with
  | .locked => { tb with u := base * 1000 }
  | .acquire => { tb with u := capU ((base + residual) * 1000) }
  | .freqHold => { tb with u := capU (tb.u + tb.settings.ga) }
  | .holdover => tb.growHoldover
  | .freerun => { tb with u := Config.uCapPs }

/-! ### The boundary (R3 to R7) -/

/-- Steps 1 and 2 of a boundary: the seconds count, and learning in LOCKED (R4, R6, R23). -/
def Timebase.count (tb : Timebase) : Timebase :=
  { tb with seconds := tb.seconds + 1, learning := if tb.state = .locked then inc16 tb.learning else tb.learning }

/-- Step 5 of a boundary: the applied step takes the step sum, which is set to 0 (R6). -/
def Timebase.takeSteps (tb : Timebase) : Timebase := { tb with appliedStep := tb.stepSum, stepSum := 0 }

/-- The TBU's own epoch work, in the order of R6. -/
def Timebase.boundary (base residual : Nat) (tb : Timebase) : Timebase :=
  ((tb.count.updateU base residual).ceilingCheck).takeSteps

/-- The fields that are published (R7). -/
def Published.of (tb : Timebase) : Published :=
  { state := tb.state, timeValid := tb.timeValid, seconds := tb.seconds, uNs := nsOf tb.u, selected := tb.selected,
    appliedStep := tb.appliedStep }

/-- What the RM keeps of an entry goes on with a boundary made: the age of the last sample, which runs on after ABSENT has
cleared the sample (R37, R40), and the applied steps published since the difference base's boundary (R38). -/
def RefEntry.boundaryMade (applied : Int) (e : RefEntry) : RefEntry :=
  { e with lastAge := if e.ageRuns then inc16 e.lastAge else e.lastAge,
           stepsSince := if e.base.isSome then e.stepsSince + applied else e.stepsSince }

/-- A waiting satellite message counts the boundaries made since it was taken (R28). -/
def SatInput.boundaryMade (i : SatInput) : SatInput :=
  { i with waiting := i.waiting.map (fun m => { m with boundaries := m.boundaries + 1 }) }

/-- What the RM keeps by boundaries made, the wait for a line clock edge among it (R28, R33, R37, R38; log 29). -/
def Monitor.boundaryMade (applied : Int) (m : Monitor) : Monitor :=
  { m with entries := m.entries.map (RefEntry.boundaryMade applied),
           inputA := m.inputA.boundaryMade, inputB := m.inputB.boundaryMade,
           clockA := { m.clockA with edgeWait := true }, clockB := { m.clockB with edgeWait := true } }

/-- The boundary falls where the clock has it, and the next one a second of local time later (R3). -/
def Clock.boundaryMade (c : Clock) : Clock :=
  { c with boundaryAt := c.nextAt, nextAt := c.nextAt + Config.epochPs, boundaries := c.boundaries + 1 }

/-- The TBU makes the next boundary: its own work, the publication, and what is measured by boundaries (R3 to R7). The
copy published before is kept for a reader that may still take it (R7, log 12). -/
def State.makeBoundary (s : State) : State :=
  let t := s.advance s.clock.nextAt
  let tb := t.tb.boundary (baseNs t) (residualNs t)
  { t with clock := t.clock.boundaryMade, tb := tb, published := Published.of tb, older := t.published,
           rm := t.rm.boundaryMade tb.appliedStep }

/-- A next boundary that a negative step has moved to an instant already passed is made at once, at the instant of the step,
and the following one is measured from it (R3, R97; log 4). That it comes after all the steps of R9, R10 or R13 that the step
belongs to, so that its U and its publication show the state they leave, is the model's choice (log 4). -/
def State.boundaryIfPassed (step : Int) (s : State) : State :=
  if step < 0 ∧ s.clock.nextAt < s.clock.now then
    { s with clock := { s.clock with nextAt := s.clock.now } }.makeBoundary
  else s

/-! ### Samples of the selected reference (R8 to R11) -/

/-- Half of the residual toward zero, clamped to the slew limit (R9, R10). -/
def slewStep (set : TbSettings) (e : Int) : Int := clampTo set.slewLimit (Int.tdiv e 2)

/-- The frequency correction changed by x × 1000 / divisor toward zero, clamped (R9 to R12). -/
def steer (f x divisor : Int) : Int := clampTo Config.fLimit (f + Int.tdiv (x * 1000) divisor)

/-- Steps 1 to 3 of a sample: e, the step and f (R9, R10). -/
def Timebase.followSample (divisor : Int) (sample : Int) (tb : Timebase) : Timebase :=
  { tb with e := some sample, stepSum := tb.stepSum + slewStep tb.settings sample, f := steer tb.f sample divisor }

/-- Steps 4 and 5 of R9: the in-lock run, and LOCKED when it reaches the lock count. -/
def Timebase.countLock (sample : Int) (tb : Timebase) : Timebase :=
  let run := if sample.natAbs ≤ tb.settings.lockThreshold then min (tb.inLock + 1) 64 else 0
  { tb with inLock := run, state := if tb.settings.lockCount ≤ run then .locked else tb.state }

/-- Step 4 of R10: a sample beyond the unlock threshold returns the timebase to ACQUIRE. -/
def Timebase.checkUnlock (sample : Int) (tb : Timebase) : Timebase :=
  if tb.settings.unlockThreshold < sample.natAbs then { tb with state := .acquire, inLock := 0 } else tb

/-- A sample of the selected phase reference in ACQUIRE (R9). -/
def Timebase.acquireSample (sample : Int) (tb : Timebase) : Timebase := (tb.followSample 16 sample).countLock sample

/-- A sample of the selected phase reference in LOCKED (R10). -/
def Timebase.lockedSample (sample : Int) (tb : Timebase) : Timebase := (tb.followSample 64 sample).checkUnlock sample

/-- The TBU takes the samples offered by entries other than its selected reference without any action (R8, R18, log 9). -/
def State.ignoreOthers (s : State) : State :=
  let kept := fun (r : RefId) (e : RefEntry) => if s.tb.selected = some r then e else { e with offer := none }
  let es := s.rm.entries
  { s with rm := { s.rm with entries :=
      { satA := kept .satA es.satA, satB := kept .satB es.satB, parent := kept .parent es.parent,
        lineA := kept .lineA es.lineA, lineB := kept .lineB es.lineB } } }

/-- A phase sample taken: the step moves the next boundary, and the offer is gone (R3, R8). -/
def State.phaseSample (s : State) (r : RefId) (sample : Int) (act : Int → Timebase → Timebase) : State :=
  { s with tb := act sample s.tb,
           clock := s.clock.moveNext (slewStep s.tb.settings sample) }.updEntry r (fun e => { e with offer := none })

/-- The offer of the reference the TBU holds as selected, of the kind wanted (R8). -/
def State.selectedOffer (s : State) (phase : Bool) : Option (RefId × Int) :=
  match s.tb.selected with
  | some r => if r.isPhase == phase then (s.entry r).offer.map (fun v => (r, v)) else none
  | none => none

/-- A sample row: the samples of other entries are taken without action, and the selected one's by the row's act (R8). -/
def State.takeSample (s : State) (phase : Bool) (act : RefId → Int → State → State) : State :=
  let t := s.ignoreOthers
  match t.selectedOffer phase with
  | some (r, v) => act r v t
  | none => t

/-- ACQUIRE_SAMPLE (R9): in ACQUIRE the TBU takes the sample offered by its selected phase reference. A boundary that the step
makes at once comes after f and the lock (log 4). -/
def execAcquireSample (s : State) : Host.Outcome State Fault Refusal :=
  .next (if s.tb.state = .acquire then
      s.takeSample true (fun r v t => (t.phaseSample r v Timebase.acquireSample).boundaryIfPassed (slewStep t.tb.settings v))
    else s.ignoreOthers)

/-- LOCKED_SAMPLE (R10): in LOCKED the TBU takes the in-gate sample offered by its selected phase reference. A boundary that
the step makes at once comes after f and the unlock (log 4). -/
def execLockedSample (s : State) : Host.Outcome State Fault Refusal :=
  .next (if s.tb.state = .locked then
      s.takeSample true (fun r v t => (t.phaseSample r v Timebase.lockedSample).boundaryIfPassed (slewStep t.tb.settings v))
    else s.ignoreOthers)

/-- The difference of a selected LINE reference changes f and nothing else of the timebase (R11). -/
def State.lineSample (s : State) (r : RefId) (delta : Int) : State :=
  { s with tb := { s.tb with f := steer s.tb.f delta 16 } }.updEntry r (fun e => { e with offer := none })

/-- LINE_SAMPLE (R11): in FREERUN or FREQ_HOLD the TBU takes the difference offered by its selected LINE reference. -/
def execLineSample (s : State) : Host.Outcome State Fault Refusal :=
  .next (if s.tb.state = .freerun ∨ s.tb.state = .freqHold then s.takeSample false (fun r v t => t.lineSample r v)
    else s.ignoreOthers)

/-! ### Boundaries -/

/-- EPOCH_BOUNDARY (R6). -/
def execEpochBoundary (s : State) : Host.Outcome State Fault Refusal := .next s.makeBoundary

/-- HOLDOVER_AGING (R21): in HOLDOVER, where a boundary's count waits to be compared, it is compared with A. EPOCH_BOUNDARY
compares the count that it raises, so that none waits in a reached state (log 2). -/
def execHoldoverAging (s : State) : Host.Outcome State Fault Refusal :=
  .next (if s.tb.state = .holdover then { s with tb := s.tb.age } else s)

/-- HOLDOVER_CEILING (R22): U at or above the ceiling sends the timebase to FREERUN, and the publication shows it
(log 2). -/
def execHoldoverCeiling (s : State) : Host.Outcome State Fault Refusal :=
  .next (if (s.tb.state = .holdover ∨ s.tb.state = .freqHold) ∧ s.tb.atCeiling = true then
      { s with tb := s.tb.enterFreerun,
               published := { s.published with state := .freerun, uNs := Config.uCapNs } }
    else s)

/-! ### Selection publications (R13 to R16) -/

/-- The published reference is followed: selected, steered, the in-lock run from 0 (R13 to R15). -/
def Timebase.follow (r : RefId) (tb : Timebase) : Timebase :=
  { tb with selected := some r, steered := true, inLock := 0 }

/-- Time load (R13): the count, the full step and time valid, and then ACQUIRE. -/
def Timebase.loadTime (r : RefId) (sample : Int) (declared : Seconds) (age : Nat) (tb : Timebase) : Timebase :=
  { tb.follow r with e := some sample, seconds := declared + BitVec.ofNat 48 age, stepSum := tb.stepSum + sample,
                     timeValid := true, state := .acquire }

/-- Acquisition with time valid (R14). -/
def Timebase.acquire (r : RefId) (sample : Int) (tb : Timebase) : Timebase :=
  { tb.follow r with e := some sample, state := .acquire }

/-- The TBU takes a publication naming a phase reference (R13, R14). An entry without a last sample gives no action. A boundary
that a negative time load makes at once comes after time valid and ACQUIRE (log 4). -/
def State.takePhase (s : State) (r : RefId) : State :=
  match (s.entry r).lastSample, s.tb.timeValid, (s.entry r).lastDeclared with
  | some e, true, _ => { s with tb := s.tb.acquire r e }
  | some e, false, some c =>
    { s with tb := s.tb.loadTime r e c (s.entry r).lastAge, clock := s.clock.moveNext e }.boundaryIfPassed e
  | some _, false, none => s
  | none, _, _ => s

/-- The TBU takes a publication naming a LINE reference (R15). -/
def Timebase.takeLine (r : RefId) (tb : Timebase) : Timebase :=
  match tb.state with
  | .locked => tb.enterFreqHold.follow r
  | .acquire => tb.enterFreqHold.follow r
  | .holdover => tb.enterFreqHold.follow r
  | .freqHold => tb.follow r
  | .freerun => tb.follow r

/-- Nothing is followed any more (R16). -/
def Timebase.unfollow (tb : Timebase) : Timebase := { tb with selected := none, steered := false, inLock := 0 }

/-- The TBU takes a publication of none (R16). -/
def Timebase.takeNone (tb : Timebase) : Timebase :=
  match tb.state with
  | .locked => tb.loseSelection.unfollow
  | .acquire => tb.loseSelection.unfollow
  | .freqHold => tb.loseSelection.unfollow
  | .holdover => tb.unfollow
  | .freerun => tb.unfollow

/-- The publication at the head of the queue is taken (R65). -/
def State.popPublication (s : State) : State := { s with sel := { s.sel with toTbu := s.sel.toTbu.tail } }

/-- PHASE_REFERENCE_PUBLICATION (R13, R14): taken when the next publication names a phase reference (log 8). -/
def execPhaseReferencePublication (s : State) : Host.Outcome State Fault Refusal :=
  .next (match s.sel.toTbu with
    | some r :: _ => if r.isPhase then s.popPublication.takePhase r else s
    | none :: _ => s
    | [] => s)

/-- LINE_REFERENCE_PUBLICATION (R15): taken when the next publication names a LINE reference (log 8). -/
def execLineReferencePublication (s : State) : Host.Outcome State Fault Refusal :=
  .next (match s.sel.toTbu with
    | some r :: _ => if r.isPhase then s else { s.popPublication with tb := s.tb.takeLine r }
    | none :: _ => s
    | [] => s)

/-- SELECTION_LOST_PUBLICATION (R16): taken when the next publication is none (log 8). -/
def execSelectionLostPublication (s : State) : Host.Outcome State Fault Refusal :=
  .next (match s.sel.toTbu with
    | none :: _ => { s.popPublication with tb := s.tb.takeNone }
    | some _ :: _ => s
    | [] => s)

/-! ### Requests (R24 to R26) -/

/-- The settings in the order of section 1.1. -/
def TbSettings.items (t : TbSettings) : List Item :=
  [natItem 2 t.learningPeriod, natItem 2 t.lockThreshold, natItem 1 t.lockCount, natItem 2 t.unlockThreshold,
    natItem 2 t.slewLimit, natItem 4 t.ceiling, natItem 2 t.g0, natItem 2 t.agingInterval, natItem 2 t.ga]

/-- The timebase record as it stands (R24). -/
def Timebase.items (tb : Timebase) : List Item :=
  [natItem 1 tb.state.code, .flag tb.timeValid, natItem 6 tb.seconds.toNat, intItem tb.f, .flag tb.steered, optInt tb.e,
    natItem 1 tb.inLock, natItem 2 tb.learning, natItem 4 (nsOf tb.u), natItem 2 tb.g, natItem 2 tb.aging,
    natItem 2 tb.holdoverEpochs, natItem 1 (refCode tb.selected), intItem tb.appliedStep] ++ tb.settings.items

/-- TB_LOOKUP (R24). -/
def execTbLookup (tag : Nat) (s : State) : Host.Outcome State Fault Refusal :=
  .next (request tag (fun t => (t, .ok, t.tb.items)) s)

/-- Every present value is within its range of section 1.1 (R25). -/
def tbSetInRanges (p : TbSetReq) : Bool :=
  optIn 60 65535 p.learningPeriod && optIn 5 1000 p.lockThreshold && optIn 1 64 p.lockCount
    && optIn 20 5000 p.unlockThreshold && optIn 1 10000 p.slewLimit && optIn 1000 999998 p.ceiling
    && optIn 0 65535 p.g0 && optIn 0 65535 p.agingInterval && optIn 0 65535 p.ga

/-- The settings as they would stand after the request (R25). -/
def TbSettings.withValues (p : TbSetReq) (t : TbSettings) : TbSettings :=
  { learningPeriod := p.learningPeriod.getD t.learningPeriod, lockThreshold := p.lockThreshold.getD t.lockThreshold,
    lockCount := p.lockCount.getD t.lockCount, unlockThreshold := p.unlockThreshold.getD t.unlockThreshold,
    slewLimit := p.slewLimit.getD t.slewLimit, ceiling := p.ceiling.getD t.ceiling, g0 := p.g0.getD t.g0,
    agingInterval := p.agingInterval.getD t.agingInterval, ga := p.ga.getD t.ga }

/-- The request passes every check of R25. -/
def tbSetAccepted (p : TbSetReq) (t : TbSettings) : Bool :=
  tbSetInRanges p && decide ((t.withValues p).lockThreshold ≤ (t.withValues p).unlockThreshold)

/-- The settings take their values, and a present ceiling at or below U in HOLDOVER or FREQ_HOLD enters FREERUN (R25). -/
def Timebase.set (p : TbSetReq) (tb : Timebase) : Timebase :=
  let tb' := { tb with settings := tb.settings.withValues p }
  if p.ceiling.isSome then tb'.ceilingCheck else tb'

/-- TB_SET (R25). -/
def execTbSet (tag : Nat) (p : TbSetReq) (s : State) : Host.Outcome State Fault Refusal :=
  .next (request tag (fun t =>
    if tbSetAccepted p t.tb.settings then ({ t with tb := t.tb.set p }, .ok, []) else (t, .range, [])) s)

/-- TB_SET_TIME (R26): in FREERUN the next boundary will carry the value. -/
def execTbSetTime (tag : Nat) (seconds : Seconds) (s : State) : Host.Outcome State Fault Refusal :=
  .next (request tag (fun t =>
    if t.tb.state = .freerun then ({ t with tb := { t.tb with seconds := seconds - 1, timeValid := true } }, .ok, [])
    else (t, .badState, [])) s)

end Sys2Proof.Machine
end

