-- ==== Sys2Proof/Machine/Selector.lean ====
section
/-! DEFINITION. The Reference Selector (section 3.3): candidates, selection, wait-to-restore, force and release. -/

namespace Sys2Proof.Machine

open Sys2Proof

/-! ### Candidates (R58) -/

/-- A candidate is enabled and QUALIFIED (R58). -/
def RefEntry.isCandidate (e : RefEntry) : Bool := e.settings.enabled && e.state == .qualified

def State.candidate (s : State) (r : RefId) : Bool := (s.entry r).isCandidate

def State.priority (s : State) (r : RefId) : Nat := (s.entry r).settings.priority

/-- Of a candidate found so far and a later entry, the one with the lower priority number, the earlier on a tie (R58). -/
def State.betterOf (s : State) (found : Option RefId) (r : RefId) : Option RefId :=
  if s.candidate r then
    match found with
    | none => some r
    | some b => if s.priority r < s.priority b then some r else some b
  else found

/-- The best candidate: the lowest priority number, and of equals the lowest table index (R58). -/
def State.best (s : State) : Option RefId := RefId.all.foldl s.betterOf none

/-! ### Selection (R58 to R62, R65) -/

/-- The choice is made and published; publications keep their order (R65). -/
def Selector.choose (x : Option RefId) (c : Selector) : Selector := { c with selected := x, toTbu := c.toTbu ++ [x] }

def Selector.clearWtr (c : Selector) : Selector := { c with wtrCand := none, wtrCount := 0, wtrDue := false }

/-- The switch to the WTR candidate (R61). -/
def Selector.switch (c : Selector) : Selector :=
  match c.wtrCand with
  | some r => (c.choose (some r)).clearWtr
  | none => c

/-- A better candidate found by the search: it waits, or is switched to at once with WTR at 0 (R60, R61). -/
def Selector.holdCandidate (b : RefId) (c : Selector) : Selector :=
  let held := if c.wtrCand = some b then c else { c with wtrCand := some b, wtrCount := 0, wtrDue := false }
  if held.wtr = 0 then held.switch else held

/-- The search for a candidate better than the selected reference: not under a force, and not in non-revertive
operation, which holds no WTR candidate (R60, R62, R63). -/
def State.searchFrom (s : State) (current : RefId) : State :=
  if s.sel.forced.isSome then s
  else if s.sel.revertive then
    match s.best with
    | some b =>
      if s.priority b < s.priority current then { s with sel := s.sel.holdCandidate b }
      else { s with sel := s.sel.clearWtr }
    | none => { s with sel := s.sel.clearWtr }
  else { s with sel := s.sel.clearWtr }

/-- The selected reference left the candidates: a force on it ends, and the best candidate or none is selected at once
(R58). -/
def State.reselect (s : State) (gone : RefId) : State :=
  let c := { s.sel with forced := if s.sel.forced = some gone then none else s.sel.forced }
  { s with sel := c.clearWtr.choose s.best }

/-- What the SEL does after a change to the candidate set, to a priority or to its settings (R58 to R62). -/
def State.selReact (s : State) : State :=
  match s.sel.selected with
  | some c => if s.candidate c then s.searchFrom c else s.reselect c
  | none =>
    match s.best with
    | some b => { s with sel := s.sel.clearWtr.choose (some b) }
    | none => s

/-- A change of an entry, handed to the SEL in the same act when it moves the entry into or out of QUALIFIED (R55). -/
def State.changeEntry (s : State) (r : RefId) (f : RefEntry → RefEntry) : State :=
  let t := s.updEntry r f
  if ((s.entry r).state == .qualified) == ((t.entry r).state == .qualified) then t else t.selReact

/-! ### The selector's boundary and switch -/

/-- The boundary counts for the WTR candidate held (R60). -/
def Selector.countBoundary (c : Selector) : Selector :=
  if c.wtrCand.isSome then { c with wtrCount := min (c.wtrCount + 1) 1023, wtrDue := true } else c

/-- The counter compared with WTR after a boundary has raised it, once: at or above WTR, the SEL switches (R61). A counter that
no boundary has raised since is left alone, whatever WTR a REF_SET gives. -/
def Selector.judgeWtr (c : Selector) : Selector :=
  if c.wtrCand.isSome && c.wtrDue then
    if c.wtr ≤ c.wtrCount then c.switch else { c with wtrDue := false }
  else c

/-- SEL_BOUNDARY (R60, R61): the counter increments, and at or above WTR the SEL switches in the same act (log 2). -/
def execSelBoundary (s : State) : Host.Outcome State Fault Refusal := .next { s with sel := s.sel.countBoundary.judgeWtr }

/-- WTR_SWITCH (R61): where an increment waits to be judged, it is judged, and at or above WTR the SEL switches. SEL_BOUNDARY
judges the increment that it makes, so that none waits in a reached state (log 2). -/
def execWtrSwitch (s : State) : Host.Outcome State Fault Refusal := .next { s with sel := s.sel.judgeWtr }

/-! ### Force and release (R63, R64) -/

/-- The force on a candidate (R63). -/
def State.force (s : State) (r : RefId) : State :=
  if s.sel.forced = some r then s
  else
    let c := { s.sel with forced := some r }.clearWtr
    { s with sel := if s.sel.selected = some r then c else c.choose (some r) }

/-- REF_FORCE (R63). -/
def execRefForce (tag index : Nat) (s : State) : Host.Outcome State Fault Refusal :=
  .next (request tag (fun t =>
    match RefId.ofIndex index with
    | none => (t, .noRecord, [])
    | some r => if t.candidate r then (t.force r, .ok, []) else (t, .badState, [])) s)

/-- The force ends, and in revertive operation the search of R60 is made (R64). -/
def State.release (s : State) : State :=
  if s.sel.forced.isSome then
    let t := { s with sel := { s.sel with forced := none } }
    match t.sel.selected with
    | some c => if t.sel.revertive then t.searchFrom c else t
    | none => t
  else s

/-- REF_RELEASE (R64). -/
def execRefRelease (tag : Nat) (s : State) : Host.Outcome State Fault Refusal :=
  .next (request tag (fun t => (t.release, .ok, [])) s)

end Sys2Proof.Machine
end

