-- ==== Sys2Proof/Machine/Reference.lean ====
section
/-! DEFINITION. The Reference Monitor and the entry state machine (chapters 2 and 3): samples, edges, messages, the epoch accounting, windows, absence, the PARENT input, and the reference requests. -/

namespace Sys2Proof.Machine

open Sys2Proof

/-! ### The entry state machine (R48 to R53) -/

/-- Entry into DISQUALIFIED, or a cause replaced there; the counter keeps its value. The outlier run is set to 0 on entry
(R36, R49). -/
def RefEntry.disqualify (c : Cause) (e : RefEntry) : RefEntry :=
  { e with state := .disqualified, cause := some c, outlierRun := if e.state = .disqualified then e.outlierRun else 0 }

/-- Entry into QUALIFYING, its counter from 0 (R48, R53). -/
def RefEntry.qualifying (e : RefEntry) : RefEntry := { e with state := .qualifying, qualify := 0, cause := none }

/-- Entry into ABSENT with the RM's effects (R40, R52, R56). -/
def RefEntry.enterAbsent (r : RefId) (e : RefEntry) : RefEntry :=
  { e with state := .absent, cause := none, qualify := 0, missRun := 3, lostLatch := true, lastSample := none,
           lastDeclared := none, base := none, stepsSince := 0, windowSum := 0, windowCount := 0, aheadSum := 0,
           aheadCount := 0, windowEpochs := none, windowAhead := false, windowRestart := false, q := 0, worstQ := 0,
           outlierRun := 0, declared := if r = .parent then Declared.absent else e.declared }

/-- The sample report: out of ABSENT first, then a failed verdict, then the third outlier (R48 to R50). -/
def RefEntry.sampleReport (verdict : Verdict) (third : Bool) (e : RefEntry) : RefEntry :=
  let present := if e.state = .absent then e.qualifying else e
  let judged := match verdict.cause with
    | some c => present.disqualify c
    | none => present
  if third then judged.disqualify .outlier else judged

/-- A good epoch (R51): its sample ACCEPTABLE and no outlier, with q at or above F. -/
def RefEntry.goodEpoch (e : RefEntry) (rec : SampleRec) : Bool :=
  rec.verdict == .acceptable && !rec.outlier && decide (e.settings.floor ≤ e.q)

/-- The epoch report to a QUALIFYING entry (R51); other states take nothing from it but the third miss (R52). -/
def RefEntry.epochReport (had : Option SampleRec) (e : RefEntry) : RefEntry :=
  if e.state = .qualifying then
    match had with
    | none => { e with qualify := 0 }
    | some rec =>
      if e.goodEpoch rec then
        let n := min (e.qualify + 1) 255
        { e with qualify := n, state := if e.settings.qualifyPeriod ≤ n then .qualified else .qualifying }
      else e
  else e

/-- The window report (R53). -/
def RefEntry.windowReport (e : RefEntry) : RefEntry :=
  match e.state with
  | .qualifying => if e.q < e.settings.floor then e.disqualify .quality else e
  | .qualified => if e.q < e.settings.floor then e.disqualify .quality else e
  | .disqualified =>
    if e.q < e.settings.floor then e.disqualify .quality
    else if e.epochAcceptable then e.qualifying else e
  | .absent => e

/-! ### A sample formed (R36 to R38, R44) -/

/-- A sample as it is formed: its value against the most recent boundary, and what came with its edge. -/
structure Formed where
  value : Int
  verdict : Verdict
  outlier : Bool
  declared : Option Seconds
  /-- The number of the measuring boundary, which is the most recent one (R30). -/
  boundary : Nat
  /-- The measuring boundary has not been accounted yet (log 30). -/
  ahead : Bool
  deriving DecidableEq, Repr

/-- An entry that leaves ABSENT starts a window at the sample's measuring boundary, and its miss run is 0 (R39, R40). -/
def RefEntry.appear (ahead : Bool) (e : RefEntry) : RefEntry :=
  if e.state = .absent then { e with missRun := 0, windowEpochs := some 0, windowAhead := ahead } else e

/-- The gate's run: one more for an outlier, 0 for any other sample (R36). -/
def RefEntry.countOutlier (outlier : Bool) (e : RefEntry) : RefEntry :=
  { e with outlierRun := if outlier then min (e.outlierRun + 1) Config.runEnd else 0 }

/-- The difference of a sample, none without a difference base (R38). -/
def RefEntry.diff (r : RefId) (value : Int) (e : RefEntry) : Option Int :=
  e.base.map (fun b => difference r value b.value e.stepsSince)

/-- A squared difference joins the running window, or the part of it formed ahead of the accounting (R41, log 30). -/
def RefEntry.addSquare (ahead : Bool) (sq : Nat) (e : RefEntry) : RefEntry :=
  if e.windowEpochs.isNone then e
  else if ahead then
    { e with aheadSum := min (e.aheadSum + sq) Config.wordMax, aheadCount := min (e.aheadCount + 1) 64 }
  else
    { e with windowSum := min (e.windowSum + sq) Config.wordMax, windowCount := min (e.windowCount + 1) 64 }

/-- Step 2 of R37: the difference into the window, then the sample becomes the difference base. -/
def RefEntry.rebase (r : RefId) (m : Formed) (e : RefEntry) : RefEntry :=
  let e' := match e.diff r m.value with
    | some d => e.addSquare m.ahead (squared d)
    | none => e
  { e' with base := some { value := m.value, boundary := m.boundary }, stepsSince := 0 }

/-- What is offered to the TBU: the sample of a PHASE entry; for LINE the difference, nothing without a base (R37). -/
def RefEntry.offered (r : RefId) (m : Formed) (e : RefEntry) : Option Int :=
  if r.isPhase then some m.value else e.diff r m.value

/-- Steps 3 and 4 of R37 for an ACCEPTABLE sample: the last sample and the offer, which replaces one not yet taken
(log 9). -/
def RefEntry.accept (r : RefId) (m : Formed) (offer : Option Int) (e : RefEntry) : RefEntry :=
  { e with lastSample := some m.value, lastDeclared := if r.isPhase then m.declared else none, lastAge := 0, ageRuns := true,
           offer := if offer.isSome then offer else e.offer }

/-- The sample is noted for the accounting of the epoch its measuring boundary begins (R39, log 30). -/
def RefEntry.note (m : Formed) (e : RefEntry) : RefEntry :=
  let rec' : SampleRec := { verdict := m.verdict, outlier := m.outlier }
  if m.ahead then { e with nextEpoch := some rec' } else { e with thisEpoch := some rec' }

/-- What becomes of a sample (R37), and its report (R44). -/
def RefEntry.dispose (r : RefId) (m : Formed) (e : RefEntry) : RefEntry :=
  let gated := (e.appear m.ahead).countOutlier m.outlier
  let third := m.outlier && gated.outlierRun == Config.runEnd
  let based := if m.outlier then gated else gated.rebase r m
  let taken := if m.outlier || m.verdict != .acceptable then based else based.accept r m (e.offered r m)
  (taken.note m).sampleReport m.verdict third

/-- The sample that an edge gives against the most recent boundary; the first sample of an ABSENT entry is no outlier
(R36, R48, log 37). -/
def State.formed (s : State) (r : RefId) (value : Int) (info : EdgeInfo) : Formed :=
  let e := s.entry r
  { value := value, verdict := verdictOf r s.tb e info,
    outlier := e.state != .absent && isOutlier s.tb r e value,
    declared := info.declared, boundary := s.clock.boundaries, ahead := decide (s.rm.accounted < s.clock.boundaries) }

/-- The RM forms a sample (R37), in one act with the state machine and the SEL (R44, R55). -/
def State.formSample (s : State) (r : RefId) (value : Int) (info : EdgeInfo) : State :=
  s.changeEntry r (RefEntry.dispose r (s.formed r value info))

/-! ### Attribution of an edge (R30) -/

/-- Where an edge lies. -/
inductive EdgePlace where
  | recent
  | nextBoundary
  | late
  deriving DecidableEq, Repr

/-- The attribution of an edge by its offset from the most recent boundary made (R30). -/
def placeEdge (c : Clock) (edge : Instant) : EdgePlace :=
  let off := edge - c.boundaryAt
  if Config.halfEpochPs < off then .nextBoundary
  else if -Config.halfEpochPs < off then .recent else .late

/-- An edge's offset from the most recent boundary in whole ns, rounded toward zero (R30). -/
def edgeOffset (c : Clock) (edge : Instant) : Int := Int.tdiv (edge - c.boundaryAt) 1000

/-- An edge has been attributed to the boundary (R29, R31). -/
def RefEntry.hadEdge (b : Nat) (e : RefEntry) : Bool := e.edges.contains b

/-- An edge is attributed to the boundary; boundaries before the most recent one can have no further edge (R30). -/
def RefEntry.noteEdge (recent b : Nat) (e : RefEntry) : RefEntry :=
  { e with edges := b :: e.edges.filter (fun k => decide (recent ≤ k)) }

/-- An edge measured at once, kept for the next boundary, or discarded as late; a second edge of a boundary forms no
sample (R29 to R31). -/
def State.measureEdge (s : State) (r : RefId) (edge : Instant) (info : EdgeInfo) : State :=
  match placeEdge s.clock edge with
  | .recent =>
    if (s.entry r).hadEdge s.clock.boundaries then s
    else (s.updEntry r (RefEntry.noteEdge s.clock.boundaries s.clock.boundaries)).formSample r (edgeOffset s.clock edge) info
  | .nextBoundary =>
    if (s.entry r).hadEdge (s.clock.boundaries + 1) then s
    else s.updEntry r (fun e => { e.noteEdge s.clock.boundaries (s.clock.boundaries + 1) with
      waiting := some { instant := edge, boundary := s.clock.boundaries + 1, info := info } })
  | .late => s

/-- The boundary an edge is attributed to has had an edge of the same input (R29). -/
def State.secondEdge (s : State) (r : RefId) (edge : Instant) : Bool :=
  match placeEdge s.clock edge with
  | .recent => (s.entry r).hadEdge s.clock.boundaries
  | .nextBoundary => (s.entry r).hadEdge (s.clock.boundaries + 1)
  | .late => false

/-- DEFERRED_EDGE_SAMPLE (R30): a waiting edge is measured once its boundary has been made; one whose boundary is no longer
the most recent is late and discarded. -/
def execDeferredEdgeSample (ref : RefId) (s : State) : Host.Outcome State Fault Refusal :=
  .next (match (s.entry ref).waiting with
    | none => s
    | some w =>
      if s.clock.boundaries < w.boundary then s
      else
        let t := s.updEntry ref (fun e => { e with waiting := none })
        if w.boundary = s.clock.boundaries then t.formSample ref (edgeOffset s.clock w.instant) w.info else t)

/-! ### Satellite inputs (R28, R29, R195) -/

/-- What a sound satellite message carries (R195). -/
def satMessageOf (bs : List Byte) : SatMessage :=
  { seconds := BitVec.ofNat 48 (fieldAt bs 2 6), tracking := (byteAt bs 8).testBit 0, accuracy := fieldAt bs 9 2,
    boundaries := 0 }

/-- A complete satellite message: kept as the waiting message when it passes its check (R28). -/
def SatInput.takeMessage (i : SatInput) (bs : List Byte) : SatInput :=
  if satMessageSound bs then { i with waiting := some (satMessageOf bs) } else i

/-- Bytes taken on a satellite message line (R28, R195). -/
def SatInput.takeBytes (i : SatInput) (bytes : List Byte) : SatInput :=
  let r := takeMessageBytes 0xA5 12 i.part bytes
  r.2.foldl SatInput.takeMessage { i with part := r.1 }

/-- SAT_MESSAGE (R28, R195). -/
def execSatMessage (input : SatId) (bytes : List Byte) (s : State) : Host.Outcome State Fault Refusal :=
  .next { s with rm := s.rm.setInput input ((s.rm.input input).takeBytes bytes) }

/-- A message that has lapsed: two boundaries have been made since it was taken (R28). -/
def SatMessage.lapsed (m : SatMessage) : Bool := decide (2 ≤ m.boundaries)

/-- The waiting message that can be paired (R28, R29, log 28). -/
def SatInput.pairable (i : SatInput) : Option SatMessage := i.waiting.filter (fun m => !m.lapsed)

/-- SAT_MESSAGE_LAPSE (R28): the waiting message is discarded at the second boundary after it was taken. -/
def execSatMessageLapse (input : SatId) (s : State) : Host.Outcome State Fault Refusal :=
  let i := s.rm.input input
  .next { s with rm := s.rm.setInput input { i with waiting := i.pairable } }

/-- MESSAGE_IDLE_TIMEOUT (R195, R196): a message in progress is abandoned. -/
def execMessageIdleTimeout (line : MessageLine) (s : State) : Host.Outcome State Fault Refusal :=
  .next { s with rm :=
    match line with
    | .sat i => s.rm.setInput i { s.rm.input i with part := [] }
    | .line i => s.rm.setLine i { s.rm.line i with part := [] } }

/-- The declared fields of a SAT entry after an edge (R29). -/
def Declared.atPulse (m : Option SatMessage) (d : Declared) : Declared :=
  match m with
  | some v => { d with message := some true, tracking := some v.tracking, accuracy := some v.accuracy }
  | none => { d with message := some false }

/-- What the paired message gives an edge (R29, R34). -/
def edgeInfoOf (m : Option SatMessage) : EdgeInfo :=
  { declared := m.map SatMessage.seconds, tracking := m.map SatMessage.tracking, quality := 0, depth := 0 }

/-- A pulse that is the first of its boundary: paired, declared, and measured (R29). -/
def State.takePulse (s : State) (input : SatId) (instant : Instant) : State :=
  let i := s.rm.input input
  let m := i.pairable
  let t := { s with rm := s.rm.setInput input { i with waiting := none } }
  (t.updEntry input.ref (fun e => { e with declared := e.declared.atPulse m })).measureEdge input.ref instant (edgeInfoOf m)

/-- PPS_EDGE (R29): a second pulse of the same boundary is discarded. -/
def execPpsEdge (input : SatId) (instant : Instant) (s : State) : Host.Outcome State Fault Refusal :=
  let t := s.advance instant
  .next (if t.secondEdge input.ref instant then t else t.takePulse input instant)

/-! ### Line inputs (R32, R33, R196) -/

/-- A complete line quality message: the declared level, when it passes its check (R32). -/
def Declared.atQuality (bs : List Byte) (d : Declared) : Declared :=
  if lineMessageSound bs then { d with level := some (byteAt bs 1) } else d

/-- LINE_QUALITY_MESSAGE (R32, R196). -/
def execLineQualityMessage (input : LineId) (bytes : List Byte) (s : State) : Host.Outcome State Fault Refusal :=
  let i := s.rm.line input
  let r := takeMessageBytes 0x5A 3 i.part bytes
  let t := { s with rm := s.rm.setLine input { i with part := r.1 } }
  .next (t.updEntry input.ref (fun e => { e with declared := r.2.foldl (fun d bs => d.atQuality bs) e.declared }))

/-- Nothing came with a line clock edge: its verdict reads the level in force (R32, R34). -/
def noInfo : EdgeInfo := { declared := none, tracking := none, quality := 0, depth := 0 }

/-- LINE_CLOCK_EDGE (R33): the first rising edge after a boundary forms the sample; later ones are not waited for. An edge
at the very instant of the boundary is taken as the first one after it (DESIGN CHOICE, log 52; unsafe). -/
def execLineClockEdge (input : LineId) (instant : Instant) (s : State) : Host.Outcome State Fault Refusal :=
  let t := s.advance instant
  let i := t.rm.line input
  .next (if i.edgeWait && decide (t.clock.boundaryAt ≤ instant) then
      ({ t with rm := t.rm.setLine input { i with edgeWait := false } }).formSample input.ref
        ((instant - t.clock.boundaryAt) / 1000) noInfo
    else t)

/-! ### Windows (R41 to R43, R47) -/

/-- The end of a window: WF, q and worst q (R41 to R43). -/
def RefEntry.grade (e : RefEntry) : RefEntry :=
  let wf := if e.windowCount = 0 then e.wf else e.windowSum / e.windowCount
  let q := newQuality e.settings e.windowCount wf e.q
  { e with wf := wf, q := q, worstQ := min e.worstQ q }

/-- A new window at the boundary being accounted; what was formed ahead belongs to it (R41, R47). -/
def RefEntry.newWindow (e : RefEntry) : RefEntry :=
  { e with windowSum := e.aheadSum, windowCount := e.aheadCount, aheadSum := 0, aheadCount := 0, windowEpochs := some 0,
           windowAhead := false, windowRestart := false }

/-- The window ends: graded, started again, and reported (R41 to R44, R53). -/
def RefEntry.endWindow (e : RefEntry) : RefEntry := e.grade.newWindow.windowReport

/-- The window goes on over a boundary, with what was formed ahead joined to it (R41, log 30). -/
def RefEntry.keepWindow (n : Nat) (e : RefEntry) : RefEntry :=
  { e with windowEpochs := some n, windowSum := min (e.windowSum + e.aheadSum) Config.wordMax,
           windowCount := min (e.windowCount + e.aheadCount) 64, aheadSum := 0, aheadCount := 0, windowAhead := false }

/-- The window epochs at the accounting of a boundary (R41): a window begun at that boundary has had none yet. -/
def RefEntry.epochsNow (n : Nat) (e : RefEntry) : Nat := if e.windowAhead then n else n + 1

/-- The window's part of the accounting: a restart asked for, the end at W, or one epoch more (R41, R47). -/
def RefEntry.accountWindow (e : RefEntry) : RefEntry :=
  match e.windowEpochs with
  | none => e
  | some n =>
    if e.windowRestart then e.newWindow
    else if e.settings.window ≤ e.epochsNow n then e.endWindow
    else e.keepWindow (e.epochsNow n)

/-- WINDOW_END (R41): with the window epochs at W, and no restart asked for, the window ends (log 2). -/
def execWindowEnd (ref : RefId) (s : State) : Host.Outcome State Fault Refusal :=
  .next (match (s.entry ref).windowEpochs with
    | some n =>
      if (s.entry ref).settings.window ≤ n ∧ (s.entry ref).windowRestart = false then s.changeEntry ref RefEntry.endWindow
      else s
    | none => s)

/-! ### The epoch accounting (R39, R44) -/

/-- The miss run after an epoch (R39). -/
def RefEntry.countMisses (e : RefEntry) : RefEntry :=
  { e with missRun := if e.thisEpoch.isSome then 0 else min (e.missRun + 1) Config.runEnd }

/-- The epoch just ended showed an ACCEPTABLE sample (R53). -/
def shownAcceptable (had : Option SampleRec) : Bool :=
  match had with
  | some rec => rec.verdict == .acceptable
  | none => false

/-- The first part of an entry's accounting: the misses, the epoch report, and ABSENT at the third miss (R39, R51, R52). -/
def RefEntry.accountEpoch (r : RefId) (e : RefEntry) : RefEntry :=
  if e.state = .absent then e
  else
    let c := e.countMisses
    if c.missRun = Config.runEnd then c.enterAbsent r
    else { c with epochAcceptable := shownAcceptable e.thisEpoch }.epochReport e.thisEpoch

/-- The epoch accounted gives way to the one that the boundary begins (R39, log 30). -/
def RefEntry.nextAccount (e : RefEntry) : RefEntry := { e with thisEpoch := e.nextEpoch, nextEpoch := none }

/-- The accounting of one entry: the epoch report reaches the state machine before the window report (R44, R51). -/
def State.accountEntry (s : State) (r : RefId) : State :=
  ((s.changeEntry r (RefEntry.accountEpoch r)).changeEntry r RefEntry.accountWindow).updEntry r RefEntry.nextAccount

/-- RM_EPOCH_ACCOUNTING (R39): each entry in turn. That the turns go by index, SAT-A to LINE-B, and that all of an entry's reports
come before the next entry's, is the model's choice; which of two entries that qualify at one boundary the SEL takes first
(R59) depends on it (log 49). -/
def execRmEpochAccounting (s : State) : Host.Outcome State Fault Refusal :=
  let t := RefId.all.foldl State.accountEntry s
  .next { t with rm := { t.rm with accounted := t.clock.boundaries } }

/-- REFERENCE_ABSENT (R52): an entry not ABSENT whose miss run has reached 3 becomes ABSENT (log 2). -/
def execReferenceAbsent (ref : RefId) (s : State) : Host.Outcome State Fault Refusal :=
  .next (if (s.entry ref).state ≠ .absent ∧ Config.runEnd ≤ (s.entry ref).missRun then
      s.changeEntry ref (RefEntry.enterAbsent ref)
    else s)

/-! ### The PARENT input (R31, R56, R57) -/

/-- The declared fields of PARENT take a frame's values (R31). -/
def RefEntry.declareParent (f : TimeFrame) (e : RefEntry) : RefEntry :=
  { e with declared := { e.declared with parentQuality := some f.quality, parentDepth := some f.depth,
                                         parentU := some f.senderU },
           recentParentU := some f.senderU }

/-- What a TIME frame gives its edge (R31, R34). -/
def TimeFrame.edgeInfo (f : TimeFrame) : EdgeInfo :=
  { declared := some f.seconds, tracking := none, quality := f.quality, depth := f.depth }

/-- A TIME frame measured (R31): the declared fields for every frame, and an edge for exchange index 0. -/
def State.measureFrame (s : State) (instant : Instant) (f : TimeFrame) : State :=
  let t := s.updEntry .parent (RefEntry.declareParent f)
  if f.index = 0 then t.measureEdge .parent (instant - f.offset * 1000) (TimeFrame.edgeInfo f) else t

/-- PARENT_FRAME_MEASURE (R31, R57): the next item handed over is a frame, discarded while the parent is not present. -/
def execParentFrameMeasure (link : LinkId) (s : State) : Host.Outcome State Fault Refusal :=
  .next (match (s.link link).toRm with
    | .frame instant f :: rest =>
      let t := s.updLink link (fun l => { l with toRm := rest })
      if t.rm.parentPresent then t.measureFrame instant f else t
    | .enrolled :: _ => s
    | .lost :: _ => s
    | [] => s)

/-- PARENT_ENROLLED_REPORT (R56): the next item handed over is the report. -/
def execParentEnrolledReport (link : LinkId) (s : State) : Host.Outcome State Fault Refusal :=
  .next (match (s.link link).toRm with
    | .enrolled :: rest =>
      let t := s.updLink link (fun l => { l with toRm := rest })
      { t with rm := { t.rm with parentPresent := true } }
    | .frame _ _ :: _ => s
    | .lost :: _ => s
    | [] => s)

/-- The parent lost report with nothing but frames before it, taken out of what is handed over: a frame in transit can
cross the report (R57). -/
def takeLost : List ParentEvent → Option (List ParentEvent)
  | [] => none
  | .lost :: rest => some rest
  | .frame i f :: rest => (takeLost rest).map (fun l => .frame i f :: l)
  | .enrolled :: _ => none

/-- The RM takes a parent lost report (R56); an edge of PARENT that waits is dropped (log 15). An entry ABSENT already stays as
it is (R56), but for its declared fields, which R57 has absent in either order of a frame and the report (log 43). -/
def State.loseParent (s : State) : State :=
  let t := { s with rm := { s.rm with parentPresent := false } }.updEntry .parent (fun e => { e with waiting := none })
  if (t.entry .parent).state = .absent then t.updEntry .parent (fun e => { e with declared := Declared.absent })
  else t.changeEntry .parent (RefEntry.enterAbsent .parent)

/-- PARENT_LOST_REPORT (R56, R57). -/
def execParentLostReport (link : LinkId) (s : State) : Host.Outcome State Fault Refusal :=
  .next (match takeLost (s.link link).toRm with
    | some rest => (s.updLink link (fun l => { l with toRm := rest })).loseParent
    | none => s)

/-! ### REF_LOOKUP (R45, R66, R186) -/

/-- The declared fields of the entry's kind (R45, R193); the SAT message, present or missing, as a flag with a presence bit is the
model's choice (log 20). -/
def Declared.items (r : RefId) (d : Declared) : List Item :=
  match r with
  | .satA => [.optFlag d.message, .optFlag d.tracking, optNat 2 d.accuracy]
  | .satB => [.optFlag d.message, .optFlag d.tracking, optNat 2 d.accuracy]
  | .parent => [optNat 1 d.parentQuality, optNat 1 d.parentDepth, optNat 4 d.parentU]
  | .lineA => [optNat 1 d.level]
  | .lineB => [optNat 1 d.level]

/-- The selector's record (R66). -/
def Selector.items (c : Selector) : List Item :=
  [natItem 1 (refCode c.selected), natItem 1 (refCode c.forced), natItem 1 (refCode c.wtrCand), natItem 2 c.wtrCount]

/-- Page 0 (R186). -/
def RefEntry.page0 (r : RefId) (c : Selector) (e : RefEntry) : List Item :=
  [natItem 1 e.state.code, natItem 1 (causeCode e.cause), natItem 1 e.qualify, natItem 1 e.missRun, natItem 1 e.outlierRun,
    .flag e.lostLatch, optInt e.lastSample, optNat 6 (e.lastDeclared.map BitVec.toNat), natItem 2 e.lastAge,
    natItem 4 e.windowSum, natItem 1 e.windowCount, optNat 1 e.windowEpochs, natItem 4 e.wf, natItem 1 e.q,
    natItem 1 e.worstQ] ++ e.declared.items r ++ c.items

/-- A setting that applies to the kind, and an absent value where it does not (R45, log 20). -/
def applies (b : Bool) (v : Nat) : Option Nat := if b then some v else none

/-- The accept level applies to LINE-A, LINE-B and PARENT (section 2.1). -/
def hasAcceptLevel (r : RefId) : Bool := !r.isSat

/-- Page 1 (R186): the settings other than T1 to T7, and the selector settings. -/
def RefEntry.page1 (r : RefId) (c : Selector) (e : RefEntry) : List Item :=
  let t := e.settings
  [.flag t.enabled, natItem 1 t.priority, natItem 1 t.hysteresis, natItem 1 t.window, natItem 1 t.floor,
    natItem 1 t.qualifyPeriod, natItem 4 t.gateWidth, optNat 1 (applies (hasAcceptLevel r) t.acceptLevel),
    optNat 1 (applies (r == .parent) t.maxDepth), optNat 2 (applies r.isSat t.baseUncertainty),
    optNat 2 (applies (r == .parent) t.allowance), natItem 2 c.wtr, .flag c.revertive]

/-- Page 2 (R186): T1 to T7. -/
def RefEntry.page2 (e : RefEntry) : List Item := e.settings.thresholds.map (natItem 4)

/-- What a page 0 lookup changes, after the reading: worst q, and the lost latch of an entry not ABSENT (R43, R45). -/
def RefEntry.looked (e : RefEntry) : RefEntry :=
  { e with worstQ := e.q, lostLatch := if e.state = .absent then e.lostLatch else false }

/-- The pages of an entry that exists (R186): a page above 2 is out of range. -/
def lookupPage (r : RefId) (page : Nat) (t : State) : State × Result × List Item :=
  match page with
  | 0 => (t.updEntry r RefEntry.looked, .ok, (t.entry r).page0 r t.sel)
  | 1 => (t, .ok, (t.entry r).page1 r t.sel)
  | 2 => (t, .ok, (t.entry r).page2)
  | _ => (t, .range, [])

/-- REF_LOOKUP (R45, R186). -/
def execRefLookup (tag index page : Nat) (s : State) : Host.Outcome State Fault Refusal :=
  .next (request tag (fun t =>
    match RefId.ofIndex index with
    | none => (t, .noRecord, [])
    | some r => lookupPage r page t) s)

/-! ### REF_SET (R46, R47, R66, R186) -/

/-- Every present value of form 0 is within its range (R46, R66). -/
def refGeneralInRange (g : RefGeneralReq) : Bool :=
  optIn 0 1023 g.wtr && optIn 1 15 g.priority && optIn 0 4 g.hysteresis
    && (match g.window with
      | none => true
      | some w => [8, 16, 32, 64].contains w)
    && optIn 0 7 g.floor && optIn 4 255 g.qualifyPeriod && optIn 100 100000 g.gateWidth && optIn 0 14 g.acceptLevel
    && optIn 1 14 g.maxDepth && optIn 10 10000 g.baseUncertainty && optIn 0 10000 g.allowance

/-- Every present value of form 0 is for a setting of the entry's kind (R46). -/
def refGeneralApplies (r : RefId) (g : RefGeneralReq) : Bool :=
  (g.acceptLevel.isNone || hasAcceptLevel r) && (g.maxDepth.isNone || r == .parent)
    && (g.baseUncertainty.isNone || r.isSat) && (g.allowance.isNone || r == .parent)

/-- T1 to T7 are strictly descending (R46). -/
def descending : List Nat → Bool
  | [] => true
  | [_] => true
  | a :: b :: rest => decide (b < a) && descending (b :: rest)

/-- The entry's settings with form 0's values (R46). -/
def RefSettings.withGeneral (g : RefGeneralReq) (t : RefSettings) : RefSettings :=
  { enabled := g.enabled.getD t.enabled, priority := g.priority.getD t.priority, thresholds := t.thresholds,
    hysteresis := g.hysteresis.getD t.hysteresis, window := g.window.getD t.window, floor := g.floor.getD t.floor,
    qualifyPeriod := g.qualifyPeriod.getD t.qualifyPeriod, gateWidth := g.gateWidth.getD t.gateWidth,
    acceptLevel := g.acceptLevel.getD t.acceptLevel, maxDepth := g.maxDepth.getD t.maxDepth,
    baseUncertainty := g.baseUncertainty.getD t.baseUncertainty, allowance := g.allowance.getD t.allowance }

/-- The seven values of form 1, in order. -/
def thresholdValues (p : RefThresholdReq) : List (Option Nat) := [p.t1, p.t2, p.t3, p.t4, p.t5, p.t6, p.t7]

/-- The thresholds as they would stand after form 1 (R46). -/
def withThresholds (p : RefThresholdReq) (ts : List Nat) : List Nat :=
  List.zipWith (fun v t => v.getD t) (thresholdValues p) ts

/-- A present W restarts a running window at the next accounting (R47). -/
def RefEntry.setGeneral (g : RefGeneralReq) (e : RefEntry) : RefEntry :=
  { e with settings := e.settings.withGeneral g,
           windowRestart := if g.window.isSome && e.windowEpochs.isSome then true else e.windowRestart }

/-- The selector's settings of form 0 (R66). -/
def Selector.setGeneral (g : RefGeneralReq) (c : Selector) : Selector :=
  { c with wtr := g.wtr.getD c.wtr, revertive := g.revertive.getD c.revertive }

/-- The request concerns the SEL: enabled, priority, WTR or revertive (R66). -/
def concernsSelector (g : RefGeneralReq) : Bool :=
  g.enabled.isSome || g.priority.isSome || g.wtr.isSome || g.revertive.isSome

/-- Form 0 accepted: every setting in one act, and the SEL acts on the result (R46, R47, R66). -/
def State.setGeneral (s : State) (r : RefId) (g : RefGeneralReq) : State :=
  let t := s.updEntry r (RefEntry.setGeneral g)
  let u := { t with sel := t.sel.setGeneral g }
  if concernsSelector g then u.selReact else u

/-- Form 1 accepted (R46). -/
def RefEntry.setThresholds (p : RefThresholdReq) (e : RefEntry) : RefEntry :=
  { e with settings := { e.settings with thresholds := withThresholds p e.settings.thresholds } }

/-- A REF_SET of an entry that exists (R46, R186). -/
def setReference (r : RefId) (p : RefSetBody) (t : State) : State × Result × List Item :=
  match p with
  | .general g =>
    if refGeneralInRange g && refGeneralApplies r g && descending (t.entry r).settings.thresholds then
      (t.setGeneral r g, .ok, [])
    else (t, .range, [])
  | .thresholds v =>
    if (thresholdValues v).all (optIn 1 4294967295) && descending (withThresholds v (t.entry r).settings.thresholds) then
      (t.updEntry r (RefEntry.setThresholds v), .ok, [])
    else (t, .range, [])
  | .other _ => (t, .range, [])

/-- REF_SET (R46, R186). -/
def execRefSet (tag index : Nat) (p : RefSetBody) (s : State) : Host.Outcome State Fault Refusal :=
  .next (request tag (fun t =>
    match RefId.ofIndex index with
    | none => (t, .noRecord, [])
    | some r => setReference r p t) s)

end Sys2Proof.Machine
end

