-- ==== Sys2Proof/Machine/Plan.lean ====
section
/-! DEFINITION. The epoch plan of a link (chapter 5): slot map, split, claims, reservations and the swap; and the removal of alarm entries and of a site record with all its effects (R88, R170). -/

namespace Sys2Proof.Machine

open Sys2Proof

/-! ### The slot map (R96, R98) -/

/-- The effective split: the lower of the split and a pending split (R98). -/
def Link.effectiveSplit (l : Link) : Nat :=
  match l.pendingSplit with
  | some p => min l.split p
  | none => l.split

/-- The entry of a slot; beyond the map there is nothing held. -/
def slotAt (slots : List SlotEntry) (k : Nat) : SlotEntry := (slots[k]?).getD .free

/-- A change of every entry by its slot number, from the slot given. -/
def mapSlots (f : Nat → SlotEntry → SlotEntry) : Nat → List SlotEntry → List SlotEntry
  | _, [] => []
  | k, e :: es => f k e :: mapSlots f (k + 1) es

/-- Slot k lies in the block at a base of a rate. -/
def inBlock (base rate k : Nat) : Bool := decide (base ≤ k ∧ k < base + rate)

/-- Every slot of the block passes the test. -/
def blockPasses (test : SlotEntry → Bool) (base rate : Nat) (slots : List SlotEntry) : Bool :=
  ((slots.drop base).take rate).all test

/-- The slot is usable by a reservation of the handle, its earlier reservation counted as released (R103). -/
def usableBy (h : Nat) (e : SlotEntry) : Bool := e == .free || e == .held h || e == .reserved h

/-- The lowest aligned base below the effective split whose slots all pass (R101, R103). -/
def Link.lowestBase (l : Link) (test : SlotEntry → Bool) (rate : Nat) : Option Nat :=
  ((List.range (l.effectiveSplit / rate)).map (fun i => i * rate)).find? (fun b => blockPasses test b rate l.slots)

/-- The base of a claim or reservation, or the refusal, by the tests of R101 with the slot test given. -/
def Link.placeBlock (l : Link) (test : SlotEntry → Bool) (rate : Nat) (base : BaseReq) : Except Result Nat :=
  match base with
  | .explicit b =>
    if b % rate ≠ 0 then .error .align
    else if l.effectiveSplit < b + rate then .error .region
    else if blockPasses test b rate l.slots then .ok b
    else .error .conflict
  | .any =>
    match l.lowestBase test rate with
    | some b => .ok b
    | none => .error .noSlots

/-- A claim makes the block HELD (R101). -/
def claimSlots (h base rate : Nat) (slots : List SlotEntry) : List SlotEntry :=
  mapSlots (fun k e => if inBlock base rate k then .held h else e) 0 slots

/-- A reservation: the earlier one is released, slots of the new block held by the record stay HELD, the others become
RESERVED (R103). -/
def reserveSlots (h base rate : Nat) (slots : List SlotEntry) : List SlotEntry :=
  mapSlots (fun k e =>
    if inBlock base rate k then (if e = .held h then e else .reserved h)
    else if e = .reserved h then .free else e) 0 slots

/-- The release of a reservation (R105). -/
def releaseSlots (h : Nat) (slots : List SlotEntry) : List SlotEntry :=
  slots.map (fun e => if e = .reserved h then .free else e)

/-- The swap: RESERVED becomes HELD, and held slots outside the new block become FREE (R104). -/
def swapSlots (h base rate : Nat) (slots : List SlotEntry) : List SlotEntry :=
  mapSlots (fun k e =>
    if e = .reserved h then .held h
    else if e = .held h ∧ inBlock base rate k = false then .free else e) 0 slots

/-- A removal frees every slot the record holds or reserves (R88). -/
def freeSlots (h : Nat) (slots : List SlotEntry) : List SlotEntry :=
  slots.map (fun e => if e = .held h ∨ e = .reserved h then .free else e)

/-- Some slot at or above a value is HELD or RESERVED (R99). -/
def occupiedFrom (k : Nat) (slots : List SlotEntry) : Bool := (slots.drop k).any (fun e => e != .free)

/-- A pending split is applied (R100). -/
def Link.applySplit (l : Link) : Link :=
  match l.pendingSplit with
  | some p => { l with split := p, pendingSplit := none }
  | none => l

/-- The split part of LINK_SET once its checks have passed (R99). -/
def Link.requestSplit (l : Link) (p : Nat) : Link :=
  if p = l.split then { l with pendingSplit := none } else { l with pendingSplit := some p }

/-- How many slots below the split are FREE, HELD and RESERVED (R111). -/
def Link.countSlots (l : Link) (test : SlotEntry → Bool) : Nat := ((l.slots.take l.split).filter test).length

def SlotEntry.isHeld : SlotEntry → Bool
  | .free => false
  | .held _ => true
  | .reserved _ => false

def SlotEntry.isReserved : SlotEntry → Bool
  | .free => false
  | .held _ => false
  | .reserved _ => true

/-! ### Alarm entries taken out (R169, R170, R176) -/

/-- A mark that names an index that is gone comes off (R169, R170). -/
def AlarmEntry.unmark (gone : List Nat) (e : AlarmEntry) : AlarmEntry :=
  match e.root with
  | some k => if gone.contains k then { e with root := none } else e
  | none => e

/-- Retiring entries: out of the table and of the age order, and the marks that name them off (R170). -/
def AlarmTable.retireWhere (p : AlarmEntry → Bool) (t : AlarmTable) : AlarmTable :=
  let gone := (t.entries.filter p).map AlarmEntry.index
  { t with entries := (t.entries.filter (fun e => !p e)).map (AlarmEntry.unmark gone) }

/-- Some entry qualifies for notification (R176). -/
def AlarmTable.anyQualifies (t : AlarmTable) : Bool := t.entries.any (AlarmEntry.qualifies t.threshold)

/-- An act that leaves no entry qualifying deasserts the line; the armed flag stays (R176). -/
def AlarmTable.settle (t : AlarmTable) : AlarmTable := { t with asserted := t.asserted && t.anyQualifies }

/-- The source is the record of a handle (R160). -/
def AlarmSource.isSite (h : Nat) : AlarmSource → Bool
  | .site k _ => k == h
  | .timebase => false
  | .ref _ => false
  | .link _ => false
  | .table => false

/-! ### Sorted collections (R70, R71) -/

/-- A handle in its place among handles in ascending order (R71). -/
def insertHandle (h : Nat) : List Nat → List Nat
  | [] => [h]
  | k :: rest => if h < k then h :: k :: rest else k :: insertHandle h rest

/-- A pair in its place in ascending order of site ID (R70). -/
def insertPair (p : Nat × Nat) : List (Nat × Nat) → List (Nat × Nat)
  | [] => [p]
  | q :: rest => if p.1 < q.1 then p :: q :: rest else q :: insertPair p rest

/-- A record in its place in ascending order of handle. -/
def insertRecord (r : SiteRecord) : List SiteRecord → List SiteRecord
  | [] => [r]
  | q :: rest => if r.handle < q.handle then r :: q :: rest else q :: insertRecord r rest

/-- A drop map's entry written (R72). -/
def setDrop (drop : Nat) (v : Option Nat) (drops : List (Option Nat)) : List (Option Nat) := drops.set (drop - 1) v

/-! ### Removal (R88) -/

/-- The three collections and the table without the record (R70 to R72, R88). -/
def SiteTable.dropRecord (r : SiteRecord) (t : SiteTable) : SiteTable :=
  { t with records := t.records.filter (fun q => q.handle != r.handle),
           index := t.index.filter (fun p => p.2 != r.handle),
           freeHandles := insertHandle r.handle t.freeHandles,
           dropMaps := t.dropMaps.update r.link (setDrop r.drop none) }

/-- The plan without the record: its slots FREE, and out of the retire queue (R88). -/
def Link.dropRecord (h : Nat) (l : Link) : Link :=
  { l with slots := freeSlots h l.slots, retireQueue := l.retireQueue.filter (fun k => k != h) }

/-- A removal takes a record out of the table, whole, in one act (R88). -/
def State.removeRecord (s : State) (r : SiteRecord) : State :=
  let t := s.updLink r.link (Link.dropRecord r.handle)
  { t with stu := t.stu.dropRecord r,
           atu := (t.atu.retireWhere (fun e => AlarmSource.isSite r.handle e.source)).settle }

/-- The removal of the record of a handle, if there is one. -/
def State.removeHandle (s : State) (h : Nat) : State :=
  match s.record? h with
  | some r => s.removeRecord r
  | none => s

end Sys2Proof.Machine
end

