-- ==== Sys2Proof/Machine/Sites.lean ====
section
/-! DEFINITION. The Site Table Unit (chapter 4, section 8.2): creation, ENROL results, expiry, admission, suspension, retirement, lookups, and the service evaluation. -/

namespace Sys2Proof.Machine

open Sys2Proof

/-! ### The record body (R91) -/

/-- A code with its presence. -/
def optCode {α : Type} (width : Nat) (f : α → Nat) (v : Option α) : Item := optNat width (v.map f)

/-- Every administrative field in the order of its table (R91), the pending amendment apart: it has no presence bit of its own
beside those of its eight staged values (DESIGN CHOICE, log 20; unsafe). -/
def SiteRecord.adminItems (r : SiteRecord) : List Item :=
  [natItem 1 r.handle, natItem 4 r.siteId, natItem 1 r.link.index, natItem 1 r.drop, natItem 1 r.lifecycle.code,
    optCode 1 SiteClass.code r.cls, optNat 2 r.budget, optNat 1 r.rate, optNat 1 r.slotBase, optCode 1 AckMode.code r.ackMode,
    optNat 1 r.window, natItem 1 r.groups.toNat, .flag r.protectedFlag, .flag r.squelch, .flag r.autoComp,
    optCode 1 Capability.code r.capability, optNat 1 r.expiry, natItem 1 r.condition.code]

/-- The staged values in the order of R112. -/
def Pending.items (p : Pending) : List Item :=
  [optCode 1 SiteClass.code p.cls, optNat 2 p.budget, optNat 1 p.rate, optNat 1 p.slotBase, optCode 1 AckMode.code p.ackMode,
    optNat 1 p.window, optInt p.compensation, .optFlag p.squelch]

/-- Every exchange field in the order of its table, the open exchanges as their number (R91). -/
def SiteRecord.exchangeItems (r : SiteRecord) : List Item :=
  [intItem r.compensation, natItem 1 r.exchanges.length, natItem 1 r.missRun, natItem 1 r.silence.code, natItem 2 r.sent,
    natItem 2 r.onTime, natItem 2 r.late, natItem 2 r.missed, optNat 4 r.lastRoundTrip, .flag r.serviceStarted]

/-- The record body (R91). -/
def SiteRecord.items (r : SiteRecord) : List Item := r.adminItems ++ r.pending.items ++ r.exchangeItems

/-! ### Creation (R69 to R76) -/

/-- No amendment pending (R112). -/
def Pending.empty : Pending :=
  { cls := none, budget := none, rate := none, slotBase := none, ackMode := none, window := none, compensation := none,
    squelch := none }

/-- The contents of a new record (R69). -/
def SiteRecord.new (handle siteId : Nat) (link : LinkId) (drop : Nat) (cap : Option Capability) (timeout : Nat) :
    SiteRecord :=
  { handle := handle, siteId := siteId, link := link, drop := drop, lifecycle := .provisional, cls := none, budget := none,
    rate := none, slotBase := none, ackMode := none, window := none, groups := 0, protectedFlag := false, squelch := false,
    autoComp := false, capability := cap, expiry := some timeout, pending := Pending.empty, condition := .none,
    compensation := 0, exchanges := [], missRun := 0, silence := .none, sent := 0, onTime := 0, late := 0, missed := 0,
    lastRoundTrip := none, serviceStarted := false, onTimeSince := false, stagedCompAt := none }

/-- A record joins the table, the index and its drop map, and its handle leaves the allocation set (R69 to R72). -/
def SiteTable.addRecord (r : SiteRecord) (t : SiteTable) : SiteTable :=
  { t with records := insertRecord r t.records, index := insertPair (r.siteId, r.handle) t.index,
           freeHandles := t.freeHandles.filter (fun k => k != r.handle),
           dropMaps := t.dropMaps.update r.link (setDrop r.drop (some r.handle)) }

/-- A creation with a handle claimed from the allocation set (R69, R71). -/
def State.createRecord (s : State) (handle siteId : Nat) (link : LinkId) (drop : Nat) (cap : Option Capability) : State :=
  { s with stu := s.stu.addRecord (SiteRecord.new handle siteId link drop cap s.stu.provisionalTimeout) }

/-- The handle that a site ID has in the index (R70). -/
def SiteTable.handleOf (t : SiteTable) (siteId : Nat) : Option Nat := (t.index.find? (fun p => p.1 == siteId)).map Prod.snd

/-- The drop map entry (R72). -/
def SiteTable.dropEntry (t : SiteTable) (l : LinkId) (drop : Nat) : Option Nat := (((t.dropMaps.get l)[drop - 1]?)).join

/-- The tests of R74 after the range, and the creation. -/
def createSite (siteId : Nat) (link : LinkId) (drop : Nat) (t : State) : State × Result × List Item :=
  if (t.link link).role ≠ .serve then (t, .role, [])
  else if (t.stu.handleOf siteId).isSome then (t, .duplicate, [])
  else if (t.stu.dropEntry link drop).isSome then (t, .conflict, [])
  else match t.stu.freeHandles with
    | [] => (t, .full, [])
    | h :: _ => (t.createRecord h siteId link drop none, .ok, [natItem 1 h])

/-- SITE_CREATE (R74): the answer is the handle, without the site ID (log 50). -/
def execSiteCreate (tag siteId link drop : Nat) (s : State) : Host.Outcome State Fault Refusal :=
  .next (request tag (fun t =>
    match LinkId.ofIndex link with
    | none => (t, .range, [])
    | some l =>
      if siteId = 0 ∨ inRange 1 Config.maxDrop drop = false then (t, .range, []) else createSite siteId l drop t) s)

/-- A refreshed ENROL result (R76). -/
def SiteRecord.refresh (cap : Capability) (timeout : Nat) (r : SiteRecord) : SiteRecord :=
  { r with capability := some cap, expiry := if r.lifecycle = .provisional then some timeout else r.expiry }

def Link.countRefused (l : Link) : Link := { l with enrolRefused := inc16 l.enrolRefused }

def Link.countConflict (l : Link) : Link := { l with enrolConflicts := inc16 l.enrolConflicts }

/-- An ENROL result decided by the tests of R75 after the role. -/
def State.decideEnrol (s : State) (l : LinkId) (e : EnrolResult) : State :=
  match (s.stu.handleOf e.siteId).bind s.record? with
  | some r =>
    if r.link = l ∧ r.drop = e.drop then
      s.updRecord r.handle (SiteRecord.refresh e.capability s.stu.provisionalTimeout)
    else s.updLink l Link.countConflict
  | none =>
    if (s.stu.dropEntry l e.drop).isSome then s.updLink l Link.countConflict
    else match s.stu.freeHandles with
      | [] => s.updLink l Link.countRefused
      | h :: _ => s.createRecord h e.siteId l e.drop (some e.capability)

/-- ENROL_RESULT (R75): the next result of the link is taken, against the role as it stands. -/
def execEnrolResult (link : LinkId) (s : State) : Host.Outcome State Fault Refusal :=
  .next (match (s.link link).toStu with
    | [] => s
    | e :: rest =>
      let t := s.updLink link (fun l => { l with toStu := rest })
      if (t.link link).role ≠ .serve then t.updLink link Link.countRefused else t.decideEnrol link e)

/-! ### Expiry (R78) -/

/-- The expiry counter of a PROVISIONAL record goes down by one (R78). -/
def SiteRecord.countExpiry (r : SiteRecord) : SiteRecord :=
  if r.lifecycle = .provisional then { r with expiry := r.expiry.map (fun n => n - 1) } else r

/-- A PROVISIONAL record whose counter has reached 0 (R78). -/
def SiteRecord.expired (r : SiteRecord) : Bool := r.lifecycle == .provisional && r.expiry == some 0

/-- PROVISIONAL_EXPIRY (R78): the counters of a boundary, and each record that reaches 0 removed, by its own act. -/
def execProvisionalExpiry (s : State) : Host.Outcome State Fault Refusal :=
  let t := { s with stu := { s.stu with records := s.stu.records.map SiteRecord.countExpiry } }
  .next ((t.stu.records.filter SiteRecord.expired).foldl State.removeRecord t)

/-! ### Admission (R80 to R82) -/

/-- Every value of an admission within its range (R80). -/
def admitInRange (p : AdmitReq) (c : SiteClass) : Bool :=
  budgetIn c p.budget && rateIn p.rate && inRange 0 7 p.window && withinSigned 100000 p.compensation
    && (match p.slotBase with
      | .any => true
      | .explicit b => inRange 0 255 b)

/-- The record admitted, its block at the base claimed (R82). -/
def SiteRecord.activate (p : AdmitReq) (c : SiteClass) (m : AckMode) (base : Nat) (r : SiteRecord) : SiteRecord :=
  { r with lifecycle := .active, expiry := none, cls := some c, budget := some p.budget, rate := some p.rate,
           slotBase := some base, ackMode := some m, window := some p.window, groups := p.groups,
           protectedFlag := p.protectedFlag, squelch := p.squelch, autoComp := p.autoComp, compensation := p.compensation,
           exchanges := [], missRun := 0, silence := .none, sent := 0, onTime := 0, late := 0, missed := 0,
           lastRoundTrip := none, serviceStarted := false, onTimeSince := false, stagedCompAt := none }

/-- The claim, and the record admitted with it in one act (R82, R101). -/
def admitClaim (p : AdmitReq) (c : SiteClass) (m : AckMode) (r : SiteRecord) (t : State) : State × Result × List Item :=
  match (t.link r.link).placeBlock (fun e => e == .free) p.rate p.slotBase with
  | .error x => (t, x, [])
  | .ok b =>
    ((t.updLink r.link (fun l => { l with slots := claimSlots r.handle b p.rate l.slots })).updRecord r.handle
      (SiteRecord.activate p c m b), .ok, [natItem 1 b])

/-- The tests of R80 on a record found. -/
def admitRecord (p : AdmitReq) (r : SiteRecord) (t : State) : State × Result × List Item :=
  if r.lifecycle ≠ .provisional then (t, .badState, [])
  else match SiteClass.ofCode p.cls, AckMode.ofCode p.ackMode with
    | some c, some m =>
      if admitInRange p c = false then (t, .range, [])
      else if capabilityAllows r.capability c p.rate = false then (t, .capability, [])
      else admitClaim p c m r t
    | some _, none => (t, .range, [])
    | none, _ => (t, .range, [])

/-- SITE_ADMIT (R80): the answer is the slot base, without the site ID (log 50). -/
def execSiteAdmit (tag : Nat) (p : AdmitReq) (s : State) : Host.Outcome State Fault Refusal :=
  .next (request tag (fun t =>
    match t.record? p.handle with
    | none => (t, .noRecord, [])
    | some r => admitRecord p r t) s)

/-! ### Suspension and resumption (R84, R85) -/

/-- Open exchanges are discarded uncounted, and the condition is NONE (R84). -/
def SiteRecord.suspend (r : SiteRecord) : SiteRecord := { r with lifecycle := .suspended, exchanges := [], condition := .none }

/-- SITE_SUSPEND (R84): the answer is empty, without the site ID (log 50). -/
def execSiteSuspend (tag handle : Nat) (s : State) : Host.Outcome State Fault Refusal :=
  .next (request tag (fun t =>
    match t.record? handle with
    | none => (t, .noRecord, [])
    | some r =>
      if r.lifecycle ≠ .active then (t, .badState, [])
      else if r.protectedFlag then (t, .protectedField, [])
      else (t.updRecord handle SiteRecord.suspend, .ok, [])) s)

/-- SITE_RESUME (R85): the condition stays NONE until the next evaluation. The answer is empty (log 50). -/
def execSiteResume (tag handle : Nat) (s : State) : Host.Outcome State Fault Refusal :=
  .next (request tag (fun t =>
    match t.record? handle with
    | none => (t, .noRecord, [])
    | some r =>
      if r.lifecycle ≠ .suspended then (t, .badState, [])
      else (t.updRecord handle (fun q => { q with lifecycle := .active }), .ok, [])) s)

/-! ### Retirement (R86, R87) -/

/-- A record becomes RETIRING (R86). -/
def SiteRecord.retire (r : SiteRecord) : SiteRecord :=
  { r with lifecycle := .retiring, exchanges := [], pending := Pending.empty, condition := .none }

/-- The record RETIRING, its reservation released, at the tail of its link's retire queue (R86, R105, R108). -/
def State.queueRetire (s : State) (r : SiteRecord) : State :=
  (s.updLink r.link (fun l => { l with slots := releaseSlots r.handle l.slots,
                                        retireQueue := l.retireQueue ++ [r.handle] })).updRecord r.handle SiteRecord.retire

/-- The outcome of a retirement by the record's lifecycle (R86, R87). -/
def retireRecord (now : Bool) (r : SiteRecord) (t : State) : State × Result × List Item :=
  if r.protectedFlag then (t, .protectedField, [])
  else match r.lifecycle with
    | .provisional => (t.removeRecord r, .ok, [])
    | .active => if now then (t.removeRecord r, .ok, []) else (t.queueRetire r, .accepted, [])
    | .suspended => if now then (t.removeRecord r, .ok, []) else (t.queueRetire r, .accepted, [])
    | .retiring => if now then (t.removeRecord r, .ok, []) else (t, .accepted, [])

/-- SITE_RETIRE (R86, R87): the answer is empty, without the site ID (log 50). -/
def execSiteRetire (tag handle : Nat) (now : Bool) (s : State) : Host.Outcome State Fault Refusal :=
  .next (request tag (fun t =>
    match t.record? handle with
    | none => (t, .noRecord, [])
    | some r => retireRecord now r t) s)

/-! ### Lookups (R91 to R93) -/

/-- The answer of a lookup that finds a record or none (R91, R92). -/
def bodyOf (t : State) (r : Option SiteRecord) : State × Result × List Item :=
  match r with
  | some q => (t, .ok, q.items)
  | none => (t, .noRecord, [])

/-- The record of a link and drop, none outside their ranges (R91). -/
def State.atLinkDrop (s : State) (link drop : Nat) : Option SiteRecord :=
  match LinkId.ofIndex link with
  | some l => s.recordAtDrop? l drop
  | none => none

/-- SITE_LOOKUP (R91). -/
def execSiteLookup (tag : Nat) (key : SiteKey) (s : State) : Host.Outcome State Fault Refusal :=
  .next (request tag (fun t =>
    match key with
    | .byHandle h => bodyOf t (t.record? h)
    | .bySiteId i => bodyOf t ((t.stu.handleOf i).bind t.record?)
    | .byLinkDrop l d => bodyOf t (t.atLinkDrop l d)
    | .other _ => (t, .range, [])) s)

/-- SITE_NEXT (R92): the lowest site ID in the index above the cursor. -/
def execSiteNext (tag cursor : Nat) (s : State) : Host.Outcome State Fault Refusal :=
  .next (request tag (fun t =>
    bodyOf t ((t.stu.index.find? (fun p => decide (cursor < p.1))).bind (fun p => t.record? p.2))) s)

/-- The four counts set to 0 (R93). -/
def SiteRecord.zeroCounts (r : SiteRecord) : SiteRecord := { r with sent := 0, onTime := 0, late := 0, missed := 0 }

/-- SITE_TAKE_COUNTS (R93, R159): the record body as it stood when the request was taken, the handle, the site ID, the four
values read and the condition among it (log 21). -/
def execSiteTakeCounts (tag handle : Nat) (s : State) : Host.Outcome State Fault Refusal :=
  .next (request tag (fun t =>
    match t.record? handle with
    | none => (t, .noRecord, [])
    | some r => (t.updRecord handle SiteRecord.zeroCounts, .ok, r.items)) s)

/-! ### The service evaluation (R151) -/

/-- An ACTIVE record judged against a copy (R151). -/
def SiteRecord.evaluate (p : Published) (r : SiteRecord) : SiteRecord :=
  if r.lifecycle = .active then { r with condition := judge p r r.condition } else r

/-- The copy that a reader holds (R7). -/
def State.copyHeld (s : State) (older : Bool) : Published := if older then s.older else s.published

/-- SERVICE_EVALUATION (R151): every ACTIVE record against one copy. -/
def execServiceEvaluation (older : Bool) (s : State) : Host.Outcome State Fault Refusal :=
  .next { s with stu := { s.stu with records := s.stu.records.map (SiteRecord.evaluate (s.copyHeld older)) } }

end Sys2Proof.Machine
end

