-- ==== Sys2Proof/Machine/Amend.lean ====
section
/-! DEFINITION. Staged and group amendments (chapter 6): SITE_AMEND, SITE_AMEND_GROUP, and their application at a boundary. -/

namespace Sys2Proof.Machine

open Sys2Proof

/-! ### SITE_AMEND (R113 to R118) -/

/-- A staged field is carried, the budget apart (R113). -/
def carriesStaged (p : AmendReq) : Bool :=
  p.cls.isSome || p.rate.isSome || p.slotBase.isSome || p.ackMode.isSome || p.window.isSome || p.compensation.isSome
    || p.squelch.isSome

/-- The lifecycle allows every present field (R114). -/
def amendAllowed (l : Lifecycle) (p : AmendReq) : Bool :=
  match l with
  | .provisional => p.budget.isNone && !carriesStaged p
  | .active => true
  | .suspended => true
  | .retiring => !carriesStaged p

/-- A protected field is carried (R90): class, rate, slot base, acknowledge mode or squelch. -/
def carriesProtected (p : AmendReq) : Bool :=
  p.cls.isSome || p.rate.isSome || p.slotBase.isSome || p.ackMode.isSome || p.squelch.isSome

/-- The class the record will hold after the next boundary (R115, R116). -/
def standingClass (r : SiteRecord) (asked : Option SiteClass) : Option SiteClass :=
  (asked.or r.pending.cls).or r.cls

/-- The budget that will stand after the boundary, with no budget in the request (R115). -/
def standingBudget (r : SiteRecord) : Option Nat := r.pending.budget.or r.budget

/-- The budget agrees with its class (R115). -/
def amendBudgetOk (r : SiteRecord) (asked : Option SiteClass) (budget : Option Nat) : Bool :=
  match budget, asked with
  | none, none => true
  | none, some c => budgetIn c ((standingBudget r).getD 0)
  | some b, _ =>
    match standingClass r asked with
    | some c => budgetIn c b
    | none => false

/-- A present value of an enumeration is one of its values (R113). -/
def optCodeOk {α : Type} (ofCode : Nat → Option α) : Option Nat → Bool
  | none => true
  | some v => (ofCode v).isSome

/-- Every present value within its range (R113). -/
def amendInRange (r : SiteRecord) (p : AmendReq) : Bool :=
  optCodeOk SiteClass.ofCode p.cls && optCodeOk AckMode.ofCode p.ackMode
    && (match p.rate with
      | none => true
      | some v => rateIn v)
    && (match p.slotBase with
      | some (.explicit b) => inRange 0 255 b
      | some .any => true
      | none => true)
    && optIn 0 7 p.window && optWithin 100000 p.compensation
    && amendBudgetOk r (p.cls.bind SiteClass.ofCode) p.budget

/-- The rate of the capability check and of the reservation (R116, R117). -/
def standingRate (r : SiteRecord) (p : AmendReq) : Nat := ((p.rate.or r.pending.rate).or r.rate).getD 0

/-- The capability check, made when a class or a rate is carried (R116). -/
def amendCapable (r : SiteRecord) (p : AmendReq) : Bool :=
  if p.cls.isSome || p.rate.isSome then
    match standingClass r (p.cls.bind SiteClass.ofCode) with
    | some c => capabilityAllows r.capability c (standingRate r p)
    | none => true
  else true

/-- The base asked of the reservation (R117): a rate without a base asks for "any". -/
def amendBase (p : AmendReq) : BaseReq := p.slotBase.getD .any

/-- The reservation of a request that carries a rate or a base (R103, R117): none where none is asked. -/
def reserveFor (t : State) (r : SiteRecord) (p : AmendReq) : Option (Except Result Nat) :=
  if p.rate.isSome || p.slotBase.isSome then
    some ((t.link r.link).placeBlock (usableBy r.handle) (standingRate r p) (amendBase p))
  else none

/-- The budget carried is staged, because a class is carried or pending (R115). -/
def stagesBudget (r : SiteRecord) (p : AmendReq) : Bool := p.cls.isSome || r.pending.cls.isSome

/-- The pending budget after the request (R115). -/
def pendingBudget (r : SiteRecord) (p : AmendReq) : Option Nat :=
  if p.cls.isSome then p.budget.or (standingBudget r)
  else if r.pending.cls.isSome then p.budget.or r.pending.budget
  else r.pending.budget

/-- The pending amendment after the request: field by field, the later value wins (R118). -/
def mergePending (r : SiteRecord) (p : AmendReq) (base : Option Nat) : Pending :=
  { cls := (p.cls.bind SiteClass.ofCode).or r.pending.cls,
    budget := pendingBudget r p,
    rate := if base.isSome then some (standingRate r p) else r.pending.rate,
    slotBase := base.or r.pending.slotBase,
    ackMode := (p.ackMode.bind AckMode.ofCode).or r.pending.ackMode,
    window := p.window.or r.pending.window,
    compensation := p.compensation.or r.pending.compensation,
    squelch := p.squelch.or r.pending.squelch }

/-- The record after an accepted amendment (R118). -/
def SiteRecord.amend (p : AmendReq) (base : Option Nat) (r : SiteRecord) : SiteRecord :=
  { r with groups := p.groups.getD r.groups, protectedFlag := p.protectedFlag.getD r.protectedFlag,
           autoComp := p.autoComp.getD r.autoComp,
           budget := if stagesBudget r p then r.budget else p.budget.or r.budget,
           pending := mergePending r p base }

/-- ACCEPTED when a staged field was carried, a staged budget among them (R115, R118). -/
def amendResult (r : SiteRecord) (p : AmendReq) : Result :=
  if carriesStaged p || (p.budget.isSome && stagesBudget r p) then .accepted else .ok

/-- The amendment accepted, with its reservation (R103, R118). -/
def amendAct (p : AmendReq) (r : SiteRecord) (base : Option Nat) (t : State) : State × Result × List Item :=
  let u := match base with
    | some b => t.updLink r.link (fun l => { l with slots := reserveSlots r.handle b (standingRate r p) l.slots })
    | none => t
  (u.updRecord r.handle (SiteRecord.amend p base), amendResult r p, (r.amend p base).items)

/-- The tests of R113 on a record found, in order. -/
def amendRecord (p : AmendReq) (r : SiteRecord) (t : State) : State × Result × List Item :=
  if amendAllowed r.lifecycle p = false then (t, .badState, [])
  else if r.protectedFlag && carriesProtected p then (t, .protectedField, [])
  else if amendInRange r p = false then (t, .range, [])
  else if amendCapable r p = false then (t, .capability, [])
  else match reserveFor t r p with
    | some (.error x) => (t, x, [])
    | some (.ok b) => amendAct p r (some b) t
    | none => amendAct p r none t

/-- SITE_AMEND (R113). -/
def execSiteAmend (tag : Nat) (p : AmendReq) (s : State) : Host.Outcome State Fault Refusal :=
  .next (request tag (fun t =>
    match t.record? p.handle with
    | none => (t, .noRecord, [])
    | some r => amendRecord p r t) s)

/-! ### SITE_AMEND_GROUP (R122 to R124) -/

/-- An ACTIVE or SUSPENDED record that shares a group with the mask (R122). -/
def SiteRecord.inGroups (mask : BitVec 8) (r : SiteRecord) : Bool :=
  (r.lifecycle == .active || r.lifecycle == .suspended) && (r.groups &&& mask) != 0

/-- The compensation that a delta gives, from the one that will stand after the boundary (R123). -/
def deltaCompensation (r : SiteRecord) (delta : Int) : Int := r.pending.compensation.getD r.compensation + delta

/-- The record's values would be within their ranges (R123). -/
def groupValuesOk (p : AmendGroupReq) (r : SiteRecord) : Bool :=
  (match p.budget with
    | none => true
    | some b =>
      match standingClass r none with
      | some c => budgetIn c b
      | none => false)
    && (match p.delta with
      | none => true
      | some d => withinSigned 100000 (deltaCompensation r d))

/-- A selected record after the group amendment (R124). -/
def SiteRecord.amendGroup (p : AmendGroupReq) (r : SiteRecord) : SiteRecord :=
  { r with autoComp := p.autoComp.getD r.autoComp,
           budget := if r.pending.cls.isSome then r.budget else p.budget.or r.budget,
           pending := { r.pending with
             budget := if r.pending.cls.isSome then p.budget.or r.pending.budget else r.pending.budget,
             window := p.window.or r.pending.window,
             compensation := (p.delta.map (deltaCompensation r)).or r.pending.compensation,
             squelch := if r.protectedFlag then r.pending.squelch else p.squelch.or r.pending.squelch } }

/-- A selected record receives at least one field (R124). -/
def groupReceives (p : AmendGroupReq) (r : SiteRecord) : Bool :=
  p.budget.isSome || p.window.isSome || p.autoComp.isSome || p.delta.isSome || (p.squelch.isSome && !r.protectedFlag)

/-- A selected protected record is passed over for squelch (R124). -/
def groupSkips (p : AmendGroupReq) (r : SiteRecord) : Bool := p.squelch.isSome && r.protectedFlag

/-- The request itself passes its tests (R122). -/
def amendGroupInRange (p : AmendGroupReq) : Bool :=
  p.mask != 0 && optIn 0 7 p.window && optWithin 200000 p.delta

/-- A request that carries no field (R122). -/
def amendGroupEmpty (p : AmendGroupReq) : Bool :=
  p.budget.isNone && p.window.isNone && p.squelch.isNone && p.autoComp.isNone && p.delta.isNone

/-- A group amendment whose own tests have passed (R123, R124): the check of every selected record in ascending order of
handle, then the change of all of them in one act. -/
def amendGroupRecords (p : AmendGroupReq) (t : State) : State × Result × List Item :=
  let selected := t.stu.records.filter (SiteRecord.inGroups p.mask)
  match selected.find? (fun r => !groupValuesOk p r) with
  | some r => (t, .range, [natItem 1 r.handle])
  | none =>
    ({ t with stu := { t.stu with
        records := t.stu.records.map (fun r => if r.inGroups p.mask then r.amendGroup p else r) } }, .ok,
      [natItem 1 (selected.filter (groupReceives p)).length, natItem 1 (selected.filter (groupSkips p)).length])

/-- SITE_AMEND_GROUP (R122). -/
def execSiteAmendGroup (tag : Nat) (p : AmendGroupReq) (s : State) : Host.Outcome State Fault Refusal :=
  .next (request tag (fun t =>
    if amendGroupInRange p = false then (t, .range, [])
    else if amendGroupEmpty p then (t, .ok, [natItem 1 0, natItem 1 0])
    else amendGroupRecords p t) s)

/-! ### Application at the boundary (R120) -/

/-- A change to UNCONFIRMED discards the open exchanges and the miss run (R120). -/
def SiteRecord.applyMode (m : Option AckMode) (r : SiteRecord) : SiteRecord :=
  match m with
  | some .unconfirmed => { r with ackMode := some .unconfirmed, exchanges := [], missRun := 0, silence := .none }
  | some .confirmed => { r with ackMode := some .confirmed }
  | none => r

/-- The pending amendment of an ACTIVE or SUSPENDED record becomes its values (R120); the boundary is noted where a
compensation was staged (R145, log 31), equal to the current one or not (DESIGN CHOICE, log 53;
unsafe). A pending class sets the condition to NONE, equal to the current class or not (R120, R150, log 45). -/
def SiteRecord.applyPending (boundary : Nat) (r : SiteRecord) : SiteRecord :=
  let p := r.pending
  let m := r.applyMode p.ackMode
  { m with cls := p.cls.or r.cls, budget := p.budget.or r.budget,
           condition := if p.cls.isSome then .none else r.condition,
           rate := p.rate.or r.rate, slotBase := p.slotBase.or r.slotBase, window := p.window.or r.window,
           compensation := p.compensation.getD r.compensation,
           stagedCompAt := if p.compensation.isSome then some boundary else r.stagedCompAt,
           squelch := p.squelch.getD r.squelch, pending := Pending.empty }

/-- The swap of a pending rate and base (R104). -/
def Link.swapPending (r : SiteRecord) (l : Link) : Link :=
  match r.pending.rate, r.pending.slotBase with
  | some rate, some base => { l with slots := swapSlots r.handle base rate l.slots }
  | some _, none => l
  | none, _ => l

/-- The application to one record, with the swap in the same act (R104, R120). -/
def State.applyAmendment (s : State) (r : SiteRecord) : State :=
  if r.lifecycle = .active ∨ r.lifecycle = .suspended then
    (s.updLink r.link (Link.swapPending r)).updRecord r.handle (SiteRecord.applyPending s.clock.boundaries)
  else s

/-- AMENDMENT_APPLICATION (R120): every ACTIVE or SUSPENDED record's pending amendment. -/
def execAmendmentApplication (s : State) : Host.Outcome State Fault Refusal :=
  .next (s.stu.records.foldl State.applyAmendment s)

end Sys2Proof.Machine
end

