-- ==== Sys2Proof/Machine/Links.lean ====
section
/-! DEFINITION. The Link Engines (chapters 5 and 7): line state, roles, frames sent and taken, exchanges, enrolment, parent role, and the link requests. -/

namespace Sys2Proof.Machine

open Sys2Proof

/-! ### Misses and frames being received (R136, R143) -/

def Link.countBad (l : Link) : Link := { l with badFrames := inc16 l.badFrames }

def Link.countStray (l : Link) : Link := { l with strayReplies := inc16 l.strayReplies }

/-- Exchanges held open for a frame are closed as missed (R143, log 35). -/
def SiteRecord.closeHeld (r : SiteRecord) : SiteRecord :=
  (r.exchanges.filter Exchange.held).foldl (fun q _ => q.countMiss)
    { r with exchanges := r.exchanges.filter (fun x => !x.held) }

/-- The frame being received on a link is at its end, complete or discarded: the exchanges still held open for it are
missed (R143). -/
def State.endFrame (s : State) (l : LinkId) : State :=
  (s.updLink l (fun k => { k with rx := none })).updLinkRecords l SiteRecord.closeHeld

/-- A frame discarded and counted (R136). -/
def State.badFrame (s : State) (l : LinkId) : State := (s.updLink l Link.countBad).endFrame l

/-- A frame whose address character comes at an instant begins: another frame being received is discarded and counted
(R136), in PARENT role too, whatever station it is addressed to (DESIGN CHOICE, log 26; unsafe). A frame goes by the instant of
its address character (log 44). -/
def State.beginFrame (s : State) (l : LinkId) (t : Instant) : State :=
  match (s.link l).rx with
  | some f => if f.instant = t then s else s.badFrame l
  | none => s

/-! ### Line state (R128 to R130) -/

/-- In PARENT role and ENROLLED the LE becomes UNENROLLED and reports parent lost (R148). -/
def Link.loseParent (l : Link) : Link :=
  if l.role = .parent ∧ l.parentState = .enrolled then
    { l with parentState := .unenrolled, parentSilence := 0, toRm := l.toRm ++ [.lost] }
  else l

/-- A link that is UP leaves it: what it receives is discarded uncounted, what is scheduled is not sent, and the parent is
lost (R128, R146 to R148). -/
def State.leaveUp (s : State) (l : LinkId) : State :=
  if (s.link l).state = .up then
    (s.endFrame l).updLink l (fun k => ({ k with dueEnrols := [], dueReplies := [] } : Link).loseParent)
  else s

/-- Into TRAINING with count 0 where line sense is present; else the link stays as it is, DOWN (R130). -/
def State.restartLink (s : State) (l : LinkId) : State :=
  if (s.link l).sense then
    (s.leaveUp l).updLink l (fun k => { k with state := .training, trainingCount := 0 })
  else s

/-- Into DOWN, with the down latch set; a count in TRAINING is discarded (R128, R129). -/
def Link.goDown (l : Link) : Link :=
  { l with state := .down, downLatch := true,
           trainingCount := if l.state = .training then 0 else l.trainingCount }

/-- LINE_SENSE_LOST (R128). -/
def execLineSenseLost (link : LinkId) (s : State) : Host.Outcome State Fault Refusal :=
  let t := s.leaveUp link
  .next (t.updLink link (fun k =>
    let q := { k with sense := false }
    if k.state = .down then q else q.goDown))

/-- LINE_SENSE_RETURN (R128). -/
def execLineSenseReturn (link : LinkId) (s : State) : Host.Outcome State Fault Refusal :=
  .next (s.updLink link (fun k =>
    let q := { k with sense := true }
    if k.state = .down then { q with state := .training, trainingCount := 0 } else q))

/-! ### The link's epoch boundary (R83, R100, R129, R139, R145, R148) -/

/-- The training count reached 2: UP, from the boundary that begins the epoch (R129). -/
def Link.finishTraining (boundaryAt : Instant) (l : Link) : Link :=
  if l.state = .training ∧ Config.trainingEnd ≤ l.trainingCount then { l with state := .up, hearsFrom := boundaryAt } else l

/-- A boundary taken in TRAINING (R129). -/
def Link.countTraining (boundaryAt : Instant) (l : Link) : Link :=
  (if l.state = .training then { l with trainingCount := min (l.trainingCount + 1) Config.trainingEnd }
    else l).finishTraining boundaryAt

/-- The parent silence reached 8 (R148). -/
def Link.finishSilence (l : Link) : Link := if Config.silenceEnd ≤ l.parentSilence then l.loseParent else l

/-- A boundary taken while ENROLLED (R148). -/
def Link.countSilence (l : Link) : Link :=
  if l.role = .parent ∧ l.parentState = .enrolled then
    { l with parentSilence := min (l.parentSilence + 1) Config.silenceEnd }.finishSilence
  else l

/-- The link's own part of a boundary: the pending split, the enrolment window, training and parent silence. -/
def Link.boundary (boundaryAt : Instant) (l : Link) : Link :=
  let q := l.applySplit
  ({ q with window := q.window - 1 }.countTraining boundaryAt).countSilence

/-- The compensation that a round trip gives (R145): half of it less T_turn, toward zero, clamped. -/
def autoCompensation (roundTrip tTurn : Nat) : Int := clampTo 100000 (Int.tdiv ((roundTrip : Int) - tTurn) 2)

/-- The record is adjusted at this boundary (R119, R145): not where a staged compensation is applied at it, equal to the current
one or not (log 53). -/
def SiteRecord.adjusts (boundary : Nat) (r : SiteRecord) : Bool :=
  r.lifecycle == .active && r.ackMode == some .confirmed && r.autoComp && r.onTimeSince && r.silence != .long
    && r.stagedCompAt != some boundary

/-- The auto-compensation decision (R145). -/
def SiteRecord.autoAdjust (boundary tTurn : Nat) (r : SiteRecord) : SiteRecord :=
  if r.adjusts boundary then
    match r.lastRoundTrip with
    | some t => { r with compensation := autoCompensation t tTurn }
    | none => r
  else r

/-- A record's part of its LE's boundary: auto-compensation, and service started for an admitted record (R83, R145). -/
def SiteRecord.linkBoundary (boundary tTurn : Nat) (r : SiteRecord) : SiteRecord :=
  let q := r.autoAdjust boundary tTurn
  { q with onTimeSince := false, serviceStarted := if r.lifecycle = .provisional then r.serviceStarted else true }

/-- LINK_EPOCH_BOUNDARY (R83, R100, R129, R139, R145, R148). -/
def execLinkEpochBoundary (link : LinkId) (s : State) : Host.Outcome State Fault Refusal :=
  .next ((s.updLink link (Link.boundary s.clock.boundaryAt)).updLinkRecords link
    (SiteRecord.linkBoundary s.clock.boundaries s.port.tTurn))

/-- A window counted down to 0 is closed (R139); a window of 0 epochs is the closed one, and an open one stays. -/
def Link.closeCounted (l : Link) : Link := if l.window = 0 then { l with window := 0 } else l

/-- ENROL_WINDOW_EXPIRY (R139): the boundary that counts the window down closes it in the same act, so that nothing is left to do
here (log 2). -/
def execEnrolWindowExpiry (link : LinkId) (s : State) : Host.Outcome State Fault Refusal :=
  .next (s.updLink link Link.closeCounted)

/-- TRAINING_COMPLETE (R129): with the training count at 2 the link becomes UP (log 2). -/
def execTrainingComplete (link : LinkId) (s : State) : Host.Outcome State Fault Refusal :=
  .next (s.updLink link (Link.finishTraining s.clock.boundaryAt))

/-- PARENT_SILENCE_EXPIRY (R148): with the parent silence at 8 the parent is lost (log 2). -/
def execParentSilenceExpiry (link : LinkId) (s : State) : Host.Outcome State Fault Refusal :=
  .next (s.updLink link Link.finishSilence)

/-! ### Frames sent in SERVE role (R97, R106, R109, R137, R138) -/

/-- The start of a slot of the epoch running (R97). -/
def slotStart (c : Clock) (slot : Nat) : Instant := c.boundaryAt + slot * Config.slotPs

/-- A frame begun on the transmit pair (R135). -/
def Link.send (at' : Instant) (f : LinkFrame) (l : Link) : Link :=
  { l with tx := some { instant := at', bytes := encodeLinkFrame f } }

/-- The chain depth that the PARENT entry declares, as it stands (R157). -/
def State.parentDepth (s : State) : Option Nat := (s.entry .parent).declared.parentDepth

/-- The position of a slot in the record's block (R137). -/
def exchangeIndex (r : SiteRecord) (slot : Nat) : Nat := slot - r.slotBase.getD 0

/-- The TIME frame of a record in a slot (R137). -/
def timeFrameOf (s : State) (p : Published) (r : SiteRecord) (slot : Nat) : TimeFrame :=
  { addr := r.drop, seconds := s.tb.seconds, slot := slot, index := exchangeIndex r slot,
    offset := slot * Config.slotNs + r.compensation, quality := qualityCode p r, depth := chainDepth p s.parentDepth,
    appliedStep := p.appliedStep, senderU := p.uNs, replyRequested := r.ackMode == some .confirmed }

/-- The exchange opened by a TIME frame (R141). -/
def exchangeOf (r : SiteRecord) (slot : Nat) (sent : Instant) : Exchange :=
  { slot := slot, index := exchangeIndex r slot, sendTime := sent,
    windowEnd := (slot + windowLength (r.window.getD 0)) % 256, held := false }

/-- The record after its frame is sent: counted, and an exchange opened for a CONFIRMED record (R137, R141). -/
def SiteRecord.sendTime (slot : Nat) (sent : Instant) (r : SiteRecord) : SiteRecord :=
  { r with sent := inc16 r.sent,
           exchanges := if r.ackMode = some .confirmed then r.exchanges ++ [exchangeOf r slot sent] else r.exchanges }

/-- A frame withheld: squelch set and the stored condition UNUSABLE (R138, R158). -/
def SiteRecord.squelched (r : SiteRecord) : Bool := r.squelch && r.condition == .unusable

/-- A scheduled exchange of a record served: withheld, missed, or sent (R137, R138). -/
def State.serveSlot (s : State) (l : LinkId) (slot : Nat) (p : Published) (r : SiteRecord) : State :=
  if r.squelched then s
  else if (s.link l).state = .up then
    (s.updLink l (Link.send (slotStart s.clock slot) (.time (timeFrameOf s p r slot)))).updRecord r.handle
      (SiteRecord.sendTime slot (slotStart s.clock slot))
  else if r.ackMode = some .confirmed then s.updRecord r.handle SiteRecord.countMiss
  else s

/-- The record served in a slot: HELD by it, ACTIVE, and its service started (R97). -/
def State.servedIn (s : State) (l : LinkId) (slot : Nat) : Option SiteRecord :=
  if (s.link l).role = .serve ∧ slot < (s.link l).split then
    match slotAt (s.link l).slots slot with
    | .held h => (s.record? h).filter (fun r => r.lifecycle == .active && r.serviceStarted)
    | .free => none
    | .reserved _ => none
  else none

/-- DELIVERY_SLOT_START (R97, R137, R138). -/
def execDeliverySlotStart (link : LinkId) (slot : Nat) (older : Bool) (s : State) : Host.Outcome State Fault Refusal :=
  let t := s.advance (slotStart s.clock slot)
  .next (match t.servedIn link slot with
    | some r => t.serveSlot link slot (t.copyHeld older) r
    | none => t)

/-- The CALL frame (R137, R157). -/
def callFrameOf (s : State) (p : Published) : LinkFrame :=
  .call 0 s.port.hubIdentity (chainDepth p s.parentDepth) s.tb.seconds

/-- CALL_SLOT (R106): at slot S of a serving, UP link with an open window. -/
def execCallSlot (link : LinkId) (older : Bool) (s : State) : Host.Outcome State Fault Refusal :=
  let at' := slotStart s.clock (s.link link).split
  let t := s.advance at'
  .next (if (t.link link).role = .serve ∧ (t.link link).state = .up ∧ 0 < (t.link link).window then
      t.updLink link (fun l => { l.send at' (callFrameOf t (t.copyHeld older)) with
        calling := some { boundary := t.clock.boundaries, instant := at' } })
    else t)

/-- FAREWELL_SLOT (R109): the record at the head of the queue is sent its FAREWELL, and removed in the same act. -/
def execFarewellSlot (link : LinkId) (slot : Nat) (s : State) : Host.Outcome State Fault Refusal :=
  let at' := slotStart s.clock slot
  let t := s.advance at'
  let l := t.link link
  .next (if l.split < slot ∧ slot < Config.slotCount ∧ l.state = .up then
      match l.retireQueue.head?.bind t.record? with
      | some r => (t.updLink link (Link.send at' (.farewell r.drop r.siteId t.port.hubIdentity))).removeRecord r
      | none => t
    else t)

/-! ### Replies and exchanges (R142, R143) -/

/-- The exchange is the one of a slot and index (R142). -/
def Exchange.isOf (slot index : Nat) (x : Exchange) : Bool := x.slot == slot && x.index == index

/-- The open exchanges without the one closed. -/
def closeExchange (slot index : Nat) (xs : List Exchange) : List Exchange := xs.filter (fun x => !x.isOf slot index)

/-- A reply that matches an exchange: on time where it was taken within the exchange's slot, else late (R142, log 44); the round
trip in whole ns (log 17). -/
def SiteRecord.classify (x : Exchange) (t : Instant) (r : SiteRecord) : SiteRecord :=
  let closed := { r with exchanges := closeExchange x.slot x.index r.exchanges }
  let counted :=
    if x.sendTime ≤ t ∧ t < x.sendTime + Config.slotPs then
      { closed with onTime := inc16 closed.onTime, lastRoundTrip := some (((t - x.sendTime) / 1000).toNat),
                    onTimeSince := true }
    else { closed with late := inc16 closed.late }
  counted.withMissRun 0

/-- A reply heard from an ACTIVE record (R142): it matches an exchange, or is a stray that still clears the miss run of a
CONFIRMED record. -/
def State.hearReply (s : State) (l : LinkId) (r : SiteRecord) (t : Instant) (slot index : Nat) : State :=
  match r.exchanges.find? (Exchange.isOf slot index) with
  | some x => s.updRecord r.handle (SiteRecord.classify x t)
  | none =>
    let u := s.updLink l Link.countStray
    if r.ackMode = some .confirmed then u.updRecord r.handle (fun q => q.withMissRun 0) else u

/-- A REPLY taken in SERVE role (R142). -/
def State.serveReply (s : State) (l : LinkId) (t : Instant) (addr slot index : Nat) : State :=
  if addr = 0 ∨ 15 < index then s.updLink l Link.countBad
  else match s.recordAtDrop? l addr with
    | some r => if r.lifecycle = .active then s.hearReply l r t slot index else s.updLink l Link.countStray
    | none => s.updLink l Link.countStray

/-- The instant lies in the eight slots of a calling epoch, and before the boundary that ended that epoch (R107). -/
def inSpan (c : Clock) (call : Option Calling) (t : Instant) : Bool :=
  match call with
  | some k =>
    decide (k.instant ≤ t ∧ t < k.instant + Config.enrolSpanPs) && (k.boundary == c.boundaries || decide (t < c.boundaryAt))
  | none => false

/-- An ENROL taken in SERVE role (R107, R140); an address above 15 names no drop and is malformed (log 34). -/
def State.serveEnrol (s : State) (l : LinkId) (t : Instant) (addr siteId : Nat) (cap : Byte) : State :=
  if inSpan s.clock (s.link l).calling t then
    match Capability.ofByte cap with
    | some c =>
      if siteId = 0 ∨ inRange 1 Config.maxDrop addr = false then s.updLink l Link.countBad
      else s.updLink l (fun k => { k with toStu := k.toStu ++ [{ drop := addr, siteId := siteId, capability := c }] })
    | none => s.updLink l Link.countBad
  else s.updLink l Link.countBad

/-! ### Parent role (R146 to R148) -/

/-- T_turn as an amount of ps. -/
def turnPs (s : State) : Int := s.port.tTurn * 1000

/-- A CALL in PARENT role schedules an ENROL while UNENROLLED (R146). -/
def State.parentCall (s : State) (l : LinkId) (t : Instant) : State :=
  if (s.link l).parentState = .unenrolled then
    s.updLink l (fun k => { k with dueEnrols := k.dueEnrols ++ [t + turnPs s] })
  else s

/-- Steps 1 to 3 of R147: ENROLLED and reported, the silence 0, the frame handed over after the report. -/
def Link.takeTime (t : Instant) (f : TimeFrame) (l : Link) : Link :=
  { l with parentState := .enrolled, parentSilence := 0,
           toRm := l.toRm ++ (if l.parentState = .unenrolled then [.enrolled] else []) ++ [.frame t f] }

/-- A TIME frame to own drop (R147). -/
def State.parentTime (s : State) (l : LinkId) (t : Instant) (f : TimeFrame) : State :=
  let u := s.updLink l (Link.takeTime t f)
  if f.replyRequested then
    u.updLink l (fun k => { k with
      dueReplies := k.dueReplies ++ [{ due := t + turnPs s, slot := f.slot, index := f.index }] })
  else u

/-- A FAREWELL to own drop that carries the hub identity loses the parent (R148). -/
def State.parentFarewell (s : State) (l : LinkId) (siteId : Nat) : State :=
  if siteId = s.port.hubIdentity then s.updLink l Link.loseParent else s

/-- A frame whose check byte holds, in PARENT role: another station's is not counted, a malformed one is (R136, R191; the order
of the cases is log 26). An address above 15, no station's drop, is taken as another station's, a CALL's too (DESIGN CHOICE,
log 34; unsafe). -/
def State.parentFrame (s : State) (l : LinkId) (t : Instant) (f : LinkFrame) : State :=
  let own := (s.link l).ownDrop
  match f with
  | .time g =>
    if some g.addr ≠ own ∧ g.addr ≠ 0 then s
    else if g.addr = 0 ∨ 239 < g.slot ∨ 15 < g.index then s.updLink l Link.countBad
    else s.parentTime l t g
  | .call addr _ _ _ =>
    if addr = 0 then s.parentCall l t
    else if some addr = own then s.updLink l Link.countBad else s
  | .farewell addr siteId _ =>
    if addr = 0 then s.updLink l Link.countBad
    else if some addr = own then s.parentFarewell l siteId else s
  | .reply _ _ _ => s.updLink l Link.countBad
  | .enrol _ _ _ => s.updLink l Link.countBad

/-- A frame of a type taken in SERVE role (R136). -/
def State.serveFrame (s : State) (l : LinkId) (t : Instant) (f : LinkFrame) : State :=
  match f with
  | .reply addr slot index => s.serveReply l t addr slot index
  | .enrol addr siteId cap => s.serveEnrol l t addr siteId cap
  | .time _ => s.updLink l Link.countBad
  | .call _ _ _ _ => s.updLink l Link.countBad
  | .farewell _ _ _ => s.updLink l Link.countBad

/-! ### Frames taken (R135, R136) -/

/-- The instant at which a frame's last character has been taken, its characters back to back (R135, R191). -/
def frameEnd (t : Instant) (f : LinkFrame) : Instant := t + (encodeLinkFrame f).length * Config.charPs

/-- The LE takes no frame while the link is not UP, nor in OFF role (R136). -/
def Link.receives (l : Link) : Bool := l.state == .up && l.role != .off

/-- The LE takes the frame whose address character comes at an instant: it receives, and the link was UP by then (R136). -/
def Link.hears (t : Instant) (l : Link) : Bool := l.receives && decide (l.hearsFrom ≤ t)

/-- A complete frame of known type whose check holds, by the role (R136); what was held open for it is then closed
(R143). -/
def State.takeFrame (s : State) (l : LinkId) (t : Instant) (f : LinkFrame) : State :=
  if (s.link l).hears t then
    (if (s.link l).role = .parent then s.parentFrame l t f else s.serveFrame l t f).endFrame l
  else s

/-- The frame of a row taken whole: local time has come to its end (R135), and its address character, where the LE took it, has
cut off any other frame being received (R136, R143). -/
def State.frameTaken (s : State) (l : LinkId) (t : Instant) (f : LinkFrame) : State :=
  let u := s.advance (frameEnd t f)
  if (u.link l).hears t then (u.beginFrame l t).takeFrame l t f else u

/-- REPLY_FRAME (R142). -/
def execReplyFrame (link : LinkId) (instant : Instant) (addr slot index : Nat) (s : State) :
    Host.Outcome State Fault Refusal :=
  .next (s.frameTaken link instant (.reply addr slot index))

/-- ENROL_FRAME (R140). -/
def execEnrolFrame (link : LinkId) (instant : Instant) (addr siteId : Nat) (capability : Byte) (s : State) :
    Host.Outcome State Fault Refusal :=
  .next (s.frameTaken link instant (.enrol addr siteId capability))

/-- PARENT_CALL_FRAME (R146). -/
def execParentCallFrame (link : LinkId) (instant : Instant) (addr hubId depth : Nat) (seconds : Seconds) (s : State) :
    Host.Outcome State Fault Refusal :=
  .next (s.frameTaken link instant (.call addr hubId depth seconds))

/-- PARENT_TIME_FRAME (R147). -/
def execParentTimeFrame (link : LinkId) (instant : Instant) (frame : TimeFrame) (s : State) :
    Host.Outcome State Fault Refusal :=
  .next (s.frameTaken link instant (.time frame))

/-- PARENT_FAREWELL_FRAME (R148). -/
def execParentFarewellFrame (link : LinkId) (instant : Instant) (addr siteId hubId : Nat) (s : State) :
    Host.Outcome State Fault Refusal :=
  .next (s.frameTaken link instant (.farewell addr siteId hubId))

/-- One character taken (R135, R136): a mark begins a frame and discards another in progress, and one that came before the link
was UP is not taken; an unknown type is discarded at its second byte; a frame is judged when it is complete; a character
outside a frame is nothing. In PARENT role a frame whose type is unknown or whose check byte fails is counted bad before its
address is looked at, so also one to another station's drop, which R136 leaves between two of its cases: the model's choice
(log 26). -/
def State.takeChar (s : State) (l : LinkId) (t : Instant) (c : LinkChar) : State :=
  match c.mark, (s.link l).rx with
  | true, _ =>
    if (s.link l).hears t then
      (s.beginFrame l t).updLink l (fun k => { k with rx := some { instant := t, bytes := [c.byte] } })
    else s
  | false, none => s
  | false, some f =>
    let bs := f.bytes ++ [c.byte]
    match linkFrameLength (byteAt bs 1) with
    | none => s.badFrame l
    | some n =>
      if bs.length < n then s.updLink l (fun k => { k with rx := some { instant := f.instant, bytes := bs } })
      else match decodeLinkFrame bs with
        | some g => (s.advance (t + Config.charPs)).takeFrame l f.instant g
        | none => s.badFrame l

/-- Characters taken back to back (R191), local time at the instant of each. -/
def State.takeChars (s : State) (l : LinkId) (t : Instant) : List LinkChar → State
  | [] => s
  | c :: cs => ((s.advance t).takeChar l t c).takeChars l (t + Config.charPs) cs

/-- LINK_FRAME_DISCARDED (R136): the characters on the line, judged as the LE receives them (log 25). -/
def execLinkFrameDiscarded (link : LinkId) (instant : Instant) (chars : List LinkChar) (s : State) :
    Host.Outcome State Fault Refusal :=
  let t := s.advance instant
  .next (if (t.link link).receives then t.takeChars link instant chars else t)

/-- FRAME_GAP_TIMEOUT (R191): the frame in progress is discarded and counted. In PARENT role it is counted whatever station it is
addressed to, which R191 and R136 leave open between them: the model's choice (log 26). -/
def execFrameGapTimeout (link : LinkId) (s : State) : Host.Outcome State Fault Refusal :=
  .next (if (s.link link).receives then s.badFrame link else s)

/-! ### The end of a reply window (R143) -/

/-- The frame being received comes from the drop (R143). -/
def RxFrame.fromDrop (drop : Nat) (f : RxFrame) : Bool := byteAt f.bytes 0 == drop

/-- The exchange held open for the frame being received (R143). -/
def SiteRecord.holdExchange (slot index : Nat) (r : SiteRecord) : SiteRecord :=
  { r with exchanges := r.exchanges.map (fun x => if x.isOf slot index then { x with held := true } else x) }

/-- The exchange closed as missed (R143). -/
def SiteRecord.missExchange (slot index : Nat) (r : SiteRecord) : SiteRecord :=
  { r with exchanges := closeExchange slot index r.exchanges }.countMiss

/-- The window of an open exchange ends (R143). -/
def State.endWindow (s : State) (l : LinkId) (slot index : Nat) (r : SiteRecord) : State :=
  match (s.link l).rx with
  | some f =>
    if RxFrame.fromDrop r.drop f then s.updRecord r.handle (SiteRecord.holdExchange slot index)
    else s.updRecord r.handle (SiteRecord.missExchange slot index)
  | none => s.updRecord r.handle (SiteRecord.missExchange slot index)

/-- The frame that the LE is receiving, as the command tells it, where the LE took its address character (R136, R143): local
time has come to that character (log 3), and another frame that was being received has been cut off by it. -/
def State.nowReceiving (s : State) (l : LinkId) (receiving : Option RxFrame) : State :=
  match receiving with
  | some f =>
    let t := s.advance f.instant
    if (t.link l).hears f.instant then (t.beginFrame l f.instant).updLink l (fun k => { k with rx := some f }) else t
  | none => s

/-- EXCHANGE_WINDOW_END (R143): an exchange no longer open gives nothing. -/
def execExchangeWindowEnd (link : LinkId) (handle slot index : Nat) (receiving : Option RxFrame) (s : State) :
    Host.Outcome State Fault Refusal :=
  let t := s.nowReceiving link receiving
  .next (match t.record? handle with
    | some r =>
      if r.link = link ∧ r.exchanges.any (Exchange.isOf slot index) = true then t.endWindow link slot index r else t
    | none => t)

/-! ### Scheduled sends in PARENT role (R146, R147) -/

/-- PARENT_ENROL_SEND (R146): the next scheduled ENROL is sent at its due time. -/
def execParentEnrolSend (link : LinkId) (s : State) : Host.Outcome State Fault Refusal :=
  .next (match (s.link link).dueEnrols with
    | [] => s
    | d :: rest =>
      let t := s.advance d
      t.updLink link (fun l => { l.send d (.enrol (l.ownDrop.getD 0) t.port.hubIdentity (byteOf Config.ownCapability)) with
        dueEnrols := rest }))

/-- PARENT_REPLY_SEND (R147): the next scheduled REPLY is sent at its due time. -/
def execParentReplySend (link : LinkId) (s : State) : Host.Outcome State Fault Refusal :=
  .next (match (s.link link).dueReplies with
    | [] => s
    | d :: rest =>
      (s.advance d.due).updLink link (fun l => { l.send d.due (.reply (l.ownDrop.getD 0) d.slot d.index) with
        dueReplies := rest }))

/-! ### Requests (R99, R111, R130 to R134, R139) -/

/-- A request that names a link: NO_RECORD outside 0 to 5 (R185). -/
def onLink (link : Nat) (act : LinkId → State → State × Result × List Item) (t : State) : State × Result × List Item :=
  match LinkId.ofIndex link with
  | some l => act l t
  | none => (t, .noRecord, [])

/-- ENROL_OPEN (R139). -/
def execEnrolOpen (tag link epochs : Nat) (s : State) : Host.Outcome State Fault Refusal :=
  .next (request tag (onLink link (fun l t =>
    if inRange 1 255 epochs = false then (t, .range, [])
    else if (t.link l).role ≠ .serve then (t, .role, [])
    else (t.updLink l (fun k => { k with window := epochs }), .ok, []))) s)

/-- ENROL_CLOSE (R139). -/
def execEnrolClose (tag link : Nat) (s : State) : Host.Outcome State Fault Refusal :=
  .next (request tag (onLink link (fun l t => (t.updLink l (fun k => { k with window := 0 }), .ok, []))) s)

/-- A link holds a record when its drop map names any handle (R131). -/
def State.holdsRecord (s : State) (l : LinkId) : Bool := (s.stu.dropMaps.get l).any Option.isSome

/-- Another link is in PARENT role (R131). -/
def State.otherParent (s : State) (l : LinkId) : Bool := LinkId.all.any (fun k => k != l && (s.link k).role == .parent)

/-- A present role is one of the three, and a present split one of the eight (R131). -/
def linkSetInRange (role split : Option Nat) : Bool :=
  optCodeOk LinkRole.ofCode role
    && (match split with
      | none => true
      | some v => Config.splits.contains v)

/-- The role asked for may be taken (R131). -/
def State.roleAllowed (s : State) (l : LinkId) (role : Option LinkRole) : Bool :=
  match role with
  | some .parent => !(s.holdsRecord l || s.otherParent l)
  | some .off => !s.holdsRecord l
  | some .serve => true
  | none => true

/-- The split asked for leaves no HELD or RESERVED slot in the service region (R99). -/
def State.splitAllowed (s : State) (l : LinkId) (split : Option Nat) : Bool :=
  match split with
  | some v => !occupiedFrom v (s.link l).slots
  | none => true

/-- The link leaves its role (R132, steps 1 and 2). -/
def Link.leaveRole (l : Link) : Link :=
  match l.role with
  | .serve => { l with window := 0 }
  | .parent => { l with parentState := .unenrolled, toRm := l.toRm ++ [.lost], ownDrop := none, parentSilence := 0 }
  | .off => l

/-- The link enters its new role (R132, step 3). -/
def Link.enterRole (role : LinkRole) (parentDrop : Nat) (l : Link) : Link :=
  match role with
  | .parent => { l with role := .parent, parentState := .unenrolled, ownDrop := some parentDrop, parentSilence := 0 }
  | .serve => { l with role := .serve }
  | .off => { l with role := .off }

/-- An accepted role (R132): the role it already has changes nothing. -/
def State.setRole (s : State) (l : LinkId) (role : Option LinkRole) : State :=
  match role with
  | some r =>
    if r = (s.link l).role then s
    else (s.updLink l (fun k => k.leaveRole.enterRole r s.port.parentDrop)).restartLink l
  | none => s

/-- An accepted split (R99). -/
def State.setSplit (s : State) (l : LinkId) (split : Option Nat) : State :=
  match split with
  | some v => s.updLink l (fun k => k.requestSplit v)
  | none => s

/-- ACCEPTED when a pending split results (R131). -/
def linkSetResult (l : Link) (split : Option Nat) : Result :=
  match split with
  | some v => if v = l.split then .ok else .accepted
  | none => .ok

/-- The tests of R131 after the link, and the act. -/
def setLink (role split : Option Nat) (l : LinkId) (t : State) : State × Result × List Item :=
  if linkSetInRange role split = false then (t, .range, [])
  else if t.roleAllowed l (role.bind LinkRole.ofCode) = false then (t, .role, [])
  else if t.splitAllowed l split = false then (t, .conflict, [])
  else ((t.setRole l (role.bind LinkRole.ofCode)).setSplit l split, linkSetResult (t.link l) split, [])

/-- LINK_SET (R99, R131, R132). -/
def execLinkSet (tag link : Nat) (role split : Option Nat) (s : State) : Host.Outcome State Fault Refusal :=
  .next (request tag (onLink link (setLink role split)) s)

/-- LINK_RESTART (R130). -/
def execLinkRestart (tag link : Nat) (s : State) : Host.Outcome State Fault Refusal :=
  .next (request tag (onLink link (fun l t => (t.restartLink l, .ok, []))) s)

/-- The link record and the plan summary (R111, R134). -/
def Link.items (l : Link) : List Item :=
  [natItem 1 l.role.code, natItem 1 l.state.code, natItem 1 l.trainingCount, .flag l.downLatch, natItem 1 l.window,
    natItem 2 l.enrolConflicts, natItem 2 l.enrolRefused, natItem 2 l.badFrames, natItem 2 l.strayReplies,
    natItem 1 l.parentState.code, optNat 1 l.ownDrop, natItem 1 l.parentSilence, natItem 1 l.split,
    optNat 1 l.pendingSplit, natItem 1 (l.countSlots (fun e => e == .free)), natItem 1 (l.countSlots SlotEntry.isHeld),
    natItem 1 (l.countSlots SlotEntry.isReserved), natItem 1 l.retireQueue.length] ++ l.retireQueue.map (natItem 1)

/-- What a taking lookup changes (R134). -/
def Link.taken (l : Link) : Link :=
  { l with enrolConflicts := 0, enrolRefused := 0, badFrames := 0, strayReplies := 0,
           downLatch := if l.state = .up then false else l.downLatch }

/-- LINK_LOOKUP (R134). -/
def execLinkLookup (tag link : Nat) (take : Bool) (s : State) : Host.Outcome State Fault Refusal :=
  .next (request tag (onLink link (fun l t =>
    (if take then t.updLink l Link.taken else t, .ok, (t.link l).items))) s)

end Sys2Proof.Machine
end

