-- ==== Sys2Proof/Machine/Alarms.lean ====
section
/-! DEFINITION. The Alarm Table Unit (chapter 9): the epoch scan, marks, TABLE_FULL, acknowledgement, lookups, and the notify line. -/

namespace Sys2Proof.Machine

open Sys2Proof

/-! ### Conditions that owners hold (R162) -/

/-- A condition that the scan finds present: its kind, its severity now, and the source whose ACTIVE entry is its root, if
there is one (R162, R168). -/
structure Found where
  kind : AlarmKind
  severity : Severity
  rootSource : Option AlarmSource
  deriving DecidableEq, Repr

/-- The timebase's condition, from the copy (R162). -/
def timebaseFound (p : Published) : List Found :=
  match p.state with
  | .freerun => [{ kind := .tbFreerun, severity := .critical, rootSource := none }]
  | .holdover => [{ kind := .tbHoldover, severity := .major, rootSource := none }]
  | .freqHold => [{ kind := .tbFreqHold, severity := .minor, rootSource := none }]
  | .acquire => []
  | .locked => []

/-- Some link's role is PARENT (R162). -/
def State.someParent (s : State) : Bool := LinkId.all.any (fun l => (s.link l).role == .parent)

/-- A reference's condition: only of an enabled entry; PARENT's absence only while some link's role is PARENT (R162). -/
def refFound (s : State) (r : RefId) : List Found :=
  if (s.entry r).settings.enabled then
    match (s.entry r).state with
    | .absent =>
      if r != .parent || s.someParent then [{ kind := .refAbsent, severity := .minor, rootSource := none }] else []
    | .disqualified => [{ kind := .refDisqualified, severity := .minor, rootSource := none }]
    | .qualifying => []
    | .qualified => []
  else []

/-- A link's condition (R162). -/
def linkFound (l : Link) : List Found :=
  if l.role != .off && l.state == .down then [{ kind := .linkDown, severity := .major, rootSource := none }] else []

/-- A record's service condition as an alarm (R162, R168). -/
def serviceFound (r : SiteRecord) : List Found :=
  match r.condition with
  | .degraded => [{ kind := .siteService, severity := .minor, rootSource := some .timebase }]
  | .unusable => [{ kind := .siteService, severity := .major, rootSource := some .timebase }]
  | .inService => []
  | .none => []

/-- A record's silence as an alarm (R162, R168). -/
def silenceFound (r : SiteRecord) : List Found :=
  match r.silence with
  | .short => [{ kind := .siteSilence, severity := .warning, rootSource := some (.link r.link) }]
  | .long => [{ kind := .siteSilence, severity := .minor, rootSource := some (.link r.link) }]
  | .none => []

/-- An ACTIVE record's conditions (R162), SITE_SERVICE before SITE_SILENCE, an order that R163 leaves open (log 46). -/
def siteFound (r : SiteRecord) : List Found :=
  if r.lifecycle = .active then serviceFound r ++ silenceFound r else []

/-- The sources in the order of the walk, each with what is present (R163). -/
def sourcesFound (s : State) (p : Published) : List (AlarmSource × List Found) :=
  (.timebase, timebaseFound p)
    :: RefId.all.map (fun r => (.ref r, refFound s r))
    ++ LinkId.all.map (fun l => (.link l, linkFound (s.link l)))
    ++ s.stu.records.map (fun r => (.site r.handle r.siteId, siteFound r))

/-! ### One source of the walk (R164 to R169) -/

/-- The scan under way: the table, and the conditions so far without an index (R166). -/
structure Scan where
  table : AlarmTable
  unrecorded : Nat
  deriving DecidableEq, Repr

/-- The entry is of the source, ACTIVE, and its condition is no longer present (R165). -/
def AlarmEntry.isGone (src : AlarmSource) (found : List Found) (e : AlarmEntry) : Bool :=
  e.source == src && e.condition == .active && !(found.any (fun f => f.kind == e.kind))

/-- An entry whose condition has gone becomes CLEARED (R165). -/
def AlarmEntry.clear (seconds : Seconds) (e : AlarmEntry) : AlarmEntry := { e with condition := .cleared, lastChange := seconds }

/-- The absent kinds of a source: an acknowledged entry is retired, another becomes CLEARED, and the marks that name
either come off (R165, R169). -/
def AlarmTable.clearAbsent (seconds : Seconds) (src : AlarmSource) (found : List Found) (t : AlarmTable) : AlarmTable :=
  let gone := (t.entries.filter (AlarmEntry.isGone src found)).map AlarmEntry.index
  let left := t.retireWhere (fun e => e.isGone src found && e.acknowledged)
  { left with entries := left.entries.map (fun e =>
      (if e.isGone src found then e.clear seconds else e).unmark gone) }

/-- The ACTIVE entry of a source, as a root: its index (R168). -/
def AlarmTable.rootOf (src : Option AlarmSource) (t : AlarmTable) : Option Nat :=
  match src with
  | some x => (t.entries.find? (fun e => e.source == x && e.condition == .active)).map AlarmEntry.index
  | none => none

/-- The lowest general index that is free, 0 to 46 (R166). -/
def AlarmTable.freeIndex (t : AlarmTable) : Option Nat :=
  (List.range Config.generalAlarms).find? (fun k => !(t.entries.any (fun e => e.index == k)))

/-- A new entry (R160). -/
def AlarmEntry.new (index serial : Nat) (src : AlarmSource) (kind : AlarmKind) (severity : Severity) (root : Option Nat)
    (seconds : Seconds) (unrecorded : Nat) : AlarmEntry :=
  { index := index, serial := serial, source := src, kind := kind, severity := severity, condition := .active,
    acknowledged := false, root := root, raiseCount := 1, firstRaised := seconds, lastChange := seconds,
    unrecorded := unrecorded }

/-- An entry joins the tail of the age order with the next serial (R161). -/
def AlarmTable.add (index : Nat) (src : AlarmSource) (kind : AlarmKind) (severity : Severity) (root : Option Nat)
    (seconds : Seconds) (unrecorded : Nat) (t : AlarmTable) : AlarmTable :=
  { t with entries := t.entries ++ [AlarmEntry.new index t.nextSerial src kind severity root seconds unrecorded],
           nextSerial := t.nextSerial + 1 }

/-- A CLEARED entry whose condition has returned (R164). -/
def AlarmEntry.reRaise (severity : Severity) (root : Option Nat) (seconds : Seconds) (e : AlarmEntry) : AlarmEntry :=
  { e with condition := .active, raiseCount := min (e.raiseCount + 1) 255, severity := severity, root := root,
           lastChange := seconds }

/-- An ACTIVE entry whose condition is still present: escalation, de-escalation or no change (R164). -/
def AlarmEntry.follow (severity : Severity) (seconds : Seconds) (e : AlarmEntry) : AlarmEntry :=
  if severity.code < e.severity.code then { e with severity := severity, acknowledged := false, lastChange := seconds }
  else if e.severity.code < severity.code then { e with severity := severity, lastChange := seconds }
  else e

/-- An entry that a present condition finds (R164). -/
def AlarmEntry.meet (f : Found) (root : Option Nat) (seconds : Seconds) (e : AlarmEntry) : AlarmEntry :=
  match e.condition with
  | .cleared => e.reRaise f.severity root seconds
  | .active => e.follow f.severity seconds

/-- A present condition of a source (R164, R166). -/
def Scan.present (seconds : Seconds) (src : AlarmSource) (c : Scan) (f : Found) : Scan :=
  let t := c.table
  let root := t.rootOf f.rootSource
  if t.entries.any (fun e => e.source == src && e.kind == f.kind) then
    { c with table := { t with entries := t.entries.map (fun e =>
        if e.source == src && e.kind == f.kind then e.meet f root seconds else e) } }
  else match t.freeIndex with
    | some k => { c with table := t.add k src f.kind f.severity root seconds 0 }
    | none => { c with unrecorded := c.unrecorded + 1 }

/-- One source: its absent kinds first, then its present ones (R163). -/
def Scan.source (seconds : Seconds) (c : Scan) (x : AlarmSource × List Found) : Scan :=
  x.2.foldl (Scan.present seconds x.1) { c with table := c.table.clearAbsent seconds x.1 x.2 }

/-! ### The end of the scan (R167, R177) -/

/-- The TABLE_FULL entry with conditions unrecorded (R167). -/
def AlarmEntry.fillAgain (n : Nat) (seconds : Seconds) (e : AlarmEntry) : AlarmEntry :=
  match e.condition with
  | .cleared => { e with condition := .active, raiseCount := min (e.raiseCount + 1) 255, lastChange := seconds,
                         unrecorded := n }
  | .active => { e with unrecorded := n }

/-- The TABLE_FULL entry is settled from the number of unrecorded conditions (R167). -/
def AlarmTable.settleFull (n : Nat) (seconds : Seconds) (t : AlarmTable) : AlarmTable :=
  let isFull := fun e : AlarmEntry => e.kind == .tableFull
  let u :=
    if 0 < n then
      if t.entries.any isFull then
        { t with entries := t.entries.map (fun e => if isFull e then e.fillAgain n seconds else e) }
      else t.add Config.tableFullIndex .table .tableFull .major none seconds n
    else
      let v := t.retireWhere (fun e => isFull e && e.condition == .active && e.acknowledged)
      { v with entries := v.entries.map (fun e => if isFull e && e.condition == .active then e.clear seconds else e) }
  { u with lastUnrecorded := n }

/-- The serials of the entries that qualify (R176, R177). -/
def AlarmTable.qualifying (t : AlarmTable) : List Nat := (t.entries.filter (AlarmEntry.qualifies t.threshold)).map AlarmEntry.serial

/-- The notify line after a scan: an armed ATU asserts it when the scan made an entry qualify that did not before, and
disarms; with nothing qualifying it is deasserted (R176, R177). -/
def AlarmTable.judgeNotify (before : List Nat) (t : AlarmTable) : AlarmTable :=
  if t.armed && t.qualifying.any (fun k => !before.contains k) then { t with asserted := true, armed := false } else t.settle

/-- One scan of the table against a copy (R163). -/
def scanTable (s : State) (p : Published) : AlarmTable :=
  let c := (sourcesFound s p).foldl (Scan.source p.seconds) { table := s.atu, unrecorded := 0 }
  (c.table.settleFull (min c.unrecorded 255) p.seconds).judgeNotify s.atu.qualifying

/-- ALARM_SCAN (R163). -/
def execAlarmScan (older : Bool) (s : State) : Host.Outcome State Fault Refusal :=
  .next { s with atu := scanTable s (s.copyHeld older) }

/-! ### Responses (R171) -/

/-- Every field of an entry (R160, R174). -/
def AlarmEntry.items (e : AlarmEntry) : List Item :=
  [natItem 1 e.index, natItem 6 e.serial, natItem 1 e.source.typeCode, natItem 1 e.source.number, natItem 4 e.source.siteId,
    natItem 1 e.kind.code, natItem 1 e.severity.code, natItem 1 e.condition.code, .flag e.acknowledged, optNat 1 e.root,
    natItem 1 e.raiseCount, natItem 6 e.firstRaised.toNat, natItem 6 e.lastChange.toNat,
    optNat 1 (if e.kind = .tableFull then some e.unrecorded else none)]

/-- The table summary (R171); the notify line as a flag, asserted for set, is the model's choice (log 20). -/
def AlarmTable.summary (t : AlarmTable) : List Item :=
  [natItem 1 t.entries.length, natItem 1 t.qualifying.length, .flag t.asserted, .flag t.armed, natItem 1 t.threshold.code,
    natItem 1 t.lastUnrecorded, natItem 6 t.nextSerial]

/-- A response of the ATU: what the request adds, and the summary as it stands after the request (R171). R171 to R173 do not place
the summary beside ALARM_ACK's entry and flag or ALARM_ACK_SEVERITY's counts; that it comes last is the model's choice (log 20). -/
def atuAnswer (t : State) (r : Result) (extra : List Item) : State × Result × List Item := (t, r, extra ++ t.atu.summary)

/-! ### Requests (R172 to R175, R178) -/

/-- An entry acknowledged: an ACTIVE one not yet acknowledged is stamped (R172). -/
def AlarmEntry.ack (seconds : Seconds) (e : AlarmEntry) : AlarmEntry :=
  if e.condition == .active && !e.acknowledged then { e with acknowledged := true, lastChange := seconds } else e

/-- The effect of an acknowledgement on the entries chosen: CLEARED ones are retired in the same act (R172, R173). -/
def AlarmTable.ackWhere (p : AlarmEntry → Bool) (seconds : Seconds) (t : AlarmTable) : AlarmTable :=
  let u := t.retireWhere (fun e => p e && e.condition == .cleared)
  { u with entries := u.entries.map (fun e => if p e then e.ack seconds else e) }.settle

/-- ALARM_ACK (R172). The stamp is from the copy published last (DEDUCED, log 12; unsafe). -/
def execAlarmAck (tag index : Nat) (s : State) : Host.Outcome State Fault Refusal :=
  .next (request tag (fun t =>
    match t.atu.entries.find? (fun e => e.index == index) with
    | none => atuAnswer t .noRecord []
    | some e =>
      atuAnswer { t with atu := t.atu.ackWhere (fun x => x.index == index) t.published.seconds } .ok
        (e.items ++ [.flag (e.condition == .cleared)])) s)

/-- The severity is in the set: bit k stands for the severity numbered k (R191). -/
def inSet (set : BitVec 8) (e : AlarmEntry) : Bool := set.getLsbD e.severity.code

/-- ALARM_ACK_SEVERITY (R173); the bits above the four severities stand for nothing (log 23), and the stamp is from the copy
published last (DEDUCED, log 12; unsafe). -/
def execAlarmAckSeverity (tag : Nat) (set : BitVec 8) (s : State) : Host.Outcome State Fault Refusal :=
  .next (request tag (fun t =>
    if set &&& 0x0F#8 = 0 then atuAnswer t .range []
    else
      atuAnswer { t with atu := t.atu.ackWhere (inSet set) t.published.seconds } .ok
        [natItem 1 (t.atu.entries.filter (fun e => inSet set e && !e.acknowledged)).length,
          natItem 1 (t.atu.entries.filter (fun e => inSet set e && e.condition == .cleared)).length]) s)

/-- The answer of a lookup that finds an entry or none (R174, R175). -/
def entryAnswer (t : State) (e : Option AlarmEntry) : State × Result × List Item :=
  match e with
  | some x => atuAnswer t .ok x.items
  | none => atuAnswer t .noRecord []

/-- The entry is of a source and kind given by their numbers (R174). -/
def AlarmEntry.isNumbered (sourceType number kind : Nat) (e : AlarmEntry) : Bool :=
  e.source.typeCode == sourceType && e.source.number == number && e.kind.code == kind

/-- ALARM_LOOKUP (R174): a source type, source number or kind beyond those listed matches no entry, and is answered NO_RECORD
(log 47). -/
def execAlarmLookup (tag : Nat) (key : AlarmKey) (s : State) : Host.Outcome State Fault Refusal :=
  .next (request tag (fun t =>
    match key with
    | .byIndex k => entryAnswer t (t.atu.entries.find? (fun e => e.index == k))
    | .bySource a b c => entryAnswer t (t.atu.entries.find? (AlarmEntry.isNumbered a b c))
    | .other _ => atuAnswer t .range []) s)

/-- ALARM_NEXT (R175): the entry with the lowest serial above the cursor. -/
def execAlarmNext (tag cursor : Nat) (s : State) : Host.Outcome State Fault Refusal :=
  .next (request tag (fun t => entryAnswer t (t.atu.entries.find? (fun e => decide (cursor < e.serial)))) s)

/-- The armed flag is set, and an entry that qualifies asserts the line at once (R178). -/
def AlarmTable.arm (t : AlarmTable) : AlarmTable :=
  if t.anyQualifies then { t with asserted := true, armed := false } else { t with armed := true }

/-- NOTIFY_ARM (R178). -/
def execNotifyArm (tag : Nat) (s : State) : Host.Outcome State Fault Refusal :=
  .next (request tag (fun t => atuAnswer { t with atu := t.atu.arm } .ok []) s)

/-- NOTIFY_ACK (R178). -/
def execNotifyAck (tag : Nat) (s : State) : Host.Outcome State Fault Refusal :=
  .next (request tag (fun t => atuAnswer { t with atu := { t.atu with asserted := false, armed := false } } .ok []) s)

/-- NOTIFY_SET (R178). -/
def execNotifySet (tag threshold : Nat) (s : State) : Host.Outcome State Fault Refusal :=
  .next (request tag (fun t =>
    match Severity.ofCode threshold with
    | some v => atuAnswer { t with atu := { t.atu with threshold := v }.settle } .ok []
    | none => atuAnswer t .range []) s)

end Sys2Proof.Machine
end

