-- ==== Sys2Proof/Machine/Port.lean ====
section
/-! DEFINITION. The Management Port (chapter 10): selects, the hub requests, the warm reset and the cold reset. -/

namespace Sys2Proof.Machine

open Sys2Proof

/-! ### Write selects (R181 to R183) -/

/-- The tag that a refused frame's response echoes: 0 with fewer than 3 bytes (R182). -/
def echoTag (frame : List Byte) : Nat := if frame.length < 3 then 0 else byteAt frame 2

/-- The first check of R182 that the frame fails, none for a sound request. -/
def frameRefusal (frame : List Byte) : Option Result :=
  if frameSound frame = false then some .checkError
  else if codeKnown frame = false then some .unknown
  else if lengthFits frame = false then some .checkError
  else none

/-- A frame taken in IDLE: refused by the MP, or in hand with the port EXECUTING (R182). -/
def State.takeRequest (s : State) (frame : List Byte) : State :=
  match frameRefusal frame with
  | some r => s.respond (echoTag frame) r []
  | none => { s with port := { s.port with state := .executing, request := frame } }

/-- A write select that carries a frame (R182, R183). -/
def State.writeFrame (s : State) (frame : List Byte) : State :=
  match s.port.state with
  | .idle => s.takeRequest frame
  | .executing => s.overrunSet
  | .responseReady => s.overrunSet

/-! ### Read selects (R184) -/

/-- The status-only frame (R192). -/
def State.statusFrame (s : State) : List Byte :=
  withCheck [5, 0, 0xFF, portFlags s.port.overrun s.port.state true s.atu.asserted]

/-- The bytes clocked out of a frame, 0x00 after its last byte (R181). -/
def clockOut (n : Nat) (frame : List Byte) : List Byte := frame.take n ++ List.replicate (n - frame.length) 0

/-- A read select of n bytes after the access byte (R184): the response is gone once its last byte is clocked out. -/
def State.readBytes (s : State) (n : Nat) : State :=
  match s.port.state with
  | .responseReady =>
    if s.port.response.length ≤ n then
      { s with port := { s.port with state := .idle, response := [], miso := clockOut n s.port.response } }
    else { s with port := { s.port with miso := clockOut n s.port.response } }
  | .idle => { s with port := { s.port with miso := clockOut n s.statusFrame } }
  | .executing => { s with port := { s.port with miso := clockOut n s.statusFrame } }

/-- A select judged by its access byte (R181): 0x01 writes, 0x02 reads, another is ignored, as is a write of no byte. -/
def State.select (s : State) (mosi : List Byte) : State :=
  match mosi with
  | [] => s
  | access :: rest =>
    if access = 0x01 then (if rest = [] then s else s.writeFrame rest)
    else if access = 0x02 then s.readBytes rest.length
    else s

/-- WRITE_SELECT (R181 to R183). -/
def execWriteSelect (mosi : List Byte) (s : State) : Host.Outcome State Fault Refusal := .next (s.select mosi)

/-- READ_SELECT (R184). -/
def execReadSelect (clocked : Nat) (s : State) : Host.Outcome State Fault Refusal := .next (s.readBytes clocked)

/-- The request in hand while the port is EXECUTING, and the state in which its owner takes it as a whole write select
(R182, log 6). -/
def State.inHand (s : State) : Option (Instr × State) :=
  match s.port.state with
  | .executing =>
    (decodeRequest s.port.request).map (fun i => (i, { s with port := { s.port with state := .idle, request := [] } }))
  | .idle => none
  | .responseReady => none

/-! ### Hub requests (R187, R188) -/

/-- Every present value of HUB_SET within its range (R187). -/
def hubInRange (p : HubSetReq) : Bool :=
  optIn 0 4294967295 p.identity && optIn 10000 200000 p.tTurn && optIn 1 15 p.parentDrop && optIn 5 255 p.timeout

/-- The settings take their values (R187, R73). -/
def State.setHub (p : HubSetReq) (s : State) : State :=
  { s with
    port := { s.port with hubIdentity := p.identity.getD s.port.hubIdentity, tTurn := p.tTurn.getD s.port.tTurn,
                          parentDrop := p.parentDrop.getD s.port.parentDrop },
    stu := { s.stu with provisionalTimeout := p.timeout.getD s.stu.provisionalTimeout } }

/-- All four settings as they stand (R187). -/
def State.hubItems (s : State) : List Item :=
  [natItem 4 s.port.hubIdentity, natItem 4 s.port.tTurn, natItem 1 s.port.parentDrop, natItem 1 s.stu.provisionalTimeout]

/-- HUB_SET (R187): the response carries the settings as they stand after the request. -/
def execHubSet (tag : Nat) (p : HubSetReq) (s : State) : Host.Outcome State Fault Refusal :=
  .next (request tag (fun t =>
    if hubInRange p then (t.setHub p, .ok, (t.setHub p).hubItems) else (t, .range, t.hubItems)) s)

/-- DEVICE_IDENTIFY (R188). -/
def execDeviceIdentify (tag : Nat) (s : State) : Host.Outcome State Fault Refusal :=
  .next (request tag (fun t =>
    (t, .ok, [natItem 1 Config.familyCode, natItem 2 Config.partNumber, natItem 1 Config.revision])) s)

/-! ### Warm reset (R189) -/

/-- A record that a warm reset removes (R95). -/
def SiteRecord.dropsOnWarm (r : SiteRecord) : Bool := r.lifecycle == .provisional || r.lifecycle == .retiring

/-- A record that stays (R95): no amendment, no exchanges, counts and silence 0, condition NONE. -/
def SiteRecord.warm (r : SiteRecord) : SiteRecord :=
  { r with pending := Pending.empty, exchanges := [], sent := 0, onTime := 0, late := 0, missed := 0, missRun := 0,
           silence := .none, condition := .none }

/-- Every reservation released (R110). -/
def releaseAll (slots : List SlotEntry) : List SlotEntry := slots.map (fun e => if e.isReserved then .free else e)

/-- The instant from which frames are taken after a warm reset (R127): the reset's own, and later than the address character of
the frame that was being received, which is discarded (log 44). -/
def Link.hearsAfter (now : Instant) (l : Link) : Instant :=
  match l.rx with
  | some f => max (max l.hearsFrom now) (f.instant + 1)
  | none => max l.hearsFrom now

/-- A link after a warm reset (R110, R127): counts 0, window closed, no pending split, no reservation, nothing queued;
a frame being received at the instant of the reset is discarded uncounted. -/
def Link.warm (now : Instant) (l : Link) : Link :=
  { l with enrolConflicts := 0, enrolRefused := 0, badFrames := 0, strayReplies := 0, window := 0, pendingSplit := none,
           slots := releaseAll l.slots, retireQueue := [], rx := none, hearsFrom := l.hearsAfter now }

/-- The warm reset, one act across every block (R189): removals first, then what stays is reset (R95, R110, R127, R179). -/
def State.warmReset (s : State) : State :=
  let t := (s.stu.records.filter SiteRecord.dropsOnWarm).foldl State.removeRecord s
  { t with stu := { t.stu with records := t.stu.records.map SiteRecord.warm }, links := t.links.map (Link.warm s.clock.now),
           atu := AlarmTable.reset }

/-- DEVICE_WARM_RESET (R189). -/
def execDeviceWarmReset (tag : Nat) (s : State) : Host.Outcome State Fault Refusal :=
  .next (request tag (fun t => (t.warmReset, .ok, [])) s)

/-! ### Cold reset (R190) -/

/-- COLD_RESET (R190): every block's cold reset contents, each link with the SENSE input as the reset ends; the commands
that wait stay (log 7). -/
def execColdReset (sense : PerLink Bool) (s : State) : Host.Outcome State Fault Refusal := .next (State.cold sense s.pending)

end Sys2Proof.Machine
end

