-- ==== Sys2Proof/Machine/Dispatch.lean ====
section
/-! DEFINITION. exec: one arm per command. -/

namespace Sys2Proof.Machine

open Sys2Proof

def exec (i : Instr) (s : State) : Host.Outcome State Fault Refusal :=
  match i with
  | .coldReset sense => Sys2Proof.Machine.execColdReset sense s
  | .writeSelect mosi => Sys2Proof.Machine.execWriteSelect mosi s
  | .readSelect clocked => Sys2Proof.Machine.execReadSelect clocked s
  | .hubSet tag p => Sys2Proof.Machine.execHubSet tag p s
  | .deviceIdentify tag => Sys2Proof.Machine.execDeviceIdentify tag s
  | .deviceWarmReset tag => Sys2Proof.Machine.execDeviceWarmReset tag s
  | .tbLookup tag => Sys2Proof.Machine.execTbLookup tag s
  | .tbSet tag p => Sys2Proof.Machine.execTbSet tag p s
  | .tbSetTime tag seconds => Sys2Proof.Machine.execTbSetTime tag seconds s
  | .refLookup tag index page => Sys2Proof.Machine.execRefLookup tag index page s
  | .refSet tag index p => Sys2Proof.Machine.execRefSet tag index p s
  | .refForce tag index => Sys2Proof.Machine.execRefForce tag index s
  | .refRelease tag => Sys2Proof.Machine.execRefRelease tag s
  | .siteCreate tag siteId link drop => Sys2Proof.Machine.execSiteCreate tag siteId link drop s
  | .siteAdmit tag p => Sys2Proof.Machine.execSiteAdmit tag p s
  | .siteAmend tag p => Sys2Proof.Machine.execSiteAmend tag p s
  | .siteAmendGroup tag p => Sys2Proof.Machine.execSiteAmendGroup tag p s
  | .siteSuspend tag handle => Sys2Proof.Machine.execSiteSuspend tag handle s
  | .siteResume tag handle => Sys2Proof.Machine.execSiteResume tag handle s
  | .siteRetire tag handle now => Sys2Proof.Machine.execSiteRetire tag handle now s
  | .siteLookup tag key => Sys2Proof.Machine.execSiteLookup tag key s
  | .siteNext tag cursor => Sys2Proof.Machine.execSiteNext tag cursor s
  | .siteTakeCounts tag handle => Sys2Proof.Machine.execSiteTakeCounts tag handle s
  | .enrolOpen tag link epochs => Sys2Proof.Machine.execEnrolOpen tag link epochs s
  | .enrolClose tag link => Sys2Proof.Machine.execEnrolClose tag link s
  | .linkSet tag link role split => Sys2Proof.Machine.execLinkSet tag link role split s
  | .linkRestart tag link => Sys2Proof.Machine.execLinkRestart tag link s
  | .linkLookup tag link take => Sys2Proof.Machine.execLinkLookup tag link take s
  | .alarmLookup tag key => Sys2Proof.Machine.execAlarmLookup tag key s
  | .alarmNext tag cursor => Sys2Proof.Machine.execAlarmNext tag cursor s
  | .alarmAck tag index => Sys2Proof.Machine.execAlarmAck tag index s
  | .alarmAckSeverity tag set => Sys2Proof.Machine.execAlarmAckSeverity tag set s
  | .notifyArm tag => Sys2Proof.Machine.execNotifyArm tag s
  | .notifyAck tag => Sys2Proof.Machine.execNotifyAck tag s
  | .notifySet tag threshold => Sys2Proof.Machine.execNotifySet tag threshold s
  | .epochBoundary => Sys2Proof.Machine.execEpochBoundary s
  | .holdoverAging => Sys2Proof.Machine.execHoldoverAging s
  | .holdoverCeiling => Sys2Proof.Machine.execHoldoverCeiling s
  | .acquireSample => Sys2Proof.Machine.execAcquireSample s
  | .lockedSample => Sys2Proof.Machine.execLockedSample s
  | .lineSample => Sys2Proof.Machine.execLineSample s
  | .phaseReferencePublication => Sys2Proof.Machine.execPhaseReferencePublication s
  | .lineReferencePublication => Sys2Proof.Machine.execLineReferencePublication s
  | .selectionLostPublication => Sys2Proof.Machine.execSelectionLostPublication s
  | .satMessage input bytes => Sys2Proof.Machine.execSatMessage input bytes s
  | .satMessageLapse input => Sys2Proof.Machine.execSatMessageLapse input s
  | .messageIdleTimeout line => Sys2Proof.Machine.execMessageIdleTimeout line s
  | .ppsEdge input instant => Sys2Proof.Machine.execPpsEdge input instant s
  | .deferredEdgeSample ref => Sys2Proof.Machine.execDeferredEdgeSample ref s
  | .lineClockEdge input instant => Sys2Proof.Machine.execLineClockEdge input instant s
  | .lineQualityMessage input bytes => Sys2Proof.Machine.execLineQualityMessage input bytes s
  | .rmEpochAccounting => Sys2Proof.Machine.execRmEpochAccounting s
  | .referenceAbsent ref => Sys2Proof.Machine.execReferenceAbsent ref s
  | .windowEnd ref => Sys2Proof.Machine.execWindowEnd ref s
  | .parentEnrolledReport link => Sys2Proof.Machine.execParentEnrolledReport link s
  | .parentLostReport link => Sys2Proof.Machine.execParentLostReport link s
  | .parentFrameMeasure link => Sys2Proof.Machine.execParentFrameMeasure link s
  | .selBoundary => Sys2Proof.Machine.execSelBoundary s
  | .wtrSwitch => Sys2Proof.Machine.execWtrSwitch s
  | .provisionalExpiry => Sys2Proof.Machine.execProvisionalExpiry s
  | .amendmentApplication => Sys2Proof.Machine.execAmendmentApplication s
  | .serviceEvaluation older => Sys2Proof.Machine.execServiceEvaluation older s
  | .linkEpochBoundary link => Sys2Proof.Machine.execLinkEpochBoundary link s
  | .enrolWindowExpiry link => Sys2Proof.Machine.execEnrolWindowExpiry link s
  | .trainingComplete link => Sys2Proof.Machine.execTrainingComplete link s
  | .parentSilenceExpiry link => Sys2Proof.Machine.execParentSilenceExpiry link s
  | .lineSenseLost link => Sys2Proof.Machine.execLineSenseLost link s
  | .lineSenseReturn link => Sys2Proof.Machine.execLineSenseReturn link s
  | .deliverySlotStart link slot older => Sys2Proof.Machine.execDeliverySlotStart link slot older s
  | .callSlot link older => Sys2Proof.Machine.execCallSlot link older s
  | .farewellSlot link slot => Sys2Proof.Machine.execFarewellSlot link slot s
  | .exchangeWindowEnd link handle slot index receiving => Sys2Proof.Machine.execExchangeWindowEnd link handle slot index receiving s
  | .frameGapTimeout link => Sys2Proof.Machine.execFrameGapTimeout link s
  | .replyFrame link instant addr slot index => Sys2Proof.Machine.execReplyFrame link instant addr slot index s
  | .enrolFrame link instant addr siteId capability => Sys2Proof.Machine.execEnrolFrame link instant addr siteId capability s
  | .enrolResult link => Sys2Proof.Machine.execEnrolResult link s
  | .linkFrameDiscarded link instant chars => Sys2Proof.Machine.execLinkFrameDiscarded link instant chars s
  | .parentCallFrame link instant addr hubId depth seconds => Sys2Proof.Machine.execParentCallFrame link instant addr hubId depth seconds s
  | .parentEnrolSend link => Sys2Proof.Machine.execParentEnrolSend link s
  | .parentTimeFrame link instant frame => Sys2Proof.Machine.execParentTimeFrame link instant frame s
  | .parentReplySend link => Sys2Proof.Machine.execParentReplySend link s
  | .parentFarewellFrame link instant addr siteId hubId => Sys2Proof.Machine.execParentFarewellFrame link instant addr siteId hubId s
  | .alarmScan older => Sys2Proof.Machine.execAlarmScan older s

end Sys2Proof.Machine
end

