-- ==== Sys2Proof/Machine/Step.lean ====
section
/-! DEFINITION. One step: the command at the front of the queue. -/

namespace Sys2Proof.Machine

open Sys2Proof

/-- One step takes the command at the front of the queue. With the queue empty the owner of a request in hand acts on it
(R182, log 6); with nothing in hand the block idles. -/
def step (s : State) : Host.Outcome State Fault Refusal :=
  match s.pending with
  | c :: rest => exec c { s with pending := rest }
  | [] =>
    match s.inHand with
    | some p => exec p.1 p.2
    | none => .next s

/-- The table gives no bits, so no word spells a command and the state is unchanged. -/
def State.withFetchWord (s : State) (nbits w : Nat) : State :=
  match decodeTableWord nbits w with
  | some c => { s with pending := c :: s.pending }
  | none => s

end Sys2Proof.Machine
end

