-- ==== Sys2Proof/Safety.lean ====
section
/-! DEFINITION. What every step keeps: the timebase's limits and what its states imply, the selector's choice, the three collections of the site table, and the alarm table's shape. -/

namespace Sys2Proof.Machine

open Sys2Proof

/-! ### The timebase -/

/-- The reference entries with every offer taken. -/
def State.offersTaken (s : State) : PerRef RefEntry := s.rm.entries.map (fun e => { e with offer := none })

/-- The reference entries with the offers of every entry but the selected one taken. -/
def State.othersTaken (s : State) : PerRef RefEntry :=
  match s.tb.selected with
  | none => s.offersTaken
  | some r => s.offersTaken.set r (s.entry r)

/-- What a timebase state says of the selected reference (section 1.3). -/
def TbState.allowsSelected (st : TbState) (sel : Option RefId) : Prop :=
  match st with
  | .freerun => ∀ r, sel = some r → r.isPhase = false
  | .acquire => ∃ r, sel = some r ∧ r.isPhase = true
  | .locked => ∃ r, sel = some r ∧ r.isPhase = true
  | .freqHold => ∃ r, sel = some r ∧ r.isPhase = false
  | .holdover => sel = none

/-- The state is HOLDOVER or FREQ_HOLD. -/
def TbState.holds (st : TbState) : Prop := st = .holdover ∨ st = .freqHold

/-- The state is ACQUIRE or LOCKED. -/
def TbState.follows (st : TbState) : Prop := st = .acquire ∨ st = .locked

/-- The timebase record within its limits (section 1.1), with time valid in every state but FREERUN (R13), the selection
its state allows (R15, R16), e present where it is used (R20), U below the ceiling in HOLDOVER and FREQ_HOLD (R22), and no
aging count waiting to be compared with A (R21, log 2). -/
structure TimebaseInv (s : State) : Prop where
  uCapped : s.tb.u ≤ Config.uCapPs
  fWithin : -Config.fLimit ≤ s.tb.f ∧ s.tb.f ≤ Config.fLimit
  runWithin : s.tb.inLock ≤ 64
  countsWithin : s.tb.learning ≤ Config.countMax ∧ s.tb.g ≤ Config.countMax ∧ s.tb.aging ≤ Config.countMax
    ∧ s.tb.holdoverEpochs ≤ Config.countMax
  g0Within : s.tb.settings.g0 ≤ Config.countMax
  untimed : s.tb.timeValid = false → s.tb.state = .freerun
  selection : s.tb.state.allowsSelected s.tb.selected
  steering : s.tb.steered = s.tb.selected.isSome
  residual : s.tb.state.follows → s.tb.e.isSome = true
  belowCeiling : s.tb.state.holds → nsOf s.tb.u < s.tb.settings.ceiling
  basesWithin : ∀ r, (s.entry r).settings.baseUncertainty ≤ 10000
  agingCompared : s.tb.agingDue = false

/-! ### The selector -/

/-- A candidate that the search of R60 would find better than the selected reference. -/
def State.betterThan (s : State) (c cur : RefId) : Prop := s.candidate c = true ∧ s.priority c < s.priority cur

/-- The selected reference is a candidate, and there is none only without candidates (R58, R59); a force is on the
selected reference (R63); a WTR candidate is a better candidate, held only in revertive operation without a force (R60 to
R62), with WTR at 0 there is none, and no count waits to be compared with WTR (R61, log 2). -/
structure SelectorInv (s : State) : Prop where
  selectedIs : ∀ c, s.sel.selected = some c → s.candidate c = true
  noneOnly : s.sel.selected = none → ∀ r, s.candidate r = false
  forcedIs : ∀ r, s.sel.forced = some r → s.sel.selected = some r
  waiting : ∀ c, s.sel.wtrCand = some c →
    s.sel.forced = none ∧ s.sel.revertive = true ∧ ∃ cur, s.sel.selected = some cur ∧ s.betterThan c cur
  idleCount : s.sel.wtrCand = none → s.sel.wtrCount = 0
  noWait : s.sel.wtr = 0 → s.sel.wtrCand = none
  countWithin : s.sel.wtrCount ≤ 1023
  countCompared : s.sel.wtrDue = false

/-! ### The site table -/

/-- A record that a warm reset removes (R95). -/
def SiteRecord.goesAtWarmReset (r : SiteRecord) : Prop := r.lifecycle = .provisional ∨ r.lifecycle = .retiring

/-- The drop map names a handle at a drop of a link (R72). -/
def SiteTable.names (t : SiteTable) (l : LinkId) (drop h : Nat) : Prop :=
  1 ≤ drop ∧ t.dropEntry l drop = some h

/-- The records in ascending order of handle, each of the 64 handles held by a record or free (R71), the index ascending by
site ID with exactly the records' pairs (R70), and the drop maps naming exactly the records, by link and drop (R72). -/
structure SiteTableInv (t : SiteTable) : Prop where
  recordsAscend : (t.records.map SiteRecord.handle).Pairwise (fun a b => a < b)
  freeAscend : t.freeHandles.Pairwise (fun a b => a < b)
  handles : ∀ h, h ∈ t.freeHandles ↔ h < Config.maxSites ∧ ∀ r ∈ t.records, r.handle ≠ h
  handleWithin : ∀ r ∈ t.records, r.handle < Config.maxSites
  indexAscend : (t.index.map Prod.fst).Pairwise (fun a b => a < b)
  indexIs : ∀ i h, (i, h) ∈ t.index ↔ ∃ r ∈ t.records, r.siteId = i ∧ r.handle = h
  dropWithin : ∀ r ∈ t.records, 1 ≤ r.drop ∧ r.drop ≤ Config.maxDrop
  siteIdSet : ∀ r ∈ t.records, r.siteId ≠ 0
  mapSize : ∀ l, (t.dropMaps.get l).length = Config.maxDrop
  mapIs : ∀ l d h, t.names l d h ↔ ∃ r ∈ t.records, r.link = l ∧ r.drop = d ∧ r.handle = h

/-- ENROL results handed over are well formed: the LE has discarded the malformed ones (R75). -/
def EnrolsSound (s : State) : Prop :=
  ∀ l, ∀ e ∈ (s.link l).toStu, 1 ≤ e.drop ∧ e.drop ≤ Config.maxDrop ∧ e.siteId ≠ 0

/-- The site table and what is handed to it. -/
structure SitesInv (s : State) : Prop where
  table : SiteTableInv s.stu
  enrols : EnrolsSound s

/-! ### The alarm table -/

/-- The kinds that belong to a source (R162). -/
def AlarmKind.belongsTo (k : AlarmKind) (src : AlarmSource) : Prop :=
  match src with
  | .timebase => k = .tbFreerun ∨ k = .tbHoldover ∨ k = .tbFreqHold
  | .ref _ => k = .refAbsent ∨ k = .refDisqualified
  | .link _ => k = .linkDown
  | .site _ _ => k = .siteService ∨ k = .siteSilence
  | .table => k = .tableFull

/-- The kinds that a mark may name (R168). -/
def AlarmKind.isRoot (k : AlarmKind) : Prop := k = .tbFreerun ∨ k = .tbHoldover ∨ k = .tbFreqHold ∨ k = .linkDown

/-- The Alarm Table's shape: index 47 for TABLE_FULL alone, no two entries with one index or with one source and kind, no
entry both CLEARED and acknowledged, age order ascending by serial (R161), every mark on an ACTIVE root (R168), and the
notify line asserted only while an entry qualifies and the ATU is disarmed (R176). -/
structure AlarmInv (t : AlarmTable) : Prop where
  indexWithin : ∀ e ∈ t.entries, e.index ≤ Config.tableFullIndex
  fullIndex : ∀ e ∈ t.entries, e.index = Config.tableFullIndex ↔ e.kind = .tableFull
  indexOnce : (t.entries.map AlarmEntry.index).Nodup
  kindOnce : (t.entries.map (fun e => (e.source, e.kind))).Nodup
  kinds : ∀ e ∈ t.entries, e.kind.belongsTo e.source
  settled : ∀ e ∈ t.entries, e.condition = .cleared → e.acknowledged = false
  serials : (t.entries.map AlarmEntry.serial).Pairwise (fun a b => a < b)
  nextSet : 1 ≤ t.nextSerial
  serialBelow : ∀ e ∈ t.entries, 1 ≤ e.serial ∧ e.serial < t.nextSerial
  roots : ∀ e ∈ t.entries, ∀ k, e.root = some k →
    ∃ f ∈ t.entries, f.index = k ∧ f.condition = .active ∧ f.kind.isRoot
  line : t.asserted = true → t.armed = false ∧ ∃ e ∈ t.entries, e.qualifies t.threshold = true

end Sys2Proof.Machine
end

