-- ==== Sys2Proof/Certificates/Slice0/Obligations.lean ====
section
/-! DEFINITION. The statements for the provers. -/

open Sys2Proof Sys2Proof.Machine

/-! ### The machine -/

/-- A step takes the command at the front of the queue and runs it on the state with the queue's rest. -/
def Obligations.StepTakesFrontCommand : Prop :=
  ∀ (c : Instr) (rest : List Instr) (s : State), s.pending = c :: rest → step s = exec c { s with pending := rest }

/-- With the queue empty, a request in hand is acted on by its owner, as the write select of that request would be in IDLE;
with none in hand the block idles (the model's choice, log 6). -/
def Obligations.StepOnEmptyQueue : Prop :=
  ∀ s : State, s.pending = [] →
    (s.port.state ≠ .executing → step s = .next s)
    ∧ (s.port.state = .executing → decodeRequest s.port.request = none → step s = .next s)
    ∧ (∀ i, s.port.state = .executing → decodeRequest s.port.request = some i →
        step s = exec i { s with port := { s.port with state := .idle, request := [] } })

/-- Every command, in every state, answers a next state, and leaves the queue of waiting commands as it was; that COLD_RESET
keeps it too is the model's choice (log 7). -/
def Obligations.EveryCommandCompletes : Prop :=
  ∀ (i : Instr) (s : State), ∃ t, exec i s = .next t ∧ t.pending = s.pending

/-! ### The cold reset -/

/-- A cold reset leaves every record, table and queue of frames at its reset contents, with the first boundary one second
away; as the reset ends, a link with line sense enters TRAINING, and one without stays DOWN. The sums and lists that the
model keeps beside the records are empty (log 24). -/
def Obligations.ColdResetOutcome : Prop :=
  (∀ (sense : PerLink Bool) (s : State), ∃ t, exec (.coldReset sense) s = .next t
      ∧ t.tb = { state := .freerun, timeValid := false, seconds := 0, f := 0, steered := false, e := none, inLock := 0,
                 learning := 0, u := 999999000, g := 0, aging := 0, agingDue := false, holdoverEpochs := 0, selected := none,
                 stepSum := 0, appliedStep := 0,
                 settings := { learningPeriod := 900, lockThreshold := 20, lockCount := 8, unlockThreshold := 200,
                               slewLimit := 100, ceiling := 100000, g0 := 20, agingInterval := 600, ga := 5 } }
      ∧ t.published = { state := .freerun, timeValid := false, seconds := 0, uNs := 999999, selected := none,
                        appliedStep := 0 }
      ∧ t.older = t.published ∧ t.clock.nextAt = t.clock.boundaryAt + 1000000000000 ∧ t.clock.now = t.clock.boundaryAt
      ∧ t.sel = { selected := none, forced := none, wtrCand := none, wtrCount := 0, wtrDue := false, wtr := 60,
                  revertive := true, toTbu := [] }
      ∧ t.port = { state := .idle, request := [], response := [], overrun := false, hubIdentity := 0, tTurn := 40000,
                   parentDrop := 1, miso := [] }
      ∧ t.rm.parentPresent = false ∧ t.rm.inputA = { waiting := none, part := [] }
      ∧ t.rm.inputB = { waiting := none, part := [] } ∧ t.rm.clockA = { part := [], edgeWait := false }
      ∧ t.rm.clockB = { part := [], edgeWait := false }
      ∧ (∀ r, t.entry r =
          { state := .absent, cause := none, qualify := 0, missRun := 3, lostLatch := false, lastSample := none,
            lastDeclared := none, lastAge := 0, ageRuns := false, base := none, stepsSince := 0, windowSum := 0,
            windowCount := 0, aheadSum := 0, aheadCount := 0, windowEpochs := none, windowAhead := false, windowRestart := false, wf := 0,
            q := 0, worstQ := 0, outlierRun := 0,
            declared := { message := none, tracking := none, accuracy := none, level := none, parentQuality := none,
                          parentDepth := none, parentU := none },
            recentParentU := none,
            settings := { enabled := true, priority := r.index + 1,
                          thresholds := [1000000, 250000, 62500, 15625, 3906, 977, 244], hysteresis := 1, window := 16,
                          floor := 4, qualifyPeriod := 20, gateWidth := 1000, acceptLevel := 4, maxDepth := 4,
                          baseUncertainty := 40, allowance := 50 },
            thisEpoch := none, nextEpoch := none, epochAcceptable := false, edges := [], waiting := none, offer := none }))
  ∧ (∀ (sense : PerLink Bool) (s : State), ∃ t, exec (.coldReset sense) s = .next t
      ∧ t.stu.records = [] ∧ t.stu.index = [] ∧ t.stu.provisionalTimeout = 30
      ∧ (∀ h, h ∈ t.stu.freeHandles ↔ h < 64) ∧ (∀ l d, t.stu.dropEntry l d = none)
      ∧ t.atu = { entries := [], nextSerial := 1, lastUnrecorded := 0, asserted := false, armed := false,
                  threshold := .major }
      ∧ (∀ l, t.link l =
          { role := .serve, state := if sense.get l then .training else .down, trainingCount := 0, downLatch := true,
            split := 224, pendingSplit := none, window := 0, enrolConflicts := 0, enrolRefused := 0, badFrames := 0,
            strayReplies := 0, parentState := .unenrolled, ownDrop := none, parentSilence := 0,
            slots := List.replicate 256 .free, retireQueue := [], sense := sense.get l, tx := none, rx := none,
            hearsFrom := t.clock.now, calling := none, toRm := [], toStu := [], dueEnrols := [], dueReplies := [] }))

/-! ### The management port -/

/-- The response to a request: the port enters RESPONSE_READY with the overrun flag reported and cleared, nothing else
changes, and the frame is length, tag, result, port flags, payload and a check byte that makes the sum 0. A payload is its
presence bytes, bit k of them for the k-th value that may be absent, the first byte with bits 0 to 7, and as many bytes as
they need; then the flag byte, where there are yes/no values, bit k for the k-th of them; then the other values in order, an
absent one as 0 across its width. A number goes most significant byte first, and a signed one in two's complement. -/
def Obligations.ResponseFrameLayout : Prop :=
  (∀ (s : State) (tag : Nat) (r : Result) (items : List Item), tag < 256 → (packItems items).length ≤ 59 →
    let t := s.respond tag r items
    let bytes := t.port.response
    t = { s with port := { s.port with state := .responseReady, request := [], response := bytes, overrun := false } }
    ∧ bytes.length = (packItems items).length + 5 ∧ byteAt bytes 0 = bytes.length ∧ byteAt bytes 1 = tag
    ∧ byteAt bytes 2 = r.code ∧ byteAt bytes 3 = s.port.overrun.toNat + 4 + 16 * s.atu.asserted.toNat
    ∧ (bytes.drop 4).dropLast = packItems items ∧ byteSum bytes = 0)
  ∧ (∀ items : List Item,
    let presence := items.flatMap (fun x => match x with
      | .val _ => []
      | .flag _ => []
      | .opt _ v => [v.isSome]
      | .optFlag v => [v.isSome])
    let flags := items.flatMap (fun x => match x with
      | .val _ => []
      | .flag b => [b]
      | .opt _ _ => []
      | .optFlag v => [v.getD false])
    let values : List Byte := items.flatMap (fun x => match x with
      | .val v => v
      | .flag _ => []
      | .opt w v => v.getD (List.replicate w 0)
      | .optFlag _ => [])
    let n := (presence.length + 7) / 8
    let bit := fun (byte k : Nat) => ((packItems items)[byte]?.getD 0).toNat.testBit k
    (∀ k, k < 8 * n → bit (k / 8) (k % 8) = presence[k]?.getD false)
    ∧ (flags = [] → (packItems items).length = n + values.length ∧ (packItems items).drop n = values)
    ∧ (flags ≠ [] → (packItems items).length = n + 1 + values.length ∧ (packItems items).drop (n + 1) = values
        ∧ ∀ k, k < 8 → bit n k = flags[k]?.getD false))
  ∧ (let spelled := fun (n v : Nat) => (List.range n).map (fun k => (BitVec.ofNat 8 (v / 256 ^ (n - 1 - k)) : Byte))
    let two := fun v : Int => spelled 4 (v % 4294967296).toNat
    (∀ w v : Nat, natItem w v = .val (spelled w v))
    ∧ (∀ (w : Nat) (v : Option Nat), optNat w v = .opt w (v.map (spelled w)))
    ∧ (∀ v : Int, intItem v = .val (two v))
    ∧ (∀ v : Option Int, optInt v = .opt 4 (v.map two)))

/-- A request that comes while the port is EXECUTING or RESPONSE_READY is discarded whole, and sets the overrun flag. A
write select: ignored for its access byte or for want of a frame; discarded while the port is busy; in IDLE refused by the
first failing check, or taken with the port EXECUTING; and a read select by its access byte. A read select: in
RESPONSE_READY it gives the response, with 0x00 after its last byte, and the port is IDLE once the last byte is clocked out;
otherwise it gives the status-only frame and changes nothing else. -/
def Obligations.SelectOutcome : Prop :=
  (∀ (i : Instr) (frame : List Byte) (s : State), encodeRequest i = some frame → s.port.state ≠ .idle →
      exec i s = .next { s with port := { s.port with overrun := true } })
  ∧ (((∀ s : State, exec (.writeSelect []) s = .next s ∧ exec (.writeSelect [0x01]) s = .next s)
      ∧ (∀ (s : State) (a : Byte) (rest : List Byte), a ≠ 0x01 → a ≠ 0x02 → exec (.writeSelect (a :: rest)) s = .next s)
      ∧ (∀ (s : State) (rest : List Byte), exec (.writeSelect (0x02 :: rest)) s = exec (.readSelect rest.length) s)
      ∧ (∀ (s : State) (frame : List Byte), frame ≠ [] → s.port.state ≠ .idle →
          exec (.writeSelect (0x01 :: frame)) s = .next { s with port := { s.port with overrun := true } })
      ∧ (∀ (s : State) (frame : List Byte), frame ≠ [] → s.port.state = .idle →
          let tag := if frame.length < 3 then 0 else byteAt frame 2
          let sound := 4 ≤ frame.length ∧ frame.length ≤ 40 ∧ byteAt frame 1 = frame.length ∧ byteSum frame = 0
          let lengths := requestLengths (byteAt frame 0) (byteAt frame 4)
          (¬ sound → exec (.writeSelect (0x01 :: frame)) s = .next (s.respond tag .checkError []))
          ∧ (sound → lengths = [] → exec (.writeSelect (0x01 :: frame)) s = .next (s.respond tag .unknown []))
          ∧ (sound → lengths ≠ [] → frame.length ∉ lengths →
              exec (.writeSelect (0x01 :: frame)) s = .next (s.respond tag .checkError []))
          ∧ (sound → frame.length ∈ lengths →
              exec (.writeSelect (0x01 :: frame)) s
                = .next { s with port := { s.port with state := .executing, request := frame } })))
    ∧ (∀ (s : State) (n : Nat),
        (s.port.state = .responseReady → s.port.response.length ≤ n →
          exec (.readSelect n) s = .next { s with port := { s.port with
            state := .idle, response := [],
            miso := s.port.response ++ List.replicate (n - s.port.response.length) 0x00 } })
        ∧ (s.port.state = .responseReady → n < s.port.response.length →
          exec (.readSelect n) s = .next { s with port := { s.port with miso := s.port.response.take n } })
        ∧ (s.port.state ≠ .responseReady → ∃ frame : List Byte,
          exec (.readSelect n) s
              = .next { s with port := { s.port with miso := frame.take n ++ List.replicate (n - 5) 0x00 } }
            ∧ frame.length = 5 ∧ frame.take 3 = [5, 0, 0xFF] ∧ byteSum frame = 0
            ∧ byteAt frame 3 = s.port.overrun.toNat + 2 * s.port.state.code + 8 + 16 * s.atu.asserted.toNat)))

/-- HUB_SET: every present value within its range, or RANGE and no setting changed; the response carries all four settings
as they stand after the request. DEVICE_IDENTIFY changes nothing but the port and is always answered OK: family code 0x5B,
part number 7240, revision 1. -/
def Obligations.HubRequestsOutcome : Prop :=
  (∀ (tag : Nat) (p : HubSetReq) (s : State), s.port.state = .idle →
      let ranges := (∀ v, p.identity = some v → v ≤ 4294967295) ∧ (∀ v, p.tTurn = some v → 10000 ≤ v ∧ v ≤ 200000)
        ∧ (∀ v, p.parentDrop = some v → 1 ≤ v ∧ v ≤ 15) ∧ (∀ v, p.timeout = some v → 5 ≤ v ∧ v ≤ 255)
      let four := fun u : State => [natItem 4 u.port.hubIdentity, natItem 4 u.port.tTurn, natItem 1 u.port.parentDrop,
        natItem 1 u.stu.provisionalTimeout]
      let t : State := { s with
        port := { s.port with hubIdentity := p.identity.getD s.port.hubIdentity, tTurn := p.tTurn.getD s.port.tTurn,
                              parentDrop := p.parentDrop.getD s.port.parentDrop },
        stu := { s.stu with provisionalTimeout := p.timeout.getD s.stu.provisionalTimeout } }
      (ranges → exec (.hubSet tag p) s = .next (t.respond tag .ok (four t)))
      ∧ (¬ ranges → exec (.hubSet tag p) s = .next (s.respond tag .range (four s))))
  ∧ (∀ (tag : Nat) (s : State), s.port.state = .idle →
      exec (.deviceIdentify tag) s
        = .next (s.respond tag .ok [.val [0x5B], .val [byteOf (7240 / 256), byteOf 7240], .val [1]]))

/-- A warm reset keeps time, references, selection and hub settings; removes PROVISIONAL and RETIRING records, drops every
amendment, reservation and exchange, zeroes counts and conditions, closes windows, empties queues, and empties the alarm
table; frames are taken from the reset on, and the one that was being received is not taken after it (log 44). What a link
engine has handed to the site table and to the RM and is still in transit stays (logs 10, 11). The drop map entries of the
removed records are empty, and the others are kept. Handles name one record each, and drops begin at 1, as the site table's
invariant says. -/
def Obligations.WarmResetOutcome : Prop :=
  ∀ (tag : Nat) (s : State), s.port.state = .idle → (s.stu.records.map SiteRecord.handle).Nodup →
    ∃ t : State, exec (.deviceWarmReset tag) s = .next (t.respond tag .ok [])
      ∧ t.clock = s.clock ∧ t.tb = s.tb ∧ t.published = s.published ∧ t.older = s.older ∧ t.rm = s.rm ∧ t.sel = s.sel
      ∧ t.port = s.port ∧ t.pending = s.pending ∧ t.stu.provisionalTimeout = s.stu.provisionalTimeout
      ∧ t.atu = { entries := [], nextSerial := 1, lastUnrecorded := 0, asserted := false, armed := false,
                  threshold := .major }
      ∧ t.stu.records = (s.stu.records.filter (fun r => r.lifecycle == .active || r.lifecycle == .suspended)).map
          (fun r => { r with pending := Pending.empty, exchanges := [], sent := 0, onTime := 0, late := 0, missed := 0,
                             missRun := 0, silence := .none, condition := .none })
      ∧ (∀ p, p ∈ t.stu.index ↔
          p ∈ s.stu.index ∧ ∀ r ∈ s.stu.records, SiteRecord.goesAtWarmReset r → r.handle ≠ p.2)
      ∧ (∀ h, h ∈ t.stu.freeHandles ↔
          h ∈ s.stu.freeHandles ∨ ∃ r ∈ s.stu.records, SiteRecord.goesAtWarmReset r ∧ r.handle = h)
      ∧ ((∀ r ∈ s.stu.records, 1 ≤ r.drop) → ∀ l d, 1 ≤ d →
          ((∃ r ∈ s.stu.records, SiteRecord.goesAtWarmReset r ∧ r.link = l ∧ r.drop = d) → t.stu.dropEntry l d = none)
          ∧ ((∀ r ∈ s.stu.records, SiteRecord.goesAtWarmReset r → ¬ (r.link = l ∧ r.drop = d)) →
              t.stu.dropEntry l d = s.stu.dropEntry l d))
      ∧ (∀ l, t.link l = { s.link l with
            enrolConflicts := 0, enrolRefused := 0, badFrames := 0, strayReplies := 0, window := 0,
            pendingSplit := none, retireQueue := [], rx := none,
            hearsFrom := (match (s.link l).rx with
              | some f => max (max (s.link l).hearsFrom s.clock.now) (f.instant + 1)
              | none => max (s.link l).hearsFrom s.clock.now),
            slots := (t.link l).slots }
          ∧ (t.link l).slots.length = (s.link l).slots.length
          ∧ ∀ k, slotAt (t.link l).slots k =
              match slotAt (s.link l).slots k with
              | .free => .free
              | .reserved _ => .free
              | .held h =>
                if s.stu.records.any (fun r => r.link == l && r.handle == h
                    && (r.lifecycle == .provisional || r.lifecycle == .retiring)) then .free
                else .held h)

/-! ### Timebase requests -/

/-- TB_LOOKUP returns the timebase record as it stands and changes nothing of it. TB_SET checks every range and the two
thresholds as they would stand, and with a ceiling at or below U in HOLDOVER or FREQ_HOLD enters FREERUN at once. -/
def Obligations.TimebaseRequests : Prop :=
  (∀ (tag : Nat) (s : State), s.port.state = .idle →
    exec (.tbLookup tag) s = .next (s.respond tag .ok
      [natItem 1 s.tb.state.code, .flag s.tb.timeValid, natItem 6 s.tb.seconds.toNat, intItem s.tb.f,
        .flag s.tb.steered, optInt s.tb.e, natItem 1 s.tb.inLock, natItem 2 s.tb.learning, natItem 4 (s.tb.u / 1000),
        natItem 2 s.tb.g, natItem 2 s.tb.aging, natItem 2 s.tb.holdoverEpochs, natItem 1 (refCode s.tb.selected),
        intItem s.tb.appliedStep, natItem 2 s.tb.settings.learningPeriod, natItem 2 s.tb.settings.lockThreshold,
        natItem 1 s.tb.settings.lockCount, natItem 2 s.tb.settings.unlockThreshold, natItem 2 s.tb.settings.slewLimit,
        natItem 4 s.tb.settings.ceiling, natItem 2 s.tb.settings.g0, natItem 2 s.tb.settings.agingInterval,
        natItem 2 s.tb.settings.ga]))
  ∧ (∀ (tag : Nat) (p : TbSetReq) (s : State), s.port.state = .idle →
    let old := s.tb.settings
    let new : TbSettings :=
      { learningPeriod := p.learningPeriod.getD old.learningPeriod, lockThreshold := p.lockThreshold.getD old.lockThreshold,
        lockCount := p.lockCount.getD old.lockCount, unlockThreshold := p.unlockThreshold.getD old.unlockThreshold,
        slewLimit := p.slewLimit.getD old.slewLimit, ceiling := p.ceiling.getD old.ceiling, g0 := p.g0.getD old.g0,
        agingInterval := p.agingInterval.getD old.agingInterval, ga := p.ga.getD old.ga }
    let checks := (∀ v, p.learningPeriod = some v → 60 ≤ v ∧ v ≤ 65535) ∧ (∀ v, p.lockThreshold = some v → 5 ≤ v ∧ v ≤ 1000)
      ∧ (∀ v, p.lockCount = some v → 1 ≤ v ∧ v ≤ 64) ∧ (∀ v, p.unlockThreshold = some v → 20 ≤ v ∧ v ≤ 5000)
      ∧ (∀ v, p.slewLimit = some v → 1 ≤ v ∧ v ≤ 10000) ∧ (∀ v, p.ceiling = some v → 1000 ≤ v ∧ v ≤ 999998)
      ∧ (∀ v, p.g0 = some v → v ≤ 65535) ∧ (∀ v, p.agingInterval = some v → v ≤ 65535) ∧ (∀ v, p.ga = some v → v ≤ 65535)
      ∧ new.lockThreshold ≤ new.unlockThreshold
    let atOnce := p.ceiling.isSome = true ∧ (s.tb.state = .holdover ∨ s.tb.state = .freqHold) ∧ new.ceiling ≤ s.tb.u / 1000
    (¬ checks → exec (.tbSet tag p) s = .next (s.respond tag .range []))
    ∧ (checks → ¬ atOnce →
        exec (.tbSet tag p) s = .next (({ s with tb := { s.tb with settings := new } }).respond tag .ok []))
    ∧ (checks → atOnce →
        exec (.tbSet tag p) s = .next (({ s with tb :=
          { s.tb with settings := new, state := .freerun, u := 999999000, learning := 0 } }).respond tag .ok [])))

/-- TB_SET_TIME: in FREERUN the seconds count takes the value less one, wrapping, and time becomes valid; in any other
state BAD_STATE with the record unchanged. -/
def Obligations.TbSetTimeOutcome : Prop :=
  ∀ (tag : Nat) (v : Seconds) (s : State), s.port.state = .idle →
    (s.tb.state = .freerun →
      exec (.tbSetTime tag v) s
        = .next (({ s with tb := { s.tb with seconds := v - 1, timeValid := true } }).respond tag .ok []))
    ∧ (s.tb.state ≠ .freerun → exec (.tbSetTime tag v) s = .next (s.respond tag .badState []))

/-! ### Epoch boundaries -/

/-- A boundary: the seconds count rises by one and wraps, the learning counter counts in LOCKED, the step sum becomes the
applied step, the record is published and the copy before it kept; the boundary falls where the clock had it and the next
one a second later. The last sample ages, the steps since the difference base, the wait for a line clock edge and the age of
a waiting satellite message go by the boundary itself (log 29). But for the state, U and the growth of U, which
UncertaintyOutcome gives, nothing else changes. -/
def Obligations.EpochBoundaryOutcome : Prop :=
  ∀ s : State, ∃ t, exec .epochBoundary s = .next t
    ∧ t.tb.seconds = s.tb.seconds + 1 ∧ t.tb.appliedStep = s.tb.stepSum ∧ t.tb.stepSum = 0
    ∧ (s.tb.state = .locked → t.tb.learning = min (s.tb.learning + 1) 65535)
    ∧ (s.tb.state ≠ .locked → t.tb.learning = if t.tb.state = s.tb.state then s.tb.learning else 0)
    ∧ t.tb.timeValid = s.tb.timeValid ∧ t.tb.f = s.tb.f ∧ t.tb.steered = s.tb.steered ∧ t.tb.e = s.tb.e
    ∧ t.tb.inLock = s.tb.inLock ∧ t.tb.selected = s.tb.selected ∧ t.tb.settings = s.tb.settings
    ∧ t.published = { state := t.tb.state, timeValid := t.tb.timeValid, seconds := t.tb.seconds, uNs := t.tb.u / 1000,
                      selected := t.tb.selected, appliedStep := t.tb.appliedStep }
    ∧ t.older = s.published
    ∧ t.clock.boundaryAt = s.clock.nextAt ∧ t.clock.nextAt = s.clock.nextAt + 1000000000000
    ∧ t.clock.boundaries = s.clock.boundaries + 1 ∧ t.clock.now = max s.clock.now s.clock.nextAt
    ∧ (s.clock.now ≤ s.clock.nextAt →
        t.clock.osc = s.clock.osc + (s.clock.nextAt - s.clock.now) * (1000000000000 + s.tb.f))
    ∧ (s.clock.nextAt < s.clock.now → t.clock.osc = s.clock.osc)
    ∧ (∀ r, t.entry r = { s.entry r with
        lastAge := if (s.entry r).ageRuns then min ((s.entry r).lastAge + 1) 65535 else (s.entry r).lastAge,
        stepsSince := if (s.entry r).base.isSome then (s.entry r).stepsSince + s.tb.stepSum else (s.entry r).stepsSince })
    ∧ t.rm.inputA = { s.rm.inputA with
        waiting := s.rm.inputA.waiting.map (fun m => { m with boundaries := m.boundaries + 1 }) }
    ∧ t.rm.inputB = { s.rm.inputB with
        waiting := s.rm.inputB.waiting.map (fun m => { m with boundaries := m.boundaries + 1 }) }
    ∧ t.rm.clockA = { s.rm.clockA with edgeWait := true } ∧ t.rm.clockB = { s.rm.clockB with edgeWait := true }
    ∧ t.rm.parentPresent = s.rm.parentPresent ∧ t.rm.accounted = s.rm.accounted
    ∧ t.pending = s.pending ∧ t.sel = s.sel ∧ t.stu = s.stu ∧ t.links = s.links ∧ t.atu = s.atu ∧ t.port = s.port

/-- U, and what grows with it, at a boundary: the base in LOCKED, base and residual in ACQUIRE, growth by ga in FREQ_HOLD
and by g with aging in HOLDOVER, the cap in FREERUN; at or above the ceiling in HOLDOVER or FREQ_HOLD, FREERUN.
HOLDOVER_AGING compares a count that a boundary has raised and that has not been compared since; a boundary compares its own.
HOLDOVER_CEILING acts when what its rule asks for stands. Both change nothing otherwise (the rows' reading is the model's,
log 2). -/
def Obligations.UncertaintyOutcome : Prop :=
  (∀ s : State, ∃ t, exec .epochBoundary s = .next t
      ∧ (∀ r, s.tb.selected = some r → r = .satA ∨ r = .satB →
          (s.tb.state = .locked → t.tb.state = .locked ∧ t.tb.u = (s.entry r).settings.baseUncertainty * 1000)
          ∧ (∀ e, s.tb.state = .acquire → s.tb.e = some e →
              t.tb.state = .acquire ∧ t.tb.u = min (((s.entry r).settings.baseUncertainty + e.natAbs) * 1000) 999999000))
      ∧ (∀ u, s.tb.selected = some .parent → (s.entry .parent).recentParentU = some u →
          (s.tb.state = .locked →
              t.tb.u = min (u + (s.entry .parent).settings.allowance) 999999 * 1000)
          ∧ (∀ e, s.tb.state = .acquire → s.tb.e = some e →
              t.tb.u = min ((min (u + (s.entry .parent).settings.allowance) 999999 + e.natAbs) * 1000) 999999000))
      ∧ (s.tb.state = .locked ∨ s.tb.state = .acquire ∨ s.tb.state = .freerun →
          t.tb.state = s.tb.state ∧ t.tb.g = s.tb.g ∧ t.tb.aging = s.tb.aging ∧ t.tb.holdoverEpochs = s.tb.holdoverEpochs)
      ∧ t.tb.agingDue = (if s.tb.state = .holdover then false else s.tb.agingDue)
      ∧ (s.tb.state = .freerun → t.tb.u = 999999000)
      ∧ (s.tb.state = .freqHold →
          let u := min (s.tb.u + s.tb.settings.ga) 999999000
          t.tb.g = s.tb.g ∧ t.tb.aging = s.tb.aging ∧ t.tb.holdoverEpochs = s.tb.holdoverEpochs
          ∧ (u / 1000 < s.tb.settings.ceiling → t.tb.state = .freqHold ∧ t.tb.u = u)
          ∧ (s.tb.settings.ceiling ≤ u / 1000 → t.tb.state = .freerun ∧ t.tb.u = 999999000))
      ∧ (s.tb.state = .holdover →
          let u := min (s.tb.u + s.tb.g) 999999000
          let n := min (s.tb.aging + 1) 65535
          t.tb.holdoverEpochs = min (s.tb.holdoverEpochs + 1) 65535
          ∧ (s.tb.settings.agingInterval ≠ 0 ∧ s.tb.settings.agingInterval ≤ n →
              t.tb.g = min (s.tb.g + 1) 65535 ∧ t.tb.aging = 0)
          ∧ (¬ (s.tb.settings.agingInterval ≠ 0 ∧ s.tb.settings.agingInterval ≤ n) → t.tb.g = s.tb.g ∧ t.tb.aging = n)
          ∧ (u / 1000 < s.tb.settings.ceiling → t.tb.state = .holdover ∧ t.tb.u = u)
          ∧ (s.tb.settings.ceiling ≤ u / 1000 → t.tb.state = .freerun ∧ t.tb.u = 999999000)))
  ∧ (∀ s : State,
      let waits := s.tb.state = .holdover ∧ s.tb.agingDue = true
      let reached := s.tb.settings.agingInterval ≠ 0 ∧ s.tb.settings.agingInterval ≤ s.tb.aging
      let full := (s.tb.state = .holdover ∨ s.tb.state = .freqHold) ∧ s.tb.settings.ceiling ≤ s.tb.u / 1000
      (waits → reached → exec .holdoverAging s = .next { s with tb := { s.tb with
          g := min (s.tb.g + 1) 65535, aging := 0, agingDue := false } })
      ∧ (waits → ¬ reached → exec .holdoverAging s = .next { s with tb := { s.tb with agingDue := false } })
      ∧ (¬ waits → exec .holdoverAging s = .next s)
      ∧ (full → exec .holdoverCeiling s = .next { s with
          tb := { s.tb with state := .freerun, u := 999999000, learning := 0 },
          published := { s.published with state := .freerun, uNs := 999999 } })
      ∧ (¬ full → exec .holdoverCeiling s = .next s))

/-! ### Samples and selections taken by the timebase -/

/-- A sample of the selected phase reference: e, the step clamped to the slew limit, f with divisor 16 in ACQUIRE and 64 in
LOCKED; in ACQUIRE the in-lock run, and LOCKED at the lock count; in LOCKED, beyond the unlock threshold, ACQUIRE with the
run 0 and the learning counter kept. The step moves the next boundary, which is made at once if a negative step puts it in
the past, after all that the sample does (log 4). The difference of a selected LINE reference changes f alone, in FREERUN
and FREQ_HOLD. A sample of another entry is taken without any action, and without a sample of the selected one nothing else
changes (log 9: what is offered waits for a sample row). -/
def Obligations.SampleOutcome : Prop :=
  let atOnce := fun t : State => ({ t with clock := { t.clock with nextAt := t.clock.now } } : State)
  let ignored := fun s : State =>
    (.next { s with rm := { s.rm with entries := s.othersTaken } } : Host.Outcome State Fault Refusal)
  (∀ s : State,
      (∀ r e, s.tb.state = .acquire → s.tb.selected = some r → r.isPhase = true → (s.entry r).offer = some e →
        let step := max (-(s.tb.settings.slewLimit : Int)) (min (Int.tdiv e 2) s.tb.settings.slewLimit)
        let run := if e.natAbs ≤ s.tb.settings.lockThreshold then min (s.tb.inLock + 1) 64 else 0
        let t : State := { s with
          tb := { s.tb with e := some e, stepSum := s.tb.stepSum + step,
                            f := max (-20000000) (min (s.tb.f + Int.tdiv (e * 1000) 16) 20000000), inLock := run,
                            state := if s.tb.settings.lockCount ≤ run then .locked else .acquire },
          clock := { s.clock with nextAt := s.clock.nextAt + step * 1000 },
          rm := { s.rm with entries := s.offersTaken } }
        (0 ≤ step ∨ s.clock.now ≤ t.clock.nextAt → exec .acquireSample s = .next t)
        ∧ (step < 0 → t.clock.nextAt < s.clock.now → exec .acquireSample s = exec .epochBoundary (atOnce t)))
      ∧ ((s.tb.state ≠ .acquire ∨ ∀ r, s.tb.selected = some r → r.isPhase = true → (s.entry r).offer = none) →
          exec .acquireSample s = ignored s))
  ∧ (∀ s : State,
      (∀ r e, s.tb.state = .locked → s.tb.selected = some r → r.isPhase = true → (s.entry r).offer = some e →
        let step := max (-(s.tb.settings.slewLimit : Int)) (min (Int.tdiv e 2) s.tb.settings.slewLimit)
        let lost := s.tb.settings.unlockThreshold < e.natAbs
        let t : State := { s with
          tb := { s.tb with e := some e, stepSum := s.tb.stepSum + step,
                            f := max (-20000000) (min (s.tb.f + Int.tdiv (e * 1000) 64) 20000000),
                            inLock := if lost then 0 else s.tb.inLock, state := if lost then .acquire else .locked },
          clock := { s.clock with nextAt := s.clock.nextAt + step * 1000 },
          rm := { s.rm with entries := s.offersTaken } }
        (0 ≤ step ∨ s.clock.now ≤ t.clock.nextAt → exec .lockedSample s = .next t)
        ∧ (step < 0 → t.clock.nextAt < s.clock.now → exec .lockedSample s = exec .epochBoundary (atOnce t)))
      ∧ ((s.tb.state ≠ .locked ∨ ∀ r, s.tb.selected = some r → r.isPhase = true → (s.entry r).offer = none) →
          exec .lockedSample s = ignored s))
  ∧ (∀ s : State,
      (∀ r d, s.tb.state = .freerun ∨ s.tb.state = .freqHold → s.tb.selected = some r → r.isPhase = false →
        (s.entry r).offer = some d →
        exec .lineSample s = .next { s with
          tb := { s.tb with f := max (-20000000) (min (s.tb.f + Int.tdiv (d * 1000) 16) 20000000) },
          rm := { s.rm with entries := s.offersTaken } })
      ∧ (((s.tb.state ≠ .freerun ∧ s.tb.state ≠ .freqHold)
            ∨ ∀ r, s.tb.selected = some r → r.isPhase = false → (s.entry r).offer = none) →
          exec .lineSample s = ignored s))

/-- A publication naming a phase reference: with time valid it is acquired; with time not valid the count is loaded with the
last sample's age, the whole residual is stepped, time becomes valid, and a boundary put in the past is made at once after
it all (log 4); an entry without a last sample gives no action. One naming a LINE reference, or none: FREQ_HOLD or HOLDOVER
from the states that allow them, FREERUN where U is at or above the ceiling or learning is not complete, and the state kept
otherwise. A publication of another kind at the head is not taken (the model's queue, log 8). -/
def Obligations.PublicationOutcome : Prop :=
  let atOnce := fun t : State => ({ t with clock := { t.clock with nextAt := t.clock.now } } : State)
  (∀ s : State,
      (∀ r rest, s.sel.toTbu = some r :: rest → r.isPhase = true →
        let popped : State := { s with sel := { s.sel with toTbu := rest } }
        ((s.entry r).lastSample = none → exec .phaseReferencePublication s = .next popped)
        ∧ (∀ e, (s.entry r).lastSample = some e → s.tb.timeValid = true →
            exec .phaseReferencePublication s = .next { popped with tb :=
              { s.tb with e := some e, selected := some r, steered := true, inLock := 0, state := .acquire } })
        ∧ (∀ e c, (s.entry r).lastSample = some e → s.tb.timeValid = false → (s.entry r).lastDeclared = some c →
            let t : State := { popped with
              tb := { s.tb with e := some e, seconds := c + BitVec.ofNat 48 (s.entry r).lastAge,
                                stepSum := s.tb.stepSum + e, timeValid := true, selected := some r, steered := true,
                                inLock := 0, state := .acquire },
              clock := { s.clock with nextAt := s.clock.nextAt + e * 1000 } }
            (0 ≤ e ∨ s.clock.now ≤ t.clock.nextAt → exec .phaseReferencePublication s = .next t)
            ∧ (e < 0 → t.clock.nextAt < s.clock.now → exec .phaseReferencePublication s = exec .epochBoundary (atOnce t))))
      ∧ ((∀ r rest, s.sel.toTbu = some r :: rest → r.isPhase = false) → exec .phaseReferencePublication s = .next s))
  ∧ (∀ s : State,
      let full := s.tb.settings.ceiling ≤ s.tb.u / 1000
      (∀ r rest, s.sel.toTbu = some r :: rest → r.isPhase = false →
        let took := fun tb : Timebase => ({ s with
          sel := { s.sel with toTbu := rest }, tb := { tb with selected := some r, steered := true, inLock := 0 } } : State)
        let moves := s.tb.state = .locked ∨ s.tb.state = .acquire ∨ s.tb.state = .holdover
        (moves → ¬ full → exec .lineReferencePublication s = .next (took { s.tb with state := .freqHold }))
        ∧ (moves → full → exec .lineReferencePublication s
            = .next (took { s.tb with state := .freerun, u := 999999000, learning := 0 }))
        ∧ (¬ moves → exec .lineReferencePublication s = .next (took s.tb)))
      ∧ ((∀ r rest, s.sel.toTbu = some r :: rest → r.isPhase = true) → exec .lineReferencePublication s = .next s)
      ∧ (∀ rest, s.sel.toTbu = none :: rest →
        let took := fun tb : Timebase => ({ s with
          sel := { s.sel with toTbu := rest }, tb := { tb with selected := none, steered := false, inLock := 0 } } : State)
        let moves := s.tb.state = .locked ∨ s.tb.state = .acquire ∨ s.tb.state = .freqHold
        let learnt := s.tb.settings.learningPeriod ≤ s.tb.learning
        (moves → learnt → ¬ full → exec .selectionLostPublication s
            = .next (took { s.tb with
                state := .holdover, g := s.tb.settings.g0, holdoverEpochs := 0, aging := 0, agingDue := false }))
        ∧ (moves → ¬ learnt ∨ full → exec .selectionLostPublication s
            = .next (took { s.tb with state := .freerun, u := 999999000, learning := 0 }))
        ∧ (¬ moves → exec .selectionLostPublication s = .next (took s.tb)))
      ∧ ((∀ rest, s.sel.toTbu ≠ none :: rest) → exec .selectionLostPublication s = .next s))

/-! ### Reference inputs -/

/-- Bytes on a satellite message line: a stray byte is ignored; a message begins at 0xA5 and completes at its twelfth byte;
a sound one becomes the waiting message, an unsound one is discarded with the waiting one left. A line quality message
begins at 0x5A, completes at its third byte, and a sound one sets the declared level. Runs of bytes compose. A waiting
message lapses at the second boundary after it, and a message partly received can be abandoned. -/
def Obligations.ReferenceMessages : Prop :=
  (∀ (i : SatId) (bytes : List Byte) (s : State),
    let m := s.rm.input i
    let run := m.part ++ bytes
    let holding := fun v : SatInput => ({ s with rm := s.rm.setInput i v } : State)
    let sound := byteAt run 1 = 12 ∧ byteSum run = 0
    (m.part = [] → (∀ b ∈ bytes, b ≠ 0xA5) → exec (.satMessage i bytes) s = .next s)
    ∧ (run.head? = some 0xA5 → run.length < 12 → exec (.satMessage i bytes) s = .next (holding { m with part := run }))
    ∧ (run.head? = some 0xA5 → m.part.length < 12 → run.length = 12 → sound →
        exec (.satMessage i bytes) s = .next (holding
          { part := [], waiting := some { seconds := BitVec.ofNat 48 (fieldAt run 2 6), tracking := (byteAt run 8).testBit 0,
                                          accuracy := fieldAt run 9 2, boundaries := 0 } }))
    ∧ (run.head? = some 0xA5 → m.part.length < 12 → run.length = 12 → ¬ sound →
        exec (.satMessage i bytes) s = .next (holding { m with part := [] }))
    ∧ (∀ (more : List Byte) (t : State), exec (.satMessage i bytes) s = .next t →
        exec (.satMessage i (bytes ++ more)) s = exec (.satMessage i more) t))
  ∧ (∀ (i : LineId) (bytes : List Byte) (s : State),
    let m := s.rm.line i
    let run := m.part ++ bytes
    let holding := fun v : LineInput => ({ s with rm := s.rm.setLine i v } : State)
    let sound := byteAt run 1 < 16 ∧ byteSum run = 0
    (m.part = [] → (∀ b ∈ bytes, b ≠ 0x5A) → exec (.lineQualityMessage i bytes) s = .next s)
    ∧ (run.head? = some 0x5A → run.length < 3 →
        exec (.lineQualityMessage i bytes) s = .next (holding { m with part := run }))
    ∧ (run.head? = some 0x5A → m.part.length < 3 → run.length = 3 → sound →
        exec (.lineQualityMessage i bytes) s = .next ((holding { m with part := [] }).updEntry i.ref
          (fun e => { e with declared := { e.declared with level := some (byteAt run 1) } })))
    ∧ (run.head? = some 0x5A → m.part.length < 3 → run.length = 3 → ¬ sound →
        exec (.lineQualityMessage i bytes) s = .next (holding { m with part := [] }))
    ∧ (∀ (more : List Byte) (t : State), exec (.lineQualityMessage i bytes) s = .next t →
        exec (.lineQualityMessage i (bytes ++ more)) s = exec (.lineQualityMessage i more) t))
  ∧ (∀ (i : SatId) (s : State),
    (∀ m, (s.rm.input i).waiting = some m → 2 ≤ m.boundaries →
      exec (.satMessageLapse i) s = .next { s with rm := s.rm.setInput i { s.rm.input i with waiting := none } })
    ∧ ((∀ m, (s.rm.input i).waiting = some m → m.boundaries < 2) → exec (.satMessageLapse i) s = .next s)
    ∧ exec (.messageIdleTimeout (.sat i)) s
        = .next { s with rm := s.rm.setInput i { s.rm.input i with part := [] } })
  ∧ (∀ (i : LineId) (s : State),
    exec (.messageIdleTimeout (.line i)) s = .next { s with rm := s.rm.setLine i { s.rm.line i with part := [] } })

/-- Reference edges. A pulse is attributed to the most recent boundary within half an epoch of it, to the next one beyond
that, and is late before; a second pulse of a boundary is discarded, whatever came between, and keeps the waiting message.
The pulse is paired with the waiting message that has not lapsed, and the declared fields follow. A deferred edge is
measured once its boundary has been made, and discarded when that boundary is no longer the most recent (the model's choice,
log 38). A line clock edge is measured when the RM waits for one, its offset taken unreduced (log 16), one at the
very instant of the boundary among them (the model's choice, log 52). Local time has come to the instant of the edge (its
law: log 3). Before the first boundary an edge is measured against the end of the reset (the model's choice, log 5). -/
def Obligations.EdgeOutcomes : Prop :=
  (∀ (s : State) (u : Instant), s.advance u = { s with clock :=
    if s.clock.now < u then
      { s.clock with now := u, osc := s.clock.osc + (u - s.clock.now) * (1000000000000 + s.tb.f) }
    else s.clock })
  ∧ (∀ (i : SatId) (edge : Instant) (s : State),
    let t := s.advance edge
    let off := edge - s.clock.boundaryAt
    let b := s.clock.boundaries
    let m := (s.rm.input i).waiting.filter (fun w => decide (w.boundaries < 2))
    let info : EdgeInfo := { declared := m.map SatMessage.seconds, tracking := m.map SatMessage.tracking, quality := 0,
                             depth := 0 }
    let declares := fun d : Declared =>
      match m with
      | some w => { d with message := some true, tracking := some w.tracking, accuracy := some w.accuracy }
      | none => { d with message := some false }
    let u := ({ t with rm := t.rm.setInput i { t.rm.input i with waiting := none } } : State).updEntry i.ref
      (fun e => { e with declared := declares e.declared })
    let here := -500000000000 < off ∧ off ≤ 500000000000
    let there := 500000000000 < off
    let had := (s.entry i.ref).edges
    let kept := had.filter (fun k => decide (b ≤ k))
    ((here ∧ b ∈ had) ∨ (there ∧ b + 1 ∈ had) → exec (.ppsEdge i edge) s = .next t)
    ∧ (here → b ∉ had → exec (.ppsEdge i edge) s
        = .next ((u.updEntry i.ref (fun e => { e with edges := b :: kept })).formSample i.ref (Int.tdiv off 1000) info))
    ∧ (there → b + 1 ∉ had → exec (.ppsEdge i edge) s
        = .next (u.updEntry i.ref (fun e => { e with
            edges := (b + 1) :: kept, waiting := some { instant := edge, boundary := b + 1, info := info } })))
    ∧ (off ≤ -500000000000 → exec (.ppsEdge i edge) s = .next u))
  ∧ (∀ (r : RefId) (s : State),
    let t := s.updEntry r (fun e => { e with waiting := none })
    ((s.entry r).waiting = none → exec (.deferredEdgeSample r) s = .next s)
    ∧ (∀ w, (s.entry r).waiting = some w →
        (s.clock.boundaries < w.boundary → exec (.deferredEdgeSample r) s = .next s)
        ∧ (w.boundary = s.clock.boundaries → exec (.deferredEdgeSample r) s
            = .next (t.formSample r (Int.tdiv (w.instant - s.clock.boundaryAt) 1000) w.info))
        ∧ (w.boundary < s.clock.boundaries → exec (.deferredEdgeSample r) s = .next t)))
  ∧ (∀ (i : LineId) (edge : Instant) (s : State),
    let t := s.advance edge
    let waits := (s.rm.line i).edgeWait = true ∧ s.clock.boundaryAt ≤ edge
    (waits → exec (.lineClockEdge i edge) s
        = .next (({ t with rm := t.rm.setLine i { t.rm.line i with edgeWait := false } } : State).formSample i.ref
            ((edge - s.clock.boundaryAt) / 1000) { declared := none, tracking := none, quality := 0, depth := 0 }))
    ∧ (¬ waits → exec (.lineClockEdge i edge) s = .next t))

/-- The verdict of a sample is that of the first failing test of its kind, and ACCEPTABLE where none fails; it is given
against the timebase record and the entry as they stand when the sample is formed. -/
def Obligations.SampleVerdicts : Prop :=
  (∀ (tb : Timebase) (e : RefEntry) (info : EdgeInfo),
    let timely := tb.timeValid = false ∨ info.declared = some tb.seconds
    (∀ r, r = .satA ∨ r = .satB →
      (info.tracking ≠ some true → verdictOf r tb e info = .declared)
      ∧ (info.tracking = some true → ¬ timely → verdictOf r tb e info = .time)
      ∧ (info.tracking = some true → timely → verdictOf r tb e info = .acceptable))
    ∧ (∀ r, r = .lineA ∨ r = .lineB →
      (e.declared.level = none → verdictOf r tb e info = .declared)
      ∧ (∀ l, e.declared.level = some l → e.settings.acceptLevel < l → verdictOf r tb e info = .declared)
      ∧ (∀ l, e.declared.level = some l → l ≤ e.settings.acceptLevel → verdictOf r tb e info = .acceptable))
    ∧ (e.settings.acceptLevel < info.quality → verdictOf .parent tb e info = .declared)
    ∧ (info.quality ≤ e.settings.acceptLevel → e.settings.maxDepth ≤ info.depth → verdictOf .parent tb e info = .chain)
    ∧ (info.quality ≤ e.settings.acceptLevel → info.depth < e.settings.maxDepth →
        verdictOf .parent tb e info = .acceptable))
  ∧ (∀ (s : State) (r : RefId) (value : Int) (info : EdgeInfo),
    (s.formed r value info).verdict = verdictOf r s.tb (s.entry r) info)

/-- What becomes of a sample: the difference with the steps taken out; an outlier kept out of window, base and timebase; an
ACCEPTABLE sample made the last sample and offered; ABSENT left, and DISQUALIFIED entered for a failed verdict or the third
outlier; and the selector acting in the same act when the entry moves into or out of QUALIFIED. The outlier run is one more
for an outlier, 0 for any other sample and on the entry into DISQUALIFIED, and stays at 3 in an entry already DISQUALIFIED
(log 36). The first sample of an ABSENT entry is no outlier (log 37). The sample is noted for the epoch that its measuring
boundary begins, and one formed ahead of that boundary's accounting is noted, and its difference summed, apart (log 30). -/
def Obligations.SampleDisposal : Prop :=
  (∀ (r : RefId) (sample base steps : Int),
    (r.isPhase = true → difference r sample base steps = sample - base + steps)
    ∧ (r.isPhase = false → ∃ w k : Int, w = 32 * (sample - base + steps) + 15625 * k ∧ -7812 ≤ w ∧ w ≤ 7812
        ∧ difference r sample base steps = Int.tdiv w 32))
  ∧ (∀ (r : RefId) (value : Int) (info : EdgeInfo) (s : State),
    let e := s.entry r
    let v := verdictOf r s.tb e info
    let out := s.tb.state = .locked ∧ s.tb.selected = some r ∧ e.settings.gateWidth < value.natAbs ∧ e.state ≠ .absent
    let third := out ∧ 2 ≤ e.outlierRun
    let ahead := s.rm.accounted < s.clock.boundaries
    let noted : SampleRec := { verdict := v, outlier := decide out }
    let t := s.formSample r value info
    let a := t.entry r
    (∀ q, q ≠ r → t.entry q = s.entry q) ∧ t.tb = s.tb ∧ t.clock = s.clock ∧ t.published = s.published
    ∧ t.older = s.older ∧ t.stu = s.stu ∧ t.links = s.links ∧ t.atu = s.atu ∧ t.port = s.port ∧ t.pending = s.pending
    ∧ t.rm.inputA = s.rm.inputA ∧ t.rm.inputB = s.rm.inputB ∧ t.rm.clockA = s.rm.clockA ∧ t.rm.clockB = s.rm.clockB
    ∧ t.rm.parentPresent = s.rm.parentPresent ∧ t.rm.accounted = s.rm.accounted
    ∧ a.settings = e.settings ∧ a.declared = e.declared ∧ a.wf = e.wf ∧ a.q = e.q ∧ a.worstQ = e.worstQ
    ∧ a.lostLatch = e.lostLatch ∧ a.edges = e.edges ∧ a.waiting = e.waiting ∧ a.recentParentU = e.recentParentU
    ∧ a.windowRestart = e.windowRestart ∧ a.epochAcceptable = e.epochAcceptable
    ∧ (ahead → a.nextEpoch = some noted ∧ a.thisEpoch = e.thisEpoch)
    ∧ (¬ ahead → a.thisEpoch = some noted ∧ a.nextEpoch = e.nextEpoch)
    ∧ (out ∨ e.base = none → a.windowSum = e.windowSum ∧ a.windowCount = e.windowCount ∧ a.aheadSum = e.aheadSum
        ∧ a.aheadCount = e.aheadCount)
    ∧ (out → a.base = e.base ∧ a.stepsSince = e.stepsSince)
    ∧ (¬ out → a.base = some { value := value, boundary := s.clock.boundaries } ∧ a.stepsSince = 0)
    ∧ (∀ b n, ¬ out → e.base = some b → e.windowEpochs = some n → e.state ≠ .absent →
        let d := (difference r value b.value e.stepsSince).natAbs
        (¬ ahead → a.windowSum = min (e.windowSum + min (d * d) 4294967295) 4294967295
          ∧ a.windowCount = min (e.windowCount + 1) 64 ∧ a.aheadSum = e.aheadSum ∧ a.aheadCount = e.aheadCount)
        ∧ (ahead → a.aheadSum = min (e.aheadSum + min (d * d) 4294967295) 4294967295
          ∧ a.aheadCount = min (e.aheadCount + 1) 64 ∧ a.windowSum = e.windowSum ∧ a.windowCount = e.windowCount))
    ∧ (out ∨ v ≠ .acceptable →
        a.lastSample = e.lastSample ∧ a.lastDeclared = e.lastDeclared ∧ a.lastAge = e.lastAge ∧ a.ageRuns = e.ageRuns
        ∧ a.offer = e.offer)
    ∧ (¬ out → v = .acceptable →
        a.lastSample = some value ∧ a.lastAge = 0 ∧ a.ageRuns = true
        ∧ a.lastDeclared = (if r.isPhase then info.declared else none)
        ∧ (r.isPhase = true → a.offer = some value)
        ∧ (∀ b, r.isPhase = false → e.base = some b → a.offer = some (difference r value b.value e.stepsSince))
        ∧ (r.isPhase = false → e.base = none → a.offer = e.offer))
    ∧ (e.state = .absent → a.qualify = 0 ∧ a.missRun = 0 ∧ a.windowEpochs = some 0 ∧ (a.windowAhead = true ↔ ahead))
    ∧ (e.state ≠ .absent → a.qualify = e.qualify ∧ a.missRun = e.missRun ∧ a.windowEpochs = e.windowEpochs
        ∧ a.windowAhead = e.windowAhead)
    ∧ (e.state = .absent → v = .acceptable → a.state = .qualifying ∧ a.cause = none)
    ∧ (e.state ≠ .absent → v = .acceptable → ¬ third → a.state = e.state ∧ a.cause = e.cause)
    ∧ (v = .declared → ¬ third → a.state = .disqualified ∧ a.cause = some .declared)
    ∧ (v = .chain → ¬ third → a.state = .disqualified ∧ a.cause = some .chain)
    ∧ (v = .time → ¬ third → a.state = .disqualified ∧ a.cause = some .time)
    ∧ (third → a.state = .disqualified ∧ a.cause = some .outlier)
    ∧ (¬ out → a.outlierRun = 0)
    ∧ (out → ¬ third → v = .acceptable ∨ e.state = .disqualified → a.outlierRun = e.outlierRun + 1)
    ∧ (out → v ≠ .acceptable → e.state ≠ .disqualified → a.outlierRun = 0)
    ∧ (third → e.state ≠ .disqualified → a.outlierRun = 0)
    ∧ (third → e.state = .disqualified → a.outlierRun = 3)
    ∧ ((e.state = .qualified ↔ a.state = .qualified) → t.sel = s.sel)
    ∧ (¬ (e.state = .qualified ↔ a.state = .qualified) → t.sel = (s.updEntry r (fun _ => a)).selReact.sel))

/-- The quality index at a window end: 0 with fewer than half of W differences; else the plain level where it is not above
q; else the largest level above q, up to the plain level, whose threshold the figure clears by the hysteresis margin, and q
where there is none. -/
def Obligations.QualityIndexUpdate : Prop :=
  (∀ (set : RefSettings) (count wf q : Nat),
    let level := (set.thresholds.filter (fun t => decide (wf ≤ t))).length
    let clears := fun k : Nat => wf ≤ (set.thresholds[k - 1]?).getD 0 * (8 - set.hysteresis) / 8
    let n := newQuality set count wf q
    (count < set.window / 2 → n = 0)
    ∧ (set.window / 2 ≤ count → level ≤ q → n = level)
    ∧ (set.window / 2 ≤ count → q < level → (∀ k, q < k → k ≤ level → ¬ clears k) → n = q)
    ∧ (∀ k, set.window / 2 ≤ count → q < k → k ≤ level → clears k → (∀ j, k < j → j ≤ level → ¬ clears j) → n = k))
  ∧ (∀ (r : RefId) (s : State) (n : Nat), (s.entry r).windowEpochs = some n → (s.entry r).settings.window ≤ n →
      (s.entry r).windowRestart = false →
      ∃ t : State, exec (.windowEnd r) s = .next t
        ∧ (t.entry r).q = newQuality (s.entry r).settings (s.entry r).windowCount (t.entry r).wf (s.entry r).q)

/-- A window end: WF, the index, worst q, a new window, and the window report by the entry's state. WINDOW_END does this
when the window epochs stand at W and no restart is asked for, and else changes nothing (log 2). Differences formed ahead
of the accounting start the new window (log 30). Every other field of the entry, of the RM and of the part stays. -/
def Obligations.WindowEndOutcome : Prop :=
  ∀ (r : RefId) (s : State),
    let e := s.entry r
    let ends := ∃ n, e.windowEpochs = some n ∧ e.settings.window ≤ n ∧ e.windowRestart = false
    (¬ ends → exec (.windowEnd r) s = .next s)
    ∧ (ends → ∃ t : State, exec (.windowEnd r) s = .next t
        ∧ (∀ q, q ≠ r → t.entry q = s.entry q) ∧ t.tb = s.tb ∧ t.clock = s.clock ∧ t.stu = s.stu ∧ t.links = s.links
        ∧ t.atu = s.atu ∧ t.port = s.port ∧ t.pending = s.pending ∧ t.published = s.published ∧ t.older = s.older
        ∧ t.rm.inputA = s.rm.inputA ∧ t.rm.inputB = s.rm.inputB ∧ t.rm.clockA = s.rm.clockA ∧ t.rm.clockB = s.rm.clockB
        ∧ t.rm.parentPresent = s.rm.parentPresent ∧ t.rm.accounted = s.rm.accounted
        ∧ (let a := t.entry r
          a = { e with state := a.state, cause := a.cause, qualify := a.qualify, wf := a.wf, q := a.q, worstQ := a.worstQ,
                       windowSum := e.aheadSum, windowCount := e.aheadCount, aheadSum := 0, aheadCount := 0,
                       windowEpochs := some 0, windowAhead := false, windowRestart := false, outlierRun := a.outlierRun }
          ∧ (e.state = .qualifying ∨ e.state = .qualified → a.q < e.settings.floor → a.outlierRun = 0)
          ∧ (e.state = .absent ∨ e.state = .disqualified ∨ e.settings.floor ≤ a.q → a.outlierRun = e.outlierRun)
          ∧ a.thisEpoch = e.thisEpoch ∧ a.nextEpoch = e.nextEpoch ∧ a.offer = e.offer
          ∧ a.edges = e.edges ∧ a.waiting = e.waiting
          ∧ (e.windowCount = 0 → a.wf = e.wf) ∧ (0 < e.windowCount → a.wf = e.windowSum / e.windowCount)
          ∧ a.worstQ = min e.worstQ a.q
          ∧ a.windowEpochs = some 0 ∧ a.windowSum = e.aheadSum ∧ a.windowCount = e.aheadCount
          ∧ a.base = e.base ∧ a.lastSample = e.lastSample ∧ a.declared = e.declared ∧ a.settings = e.settings
          ∧ a.missRun = e.missRun ∧ a.lostLatch = e.lostLatch
          ∧ (e.state = .absent → a.state = .absent ∧ a.cause = e.cause ∧ a.qualify = e.qualify)
          ∧ (e.state ≠ .absent → a.q < e.settings.floor →
              a.state = .disqualified ∧ a.cause = some .quality ∧ a.qualify = e.qualify)
          ∧ (e.state = .qualifying ∨ e.state = .qualified → e.settings.floor ≤ a.q →
              a.state = e.state ∧ a.cause = e.cause ∧ a.qualify = e.qualify)
          ∧ (e.state = .disqualified → e.settings.floor ≤ a.q → e.epochAcceptable = true →
              a.state = .qualifying ∧ a.cause = none ∧ a.qualify = 0)
          ∧ (e.state = .disqualified → e.settings.floor ≤ a.q → e.epochAcceptable = false →
              a.state = .disqualified ∧ a.cause = e.cause ∧ a.qualify = e.qualify)
          ∧ ((e.state = .qualified ↔ a.state = .qualified) → t.sel = s.sel)
          ∧ (¬ (e.state = .qualified ↔ a.state = .qualified) → t.sel = (s.updEntry r (fun _ => a)).selReact.sel)))

/-- The epoch accounting of every entry: misses and ABSENT at the third; the epoch report to a QUALIFYING entry; and the
window, which goes on, starts again at a restart asked for, or ends at W with the report of that end coming after the epoch
report: the qualify counter is that of the epoch report, but for 0 on the return from DISQUALIFIED. An ABSENT entry keeps its
miss run. Each change into or out of QUALIFIED reaches the selector in its own act, the entries in turn and the epoch
report's before the window report's; that the turns go by index is the model's choice (log 49). What was formed ahead of the
accounting belongs to the epoch that the boundary begins (log 30). -/
def Obligations.EpochAccounting : Prop :=
  ∀ s : State, ∃ t : State, exec .rmEpochAccounting s = .next t
    ∧ t.rm.accounted = s.clock.boundaries ∧ t.tb = s.tb ∧ t.clock = s.clock ∧ t.published = s.published
    ∧ t.older = s.older ∧ t.stu = s.stu ∧ t.links = s.links ∧ t.atu = s.atu ∧ t.port = s.port ∧ t.pending = s.pending
    ∧ t.rm.inputA = s.rm.inputA ∧ t.rm.inputB = s.rm.inputB ∧ t.rm.clockA = s.rm.clockA ∧ t.rm.clockB = s.rm.clockB
    ∧ t.rm.parentPresent = s.rm.parentPresent
    ∧ (let reported := fun r : RefId =>
        let e := s.entry r
        let good := e.thisEpoch.any (fun rec => rec.verdict == .acceptable && !rec.outlier) = true ∧ e.settings.floor ≤ e.q
        if e.state ≠ .absent ∧ e.thisEpoch = none ∧ 2 ≤ e.missRun then RefState.absent
        else if e.state = .qualifying ∧ good ∧ e.settings.qualifyPeriod ≤ min (e.qualify + 1) 255 then .qualified
        else e.state
      let change := fun (u : State) (r : RefId) (st : RefState) =>
        let v := u.updEntry r (fun e => { e with state := st })
        if ((u.entry r).state = .qualified ↔ st = .qualified) then v else v.selReact
      t.sel = ([RefId.satA, .satB, .parent, .lineA, .lineB].foldl
        (fun u r => change (change u r (reported r)) r (t.entry r).state) s).sel)
    ∧ ∀ r,
      let e := s.entry r
      let a := t.entry r
      let lost := e.state ≠ .absent ∧ e.thisEpoch = none ∧ 2 ≤ e.missRun
      let good := ∃ rec : SampleRec, e.thisEpoch = some rec ∧ rec.verdict = .acceptable ∧ rec.outlier = false
        ∧ e.settings.floor ≤ e.q
      let acceptable := ∃ rec : SampleRec, e.thisEpoch = some rec ∧ rec.verdict = .acceptable
      let counts := e.state = .qualifying ∧ good
      let goesOn := ∃ n, e.windowEpochs = some n ∧ e.windowRestart = false
        ∧ (if e.windowAhead then n else n + 1) < e.settings.window
      let ends := ∃ n, e.windowEpochs = some n ∧ e.windowRestart = false
        ∧ e.settings.window ≤ (if e.windowAhead then n else n + 1)
      let wf := if e.windowCount = 0 then e.wf else e.windowSum / e.windowCount
      let q := newQuality e.settings e.windowCount wf e.q
      a.settings = e.settings ∧ a.thisEpoch = e.nextEpoch ∧ a.nextEpoch = none ∧ a.offer = e.offer ∧ a.edges = e.edges
      ∧ a.waiting = e.waiting ∧ a.lastAge = e.lastAge ∧ a.ageRuns = e.ageRuns
      ∧ (e.state = .absent → a.state = .absent ∧ a.missRun = e.missRun ∧ a.qualify = e.qualify
          ∧ a.lostLatch = e.lostLatch)
      ∧ (lost → a.state = .absent ∧ a.cause = none ∧ a.qualify = 0 ∧ a.missRun = 3 ∧ a.lostLatch = true
          ∧ a.lastSample = none ∧ a.lastDeclared = none ∧ a.base = none ∧ a.windowEpochs = none ∧ a.windowSum = 0
          ∧ a.windowCount = 0 ∧ a.wf = e.wf ∧ a.q = 0 ∧ a.worstQ = 0 ∧ a.outlierRun = 0
          ∧ a.declared = (if r = .parent then Declared.absent else e.declared))
      ∧ (e.state ≠ .absent → ¬ lost →
          a.lastSample = e.lastSample ∧ a.base = e.base ∧ a.declared = e.declared ∧ a.lostLatch = e.lostLatch
          ∧ (e.thisEpoch.isSome = true → a.missRun = 0) ∧ (e.thisEpoch = none → a.missRun = e.missRun + 1)
          ∧ a = { e with state := a.state, cause := a.cause, qualify := a.qualify, missRun := a.missRun, wf := a.wf, q := a.q,
                         worstQ := a.worstQ, windowSum := a.windowSum, windowCount := a.windowCount,
                         aheadSum := a.aheadSum, aheadCount := a.aheadCount, windowEpochs := a.windowEpochs,
                         windowAhead := a.windowAhead, windowRestart := a.windowRestart, outlierRun := a.outlierRun,
                         thisEpoch := a.thisEpoch, nextEpoch := a.nextEpoch, epochAcceptable := a.epochAcceptable }
          ∧ (e.windowEpochs.isSome = true →
              a.aheadSum = 0 ∧ a.aheadCount = 0 ∧ a.windowAhead = false ∧ a.windowRestart = false)
          ∧ (a.epochAcceptable = true ↔ acceptable)
          ∧ (ends → q < e.settings.floor → e.state ≠ .disqualified → a.outlierRun = 0)
          ∧ (¬ (ends ∧ q < e.settings.floor ∧ e.state ≠ .disqualified) → a.outlierRun = e.outlierRun)
          ∧ (goesOn →
              a.wf = e.wf ∧ a.q = e.q ∧ a.worstQ = e.worstQ ∧ a.cause = e.cause
              ∧ a.windowEpochs = e.windowEpochs.map (fun n => if e.windowAhead then n else n + 1)
              ∧ a.windowSum = min (e.windowSum + e.aheadSum) 4294967295
              ∧ a.windowCount = min (e.windowCount + e.aheadCount) 64)
          ∧ (e.windowRestart = true → e.windowEpochs.isSome = true →
              a.wf = e.wf ∧ a.q = e.q ∧ a.worstQ = e.worstQ ∧ a.cause = e.cause ∧ a.windowEpochs = some 0
              ∧ a.windowSum = e.aheadSum ∧ a.windowCount = e.aheadCount)
          ∧ (¬ ends →
              (counts → a.qualify = min (e.qualify + 1) 255
                ∧ a.state = if e.settings.qualifyPeriod ≤ min (e.qualify + 1) 255 then .qualified else .qualifying)
              ∧ (e.state = .qualifying → e.thisEpoch = none → a.qualify = 0 ∧ a.state = .qualifying)
              ∧ (e.state = .qualifying → e.thisEpoch.isSome = true → ¬ good →
                  a.qualify = e.qualify ∧ a.state = .qualifying)
              ∧ (e.state ≠ .qualifying → a.qualify = e.qualify ∧ a.state = e.state))
          ∧ (ends →
              a.wf = wf ∧ a.q = q ∧ a.worstQ = min e.worstQ q ∧ a.windowEpochs = some 0 ∧ a.windowSum = e.aheadSum
              ∧ a.windowCount = e.aheadCount
              ∧ (q < e.settings.floor → a.state = .disqualified ∧ a.cause = some .quality)
              ∧ (e.settings.floor ≤ q → counts →
                  a.state = if e.settings.qualifyPeriod ≤ min (e.qualify + 1) 255 then .qualified else .qualifying)
              ∧ (e.settings.floor ≤ q → e.state = .qualifying → ¬ good → a.state = .qualifying)
              ∧ (e.settings.floor ≤ q → e.state = .qualified → a.state = .qualified)
              ∧ (e.settings.floor ≤ q → e.state = .qualifying ∨ e.state = .qualified → a.cause = e.cause)
              ∧ (counts → a.qualify = min (e.qualify + 1) 255)
              ∧ (e.state = .qualifying → e.thisEpoch = none → a.qualify = 0)
              ∧ (e.state = .qualifying → e.thisEpoch.isSome = true → ¬ good → a.qualify = e.qualify)
              ∧ (e.state = .qualified → a.qualify = e.qualify)
              ∧ (e.state = .disqualified → ¬ (e.settings.floor ≤ q ∧ acceptable) → a.qualify = e.qualify)
              ∧ (e.settings.floor ≤ q → e.state = .disqualified → acceptable →
                  a.state = .qualifying ∧ a.qualify = 0 ∧ a.cause = none)
              ∧ (e.settings.floor ≤ q → e.state = .disqualified → ¬ acceptable →
                  a.state = .disqualified ∧ a.cause = e.cause)))

/-- An entry not ABSENT whose miss run stands at 3 becomes ABSENT on REFERENCE_ABSENT, which else changes nothing (log 2).
The reports of the parent and its frames are taken from what the LE has handed over, in its order (log 10): presence set,
presence gone with the PARENT entry ABSENT and its waiting edge dropped (log 15), an entry ABSENT already keeping all but
its declared fields (log 43); frames declared and, with index 0, measured as edges, one for each boundary; a frame is discarded
without presence, and frames before a lost report can be crossed by it. The parent U that the base uncertainty uses outlives
the entry into ABSENT (log 13). -/
def Obligations.AbsenceAndParent : Prop :=
  (∀ (r : RefId) (s : State),
    ((s.entry r).state ≠ .absent ∧ 3 ≤ (s.entry r).missRun →
      exec (.referenceAbsent r) s = .next (s.changeEntry r (RefEntry.enterAbsent r)))
    ∧ (¬ ((s.entry r).state ≠ .absent ∧ 3 ≤ (s.entry r).missRun) → exec (.referenceAbsent r) s = .next s))
  ∧ (∀ (r : RefId) (e : RefEntry), RefEntry.enterAbsent r e = { e with
      state := .absent, cause := none, qualify := 0, missRun := 3, lostLatch := true, lastSample := none,
      lastDeclared := none, base := none, stepsSince := 0, windowSum := 0, windowCount := 0, aheadSum := 0,
      aheadCount := 0, windowEpochs := none, windowAhead := false, windowRestart := false, q := 0, worstQ := 0,
      outlierRun := 0, declared := if r = .parent then Declared.absent else e.declared })
  ∧ (∀ (l : LinkId) (s : State),
    let pop := fun rest : List ParentEvent => s.updLink l (fun k => { k with toRm := rest })
    (∀ rest, (s.link l).toRm = .enrolled :: rest → exec (.parentEnrolledReport l) s
        = .next { pop rest with rm := { s.rm with parentPresent := true } })
    ∧ ((∀ rest, (s.link l).toRm ≠ .enrolled :: rest) → exec (.parentEnrolledReport l) s = .next s)
    ∧ (∀ before after, (∀ x ∈ before, ∃ t f, x = .frame t f) → (s.link l).toRm = before ++ .lost :: after →
        let t := ({ pop (before ++ after) with rm := { s.rm with parentPresent := false } } : State).updEntry .parent
          (fun e => { e with waiting := none })
        ((s.entry .parent).state = .absent →
            exec (.parentLostReport l) s = .next (t.updEntry .parent (fun e => { e with declared := Declared.absent })))
        ∧ ((s.entry .parent).state ≠ .absent →
            exec (.parentLostReport l) s = .next (t.changeEntry .parent (RefEntry.enterAbsent .parent))))
    ∧ ((∀ before after, (∀ x ∈ before, ∃ t f, x = .frame t f) → (s.link l).toRm ≠ before ++ .lost :: after) →
        exec (.parentLostReport l) s = .next s)
    ∧ (∀ at' f rest, (s.link l).toRm = .frame at' f :: rest →
        let edge := at' - f.offset * 1000
        let off := edge - s.clock.boundaryAt
        let b := s.clock.boundaries
        let info : EdgeInfo := { declared := some f.seconds, tracking := none, quality := f.quality, depth := f.depth }
        let t := (pop rest).updEntry .parent (fun e => { e with
          declared := { e.declared with parentQuality := some f.quality, parentDepth := some f.depth,
                                        parentU := some f.senderU },
          recentParentU := some f.senderU })
        let here := -500000000000 < off ∧ off ≤ 500000000000
        let had := (s.entry .parent).edges
        let kept := had.filter (fun k => decide (b ≤ k))
        (s.rm.parentPresent = false → exec (.parentFrameMeasure l) s = .next (pop rest))
        ∧ (s.rm.parentPresent = true → f.index ≠ 0 → exec (.parentFrameMeasure l) s = .next t)
        ∧ (s.rm.parentPresent = true → f.index = 0 →
            (off ≤ -500000000000 ∨ (here ∧ b ∈ had) ∨ (500000000000 < off ∧ b + 1 ∈ had) →
              exec (.parentFrameMeasure l) s = .next t)
            ∧ (here → b ∉ had → exec (.parentFrameMeasure l) s
                = .next ((t.updEntry .parent (fun e => { e with edges := b :: kept })).formSample .parent
                    (Int.tdiv off 1000) info))
            ∧ (500000000000 < off → b + 1 ∉ had → exec (.parentFrameMeasure l) s
                = .next (t.updEntry .parent (fun e => { e with
                    edges := (b + 1) :: kept,
                    waiting := some { instant := edge, boundary := b + 1, info := info } })))))
    ∧ ((∀ at' f rest, (s.link l).toRm ≠ .frame at' f :: rest) → exec (.parentFrameMeasure l) s = .next s))

/-! ### Reference requests -/

/-- REF_LOOKUP: NO_RECORD beyond the table; page 0 with the fields as they stand, and then worst q at q and the lost latch
cleared of an entry not ABSENT; pages 1 and 2 with the settings, changing nothing; a page above 2 out of range. REF_SET:
NO_RECORD beyond the table; RANGE, with nothing changed, for a value out of range, for a setting of another kind of entry,
for thresholds that would not descend, and for an unknown form; else every present setting in one act, the selector acting on
a request that carries enabled, priority, WTR or revertive. A present W asks for a new window. The order of the items, with a
setting that the entry's kind lacks shown as absent, is the model's choice (log 20), and so is the index judged before the
form or the page (log 22). -/
def Obligations.ReferenceRequests : Prop :=
  (∀ (tag index page : Nat) (s : State), s.port.state = .idle →
      (5 ≤ index → exec (.refLookup tag index page) s = .next (s.respond tag .noRecord []))
      ∧ (∀ r, r.index = index →
          let e := s.entry r
          let c := s.sel
          (3 ≤ page → exec (.refLookup tag index page) s = .next (s.respond tag .range []))
          ∧ (page = 0 → exec (.refLookup tag index page) s = .next ((s.updEntry r (fun a => { a with
                worstQ := a.q, lostLatch := if a.state = .absent then a.lostLatch else false })).respond tag .ok
              ([natItem 1 e.state.code, natItem 1 (causeCode e.cause), natItem 1 e.qualify, natItem 1 e.missRun,
                natItem 1 e.outlierRun, .flag e.lostLatch, optInt e.lastSample,
                optNat 6 (e.lastDeclared.map BitVec.toNat), natItem 2 e.lastAge, natItem 4 e.windowSum,
                natItem 1 e.windowCount, optNat 1 e.windowEpochs, natItem 4 e.wf, natItem 1 e.q, natItem 1 e.worstQ]
                ++ (match r with
                  | .satA => [.optFlag e.declared.message, .optFlag e.declared.tracking, optNat 2 e.declared.accuracy]
                  | .satB => [.optFlag e.declared.message, .optFlag e.declared.tracking, optNat 2 e.declared.accuracy]
                  | .parent => [optNat 1 e.declared.parentQuality, optNat 1 e.declared.parentDepth,
                      optNat 4 e.declared.parentU]
                  | .lineA => [optNat 1 e.declared.level]
                  | .lineB => [optNat 1 e.declared.level])
                ++ [natItem 1 (refCode c.selected), natItem 1 (refCode c.forced), natItem 1 (refCode c.wtrCand),
                    natItem 2 c.wtrCount])))
          ∧ (page = 1 → exec (.refLookup tag index page) s = .next (s.respond tag .ok
              [.flag e.settings.enabled, natItem 1 e.settings.priority, natItem 1 e.settings.hysteresis,
                natItem 1 e.settings.window, natItem 1 e.settings.floor, natItem 1 e.settings.qualifyPeriod,
                natItem 4 e.settings.gateWidth,
                optNat 1 (if r = .satA ∨ r = .satB then none else some e.settings.acceptLevel),
                optNat 1 (if r = .parent then some e.settings.maxDepth else none),
                optNat 2 (if r = .satA ∨ r = .satB then some e.settings.baseUncertainty else none),
                optNat 2 (if r = .parent then some e.settings.allowance else none),
                natItem 2 c.wtr, .flag c.revertive]))
          ∧ (page = 2 → exec (.refLookup tag index page) s
              = .next (s.respond tag .ok (e.settings.thresholds.map (natItem 4))))))
  ∧ (∀ (tag index : Nat) (s : State), s.port.state = .idle →
      (∀ body, 5 ≤ index → exec (.refSet tag index body) s = .next (s.respond tag .noRecord []))
      ∧ (∀ r, r.index = index →
        let e := s.entry r
        (∀ form, exec (.refSet tag index (.other form)) s = .next (s.respond tag .range []))
        ∧ (∀ p : RefThresholdReq,
            let asked := [p.t1, p.t2, p.t3, p.t4, p.t5, p.t6, p.t7]
            let stand := List.zipWith (fun v t => v.getD t) asked e.settings.thresholds
            let fit := (∀ v, some v ∈ asked → 1 ≤ v ∧ v ≤ 4294967295) ∧ stand.Pairwise (fun a b => b < a)
            (¬ fit → exec (.refSet tag index (.thresholds p)) s = .next (s.respond tag .range []))
            ∧ (fit → exec (.refSet tag index (.thresholds p)) s = .next ((s.updEntry r (fun a => { a with
                settings := { a.settings with thresholds := stand } })).respond tag .ok [])))
        ∧ (∀ g : RefGeneralReq,
            let fit := (∀ v, g.wtr = some v → v ≤ 1023) ∧ (∀ v, g.priority = some v → 1 ≤ v ∧ v ≤ 15)
              ∧ (∀ v, g.hysteresis = some v → v ≤ 4) ∧ (∀ v, g.window = some v → v = 8 ∨ v = 16 ∨ v = 32 ∨ v = 64)
              ∧ (∀ v, g.floor = some v → v ≤ 7) ∧ (∀ v, g.qualifyPeriod = some v → 4 ≤ v ∧ v ≤ 255)
              ∧ (∀ v, g.gateWidth = some v → 100 ≤ v ∧ v ≤ 100000) ∧ (∀ v, g.acceptLevel = some v → v ≤ 14)
              ∧ (∀ v, g.maxDepth = some v → 1 ≤ v ∧ v ≤ 14) ∧ (∀ v, g.baseUncertainty = some v → 10 ≤ v ∧ v ≤ 10000)
              ∧ (∀ v, g.allowance = some v → v ≤ 10000)
              ∧ (g.acceptLevel.isSome = true → r ≠ .satA ∧ r ≠ .satB) ∧ (g.maxDepth.isSome = true → r = .parent)
              ∧ (g.baseUncertainty.isSome = true → r = .satA ∨ r = .satB) ∧ (g.allowance.isSome = true → r = .parent)
              ∧ e.settings.thresholds.Pairwise (fun a b => b < a)
            let concerns := g.enabled.isSome = true ∨ g.priority.isSome = true ∨ g.wtr.isSome = true
              ∨ g.revertive.isSome = true
            let t := ({ s with sel := { s.sel with wtr := g.wtr.getD s.sel.wtr,
                                                   revertive := g.revertive.getD s.sel.revertive } } : State).updEntry r
              (fun a => { a with
                windowRestart := if g.window.isSome && a.windowEpochs.isSome then true else a.windowRestart,
                settings := { a.settings with
                  enabled := g.enabled.getD a.settings.enabled, priority := g.priority.getD a.settings.priority,
                  hysteresis := g.hysteresis.getD a.settings.hysteresis, window := g.window.getD a.settings.window,
                  floor := g.floor.getD a.settings.floor,
                  qualifyPeriod := g.qualifyPeriod.getD a.settings.qualifyPeriod,
                  gateWidth := g.gateWidth.getD a.settings.gateWidth,
                  acceptLevel := g.acceptLevel.getD a.settings.acceptLevel,
                  maxDepth := g.maxDepth.getD a.settings.maxDepth,
                  baseUncertainty := g.baseUncertainty.getD a.settings.baseUncertainty,
                  allowance := g.allowance.getD a.settings.allowance } })
            (¬ fit → exec (.refSet tag index (.general g)) s = .next (s.respond tag .range []))
            ∧ (fit → ¬ concerns → exec (.refSet tag index (.general g)) s = .next (t.respond tag .ok []))
            ∧ (fit → concerns → exec (.refSet tag index (.general g)) s = .next (t.selReact.respond tag .ok [])))))

/-! ### The selector -/

/-- The best candidate is enabled and QUALIFIED, with the lowest priority number, and of equals the lowest index. What the
selector does after a change: with none selected the best candidate is selected at once; a selected reference that left is
replaced by the best candidate or none, with a force on it ended; under a force or in non-revertive operation nothing better
is looked for; else a better best candidate waits from 0, keeps waiting, or is switched to at once with WTR 0. Every change
of selection is published. A change of an entry reaches the selector in its act when it moves the entry into or out of
QUALIFIED, and only then. -/
def Obligations.SelectorReaction : Prop :=
  (∀ s : State,
      let candidate := fun r => (s.entry r).settings.enabled = true ∧ (s.entry r).state = .qualified
      let number := fun r => (s.entry r).settings.priority
      (s.best = none ↔ ∀ r, ¬ candidate r)
      ∧ (∀ b, s.best = some b ↔
          candidate b ∧ ∀ r, candidate r → number b < number r ∨ (number b = number r ∧ b.index ≤ r.index)))
  ∧ ((∀ s : State,
      let c := s.sel
      let candidate := fun r => (s.entry r).settings.enabled = true ∧ (s.entry r).state = .qualified
      let better := fun b cur => (s.entry b).settings.priority < (s.entry cur).settings.priority
      let idle := fun d : Selector => { d with wtrCand := none, wtrCount := 0, wtrDue := false }
      (c.selected = none → s.best = none → s.selReact = s)
      ∧ (∀ b, c.selected = none → s.best = some b →
          s.selReact = { s with sel := { idle c with selected := some b, toTbu := c.toTbu ++ [some b] } })
      ∧ (∀ cur, c.selected = some cur → ¬ candidate cur →
          s.selReact = { s with sel := { idle c with
            selected := s.best, toTbu := c.toTbu ++ [s.best],
            forced := if c.forced = some cur then none else c.forced } })
      ∧ (∀ cur, c.selected = some cur → candidate cur → c.forced.isSome = true → s.selReact = s)
      ∧ (∀ cur, c.selected = some cur → candidate cur → c.forced = none →
          (c.revertive = false → s.selReact = { s with sel := idle c })
          ∧ (∀ b, c.revertive = true → s.best = some b → ¬ better b cur → s.selReact = { s with sel := idle c })
          ∧ (∀ b, c.revertive = true → s.best = some b → better b cur → c.wtr = 0 →
              s.selReact = { s with sel := { idle c with selected := some b, toTbu := c.toTbu ++ [some b] } })
          ∧ (∀ b, c.revertive = true → s.best = some b → better b cur → c.wtr ≠ 0 → c.wtrCand = some b → s.selReact = s)
          ∧ (∀ b, c.revertive = true → s.best = some b → better b cur → c.wtr ≠ 0 → c.wtrCand ≠ some b →
              s.selReact = { s with sel := { c with wtrCand := some b, wtrCount := 0, wtrDue := false } })))
    ∧ (∀ (s : State) (r : RefId) (f : RefEntry → RefEntry),
      let t := s.updEntry r f
      ((s.entry r).state = .qualified ∧ (f (s.entry r)).state = .qualified → s.changeEntry r f = t)
      ∧ ((s.entry r).state ≠ .qualified ∧ (f (s.entry r)).state ≠ .qualified → s.changeEntry r f = t)
      ∧ ((s.entry r).state = .qualified ∧ (f (s.entry r)).state ≠ .qualified → s.changeEntry r f = t.selReact)
      ∧ ((s.entry r).state ≠ .qualified ∧ (f (s.entry r)).state = .qualified → s.changeEntry r f = t.selReact)))

/-- REF_FORCE: NO_RECORD beyond the table, BAD_STATE for an entry that is no candidate; the reference already forced
changes nothing; else the force is placed, the wait ended, and a reference not selected is selected and published.
REF_RELEASE: without a force nothing; else the force ends, and in revertive operation the search is made. -/
def Obligations.ForceAndRelease : Prop :=
  (∀ (tag index : Nat) (s : State), s.port.state = .idle →
    (5 ≤ index → exec (.refForce tag index) s = .next (s.respond tag .noRecord []))
    ∧ (∀ r, r.index = index →
      let c := s.sel
      let candidate := (s.entry r).settings.enabled = true ∧ (s.entry r).state = .qualified
      (¬ candidate → exec (.refForce tag index) s = .next (s.respond tag .badState []))
      ∧ (candidate → c.forced = some r → exec (.refForce tag index) s = .next (s.respond tag .ok []))
      ∧ (candidate → c.forced ≠ some r → c.selected = some r → exec (.refForce tag index) s
          = .next (({ s with sel := { c with forced := some r, wtrCand := none, wtrCount := 0,
                                             wtrDue := false } } : State).respond tag .ok []))
      ∧ (candidate → c.forced ≠ some r → c.selected ≠ some r → exec (.refForce tag index) s
          = .next (({ s with sel := { c with forced := some r, wtrCand := none, wtrCount := 0, wtrDue := false,
                                             selected := some r, toTbu := c.toTbu ++ [some r] } } : State).respond tag .ok []))))
  ∧ (∀ (tag : Nat) (s : State), s.port.state = .idle → SelectorInv s →
    let t : State := { s with sel := { s.sel with forced := none } }
    (s.sel.forced = none → exec (.refRelease tag) s = .next (s.respond tag .ok []))
    ∧ (s.sel.forced.isSome = true → s.sel.revertive = false → exec (.refRelease tag) s = .next (t.respond tag .ok []))
    ∧ (s.sel.forced.isSome = true → s.sel.revertive = true →
        exec (.refRelease tag) s = .next (t.selReact.respond tag .ok [])))

/-- A boundary counts for the candidate that waits, saturating at 1,023; at or above WTR the selector switches to it and
publishes, once for each increment. WTR_SWITCH judges an increment that has not been judged, and changes nothing otherwise
(log 2). -/
def Obligations.WaitToRestore : Prop :=
  ∀ s : State,
    let c := s.sel
    let switched := fun b => ({ s with sel := { c with selected := some b, wtrCand := none, wtrCount := 0, wtrDue := false,
                                                       toTbu := c.toTbu ++ [some b] } } : State)
    (c.wtrCand = none → exec .selBoundary s = .next s ∧ exec .wtrSwitch s = .next s)
    ∧ (∀ b, c.wtrCand = some b →
      let n := min (c.wtrCount + 1) 1023
      (n < c.wtr → exec .selBoundary s = .next { s with sel := { c with wtrCount := n, wtrDue := false } })
      ∧ (c.wtr ≤ n → exec .selBoundary s = .next (switched b))
      ∧ (c.wtrDue = false → exec .wtrSwitch s = .next s)
      ∧ (c.wtrDue = true → c.wtrCount < c.wtr → exec .wtrSwitch s = .next { s with sel := { c with wtrDue := false } })
      ∧ (c.wtrDue = true → c.wtr ≤ c.wtrCount → exec .wtrSwitch s = .next (switched b)))

/-! ### The site table -/

/-- SITE_CREATE, test by test: RANGE, ROLE, DUPLICATE, CONFLICT, FULL, and else a PROVISIONAL record at the lowest free
handle, its pair in the index, its handle out of the free ones, its drop map entry filled, and nothing else changed. The answer
is the handle, without the site ID (log 50). -/
def Obligations.SiteCreateOutcome : Prop :=
  ∀ (tag siteId link drop : Nat) (s : State), s.port.state = .idle →
    let refused := fun r : Result => exec (.siteCreate tag siteId link drop) s = .next (s.respond tag r [])
    let inRange := siteId ≠ 0 ∧ link ≤ 5 ∧ 1 ≤ drop ∧ drop ≤ 15
    (¬ inRange → refused .range)
    ∧ (∀ l : LinkId, l.index = link → inRange →
      ((s.link l).role ≠ .serve → refused .role)
      ∧ ((s.link l).role = .serve → (s.stu.handleOf siteId).isSome = true → refused .duplicate)
      ∧ ((s.link l).role = .serve → s.stu.handleOf siteId = none → (s.stu.dropEntry l drop).isSome = true →
          refused .conflict)
      ∧ ((s.link l).role = .serve → s.stu.handleOf siteId = none → s.stu.dropEntry l drop = none →
          s.stu.freeHandles = [] → refused .full)
      ∧ (∀ h rest, (s.link l).role = .serve → s.stu.handleOf siteId = none → s.stu.dropEntry l drop = none →
          s.stu.freeHandles = h :: rest → (s.stu.dropMaps.get l).length = 15 →
          ∃ t : State, exec (.siteCreate tag siteId link drop) s = .next (t.respond tag .ok [natItem 1 h])
            ∧ t = { s with stu := t.stu } ∧ t.stu.provisionalTimeout = s.stu.provisionalTimeout
            ∧ (∀ r, r ∈ t.stu.records ↔ r ∈ s.stu.records ∨ r =
                { handle := h, siteId := siteId, link := l, drop := drop, lifecycle := .provisional, cls := none,
                  budget := none, rate := none, slotBase := none, ackMode := none, window := none, groups := 0,
                  protectedFlag := false, squelch := false, autoComp := false, capability := none,
                  expiry := some s.stu.provisionalTimeout,
                  pending := { cls := none, budget := none, rate := none, slotBase := none, ackMode := none,
                               window := none, compensation := none, squelch := none },
                  condition := .none, compensation := 0, exchanges := [], missRun := 0, silence := .none, sent := 0,
                  onTime := 0, late := 0, missed := 0, lastRoundTrip := none, serviceStarted := false,
                  onTimeSince := false, stagedCompAt := none })
            ∧ (∀ p, p ∈ t.stu.index ↔ p ∈ s.stu.index ∨ p = (siteId, h))
            ∧ (∀ k, k ∈ t.stu.freeHandles ↔ k ∈ s.stu.freeHandles ∧ k ≠ h)
            ∧ t.stu.dropEntry l drop = some h
            ∧ (∀ m d, 1 ≤ d → ¬ (m = l ∧ d = drop) → t.stu.dropEntry m d = s.stu.dropEntry m d)))

/-- ENROL_RESULT takes the next result of the link: enrol refused out of SERVE role; a record of the same site ID, link and
drop refreshed; another record of that site ID, or one at that drop, a conflict; no handle free, refused; else a record is
made with the capability the frame declared. -/
def Obligations.EnrolResultOutcome : Prop :=
  ∀ (l : LinkId) (s : State),
    ((s.link l).toStu = [] → exec (.enrolResult l) s = .next s)
    ∧ (∀ e rest, (s.link l).toStu = e :: rest →
      let t := s.updLink l (fun k => { k with toStu := rest })
      let refused := t.updLink l (fun k => { k with enrolRefused := min (k.enrolRefused + 1) 65535 })
      let conflict := t.updLink l (fun k => { k with enrolConflicts := min (k.enrolConflicts + 1) 65535 })
      let known := (s.stu.handleOf e.siteId).bind s.record?
      ((s.link l).role ≠ .serve → exec (.enrolResult l) s = .next refused)
      ∧ (∀ r, (s.link l).role = .serve → known = some r → r.link = l ∧ r.drop = e.drop →
          exec (.enrolResult l) s = .next (t.updRecord r.handle (fun q => { q with
            capability := some e.capability,
            expiry := if q.lifecycle = .provisional then some s.stu.provisionalTimeout else q.expiry })))
      ∧ (∀ r, (s.link l).role = .serve → known = some r → ¬ (r.link = l ∧ r.drop = e.drop) →
          exec (.enrolResult l) s = .next conflict)
      ∧ ((s.link l).role = .serve → known = none → (s.stu.dropEntry l e.drop).isSome = true →
          exec (.enrolResult l) s = .next conflict)
      ∧ ((s.link l).role = .serve → known = none → s.stu.dropEntry l e.drop = none → s.stu.freeHandles = [] →
          exec (.enrolResult l) s = .next refused)
      ∧ (∀ h more, (s.link l).role = .serve → known = none → s.stu.dropEntry l e.drop = none →
          s.stu.freeHandles = h :: more →
          let made := SiteRecord.new h e.siteId l e.drop (some e.capability) s.stu.provisionalTimeout
          exec (.enrolResult l) s = .next { t with stu := t.stu.addRecord made }))

/-- A block of slots placed at an explicit base: ALIGN, REGION, CONFLICT, or the base; at "any": the lowest aligned base
below the effective split whose slots all pass, or NO_SLOTS. The test is FREE for a claim, and for a reservation FREE or
the record's own. A claim makes exactly the block HELD; a reservation releases the earlier one and reserves what of the
block the record does not hold; the swap makes the reserved slots HELD and frees what lies outside the new block. -/
def Obligations.BlockPlacement : Prop :=
  (∀ (l : Link) (test : SlotEntry → Bool) (rate : Nat), 0 < rate → l.slots.length = 256 → l.effectiveSplit ≤ 256 →
    let passes := fun b : Nat => ∀ k, b ≤ k → k < b + rate → test (slotAt l.slots k) = true
    let fits := fun b : Nat => b % rate = 0 ∧ b + rate ≤ l.effectiveSplit ∧ passes b
    (∀ b, b % rate ≠ 0 → l.placeBlock test rate (.explicit b) = .error .align)
    ∧ (∀ b, b % rate = 0 → l.effectiveSplit < b + rate → l.placeBlock test rate (.explicit b) = .error .region)
    ∧ (∀ b, b % rate = 0 → b + rate ≤ l.effectiveSplit → ¬ passes b →
        l.placeBlock test rate (.explicit b) = .error .conflict)
    ∧ (∀ b, fits b → l.placeBlock test rate (.explicit b) = .ok b)
    ∧ (∀ b, fits b → (∀ c, fits c → b ≤ c) → l.placeBlock test rate .any = .ok b)
    ∧ ((∀ b, ¬ fits b) → l.placeBlock test rate .any = .error .noSlots))
  ∧ (∀ l : Link, l.effectiveSplit = (match l.pendingSplit with
      | some p => min l.split p
      | none => l.split))
  ∧ (∀ (h : Nat) (e : SlotEntry), usableBy h e = true ↔ e = .free ∨ e = .held h ∨ e = .reserved h)
  ∧ (∀ (h base rate k : Nat) (slots : List SlotEntry), slots.length = 256 → k < 256 →
    let inside := base ≤ k ∧ k < base + rate
    (inside → slotAt (claimSlots h base rate slots) k = .held h)
    ∧ (¬ inside → slotAt (claimSlots h base rate slots) k = slotAt slots k)
    ∧ (inside → slotAt slots k = .held h → slotAt (reserveSlots h base rate slots) k = .held h)
    ∧ (inside → slotAt slots k ≠ .held h → slotAt (reserveSlots h base rate slots) k = .reserved h)
    ∧ (¬ inside → slotAt slots k = .reserved h → slotAt (reserveSlots h base rate slots) k = .free)
    ∧ (¬ inside → slotAt slots k ≠ .reserved h → slotAt (reserveSlots h base rate slots) k = slotAt slots k)
    ∧ (slotAt slots k = .reserved h → slotAt (swapSlots h base rate slots) k = .held h)
    ∧ (¬ inside → slotAt slots k = .held h → slotAt (swapSlots h base rate slots) k = .free)
    ∧ (inside → slotAt slots k = .held h → slotAt (swapSlots h base rate slots) k = .held h)
    ∧ (slotAt slots k ≠ .held h → slotAt slots k ≠ .reserved h → slotAt (swapSlots h base rate slots) k = slotAt slots k))

/-- SITE_ADMIT, test by test: NO_RECORD, BAD_STATE, RANGE, CAPABILITY, what the claim answers, and else the record ACTIVE
with its values, its exchange fields fresh, and its block HELD; the answer is the base, without the site ID (log 50). -/
def Obligations.SiteAdmitOutcome : Prop :=
  ∀ (tag : Nat) (p : AdmitReq) (s : State), s.port.state = .idle →
    let refused := fun x : Result => exec (.siteAdmit tag p) s = .next (s.respond tag x [])
    (s.record? p.handle = none → refused .noRecord)
    ∧ (∀ r, s.record? p.handle = some r →
      (r.lifecycle ≠ .provisional → refused .badState)
      ∧ (r.lifecycle = .provisional →
        let budgetFits := (p.cls = 0 ∧ p.budget = 0) ∨ (p.cls = 1 ∧ 1000 ≤ p.budget ∧ p.budget ≤ 65535)
          ∨ (p.cls = 2 ∧ 100 ≤ p.budget ∧ p.budget ≤ 1500)
        let fit := budgetFits ∧ (p.rate = 1 ∨ p.rate = 2 ∨ p.rate = 4 ∨ p.rate = 8 ∨ p.rate = 16) ∧ p.window ≤ 7
          ∧ -100000 ≤ p.compensation ∧ p.compensation ≤ 100000 ∧ (p.ackMode = 0 ∨ p.ackMode = 1)
          ∧ (∀ b, p.slotBase = .explicit b → b ≤ 255)
        let capable := ∀ c, r.capability = some c →
          (p.cls = 1 → c.phase = true) ∧ (p.cls = 2 → c.phase = true ∧ c.tight = true) ∧ p.rate ≤ c.highest
        let claim := (s.link r.link).placeBlock (fun e => e == .free) p.rate p.slotBase
        (¬ fit → refused .range)
        ∧ (fit → ¬ capable → refused .capability)
        ∧ (∀ x, fit → capable → claim = .error x → refused x)
        ∧ (∀ b, fit → capable → claim = .ok b → exec (.siteAdmit tag p) s = .next
            (((s.updLink r.link (fun l => { l with slots := claimSlots r.handle b p.rate l.slots })).updRecord r.handle
              (fun q => { q with
                lifecycle := .active, expiry := none, cls := SiteClass.ofCode p.cls, budget := some p.budget,
                rate := some p.rate, slotBase := some b, ackMode := AckMode.ofCode p.ackMode, window := some p.window,
                groups := p.groups, protectedFlag := p.protectedFlag, squelch := p.squelch, autoComp := p.autoComp,
                compensation := p.compensation, exchanges := [], missRun := 0, silence := .none, sent := 0, onTime := 0,
                late := 0, missed := 0, lastRoundTrip := none, serviceStarted := false, onTimeSince := false,
                stagedCompAt := none })).respond tag .ok [natItem 1 b]))))

/-- Lifecycle requests: each NO_RECORD without a record; SITE_SUSPEND and SITE_RESUME by the lifecycle and the protected
flag; SITE_RETIRE refused for a protected record, a removal at once for a PROVISIONAL record or with the now flag, and else
the record RETIRING at the tail of its link's queue, where a record already RETIRING stays. The answers have no payload, and so
no site ID (log 50). -/
def Obligations.SiteLifecycleOutcome : Prop :=
  ∀ (tag h : Nat) (s : State), s.port.state = .idle →
    (s.record? h = none →
      exec (.siteSuspend tag h) s = .next (s.respond tag .noRecord [])
      ∧ exec (.siteResume tag h) s = .next (s.respond tag .noRecord [])
      ∧ ∀ now, exec (.siteRetire tag h now) s = .next (s.respond tag .noRecord []))
    ∧ (∀ r, s.record? h = some r →
      (r.lifecycle ≠ .active → exec (.siteSuspend tag h) s = .next (s.respond tag .badState []))
      ∧ (r.lifecycle = .active → r.protectedFlag = true →
          exec (.siteSuspend tag h) s = .next (s.respond tag .protectedField []))
      ∧ (r.lifecycle = .active → r.protectedFlag = false → exec (.siteSuspend tag h) s = .next
          ((s.updRecord h (fun q => { q with lifecycle := .suspended, exchanges := [], condition := .none })).respond tag
            .ok []))
      ∧ (r.lifecycle ≠ .suspended → exec (.siteResume tag h) s = .next (s.respond tag .badState []))
      ∧ (r.lifecycle = .suspended → exec (.siteResume tag h) s = .next
          ((s.updRecord h (fun q => { q with lifecycle := .active })).respond tag .ok []))
      ∧ (∀ now, r.protectedFlag = true → exec (.siteRetire tag h now) s = .next (s.respond tag .protectedField []))
      ∧ (∀ now, r.protectedFlag = false → r.lifecycle = .provisional ∨ now = true →
          exec (.siteRetire tag h now) s = .next ((s.removeRecord r).respond tag .ok []))
      ∧ (r.protectedFlag = false → r.lifecycle = .retiring →
          exec (.siteRetire tag h false) s = .next (s.respond tag .accepted []))
      ∧ (r.protectedFlag = false → r.lifecycle = .active ∨ r.lifecycle = .suspended →
          exec (.siteRetire tag h false) s = .next
            (((s.updLink r.link (fun l => { l with
                slots := l.slots.map (fun e => if e = .reserved h then .free else e),
                retireQueue := l.retireQueue ++ [h] })).updRecord h (fun q => { q with
                  lifecycle := .retiring, exchanges := [], pending := Pending.empty, condition := .none })).respond tag
              .accepted [])))

/-- A removal, whole: the record out of the table, its pair out of the index, its handle free again, its drop map entry
empty, its slots FREE, its handle out of the queue, and its alarm entries gone with the marks that named them, a mark that
names no entry that goes staying; a notify line that nothing keeps asserted goes off; nothing else changes, and what stays
keeps its order. -/
def Obligations.RemovalOutcome : Prop :=
  ∀ (s : State) (r : SiteRecord), r ∈ s.stu.records → 1 ≤ r.drop → r.drop ≤ (s.stu.dropMaps.get r.link).length →
    let t := s.removeRecord r
    let named := fun e : AlarmEntry => ∃ i, e.source = .site r.handle i
    t = { s with stu := t.stu, links := t.links, atu := t.atu } ∧ t.stu.provisionalTimeout = s.stu.provisionalTimeout
    ∧ (∀ q, q ∈ t.stu.records ↔ q ∈ s.stu.records ∧ q.handle ≠ r.handle)
    ∧ t.stu.records.Sublist s.stu.records
    ∧ (∀ p, p ∈ t.stu.index ↔ p ∈ s.stu.index ∧ p.2 ≠ r.handle)
    ∧ t.stu.index.Sublist s.stu.index
    ∧ (∀ k, k ∈ t.stu.freeHandles ↔ k ∈ s.stu.freeHandles ∨ k = r.handle)
    ∧ s.stu.freeHandles.Sublist t.stu.freeHandles
    ∧ t.stu.dropEntry r.link r.drop = none
    ∧ (∀ l d, 1 ≤ d → ¬ (l = r.link ∧ d = r.drop) → t.stu.dropEntry l d = s.stu.dropEntry l d)
    ∧ (∀ l, l ≠ r.link → t.link l = s.link l)
    ∧ t.link r.link = { s.link r.link with
        slots := (t.link r.link).slots,
        retireQueue := (s.link r.link).retireQueue.filter (fun k => k != r.handle) }
    ∧ (t.link r.link).slots.length = (s.link r.link).slots.length
    ∧ (∀ k, slotAt (t.link r.link).slots k
        = if slotAt (s.link r.link).slots k = .held r.handle ∨ slotAt (s.link r.link).slots k = .reserved r.handle
          then .free else slotAt (s.link r.link).slots k)
    ∧ (∀ e ∈ t.atu.entries, ¬ named e ∧ ∃ f ∈ s.atu.entries, ¬ named f ∧ f.index = e.index ∧ f.serial = e.serial
        ∧ e = { f with root := e.root } ∧ (e.root = f.root ∨ e.root = none)
        ∧ ((∀ g ∈ s.atu.entries, named g → f.root ≠ some g.index) → e.root = f.root))
    ∧ (∀ f ∈ s.atu.entries, ¬ named f → ∃ e ∈ t.atu.entries, e.index = f.index ∧ e.serial = f.serial
        ∧ (f.root = none → e = f)
        ∧ ((∀ g ∈ s.atu.entries, named g → f.root ≠ some g.index) → e = f))
    ∧ (∀ e ∈ t.atu.entries, ∀ k, e.root = some k → ∀ f ∈ s.atu.entries, named f → f.index ≠ k)
    ∧ (t.atu.entries.map AlarmEntry.serial).Sublist (s.atu.entries.map AlarmEntry.serial)
    ∧ (t.atu.asserted = true ↔ s.atu.asserted = true ∧ ∃ e ∈ t.atu.entries, e.qualifies s.atu.threshold = true)
    ∧ t.atu.armed = s.atu.armed ∧ t.atu.threshold = s.atu.threshold ∧ t.atu.nextSerial = s.atu.nextSerial
    ∧ t.atu.lastUnrecorded = s.atu.lastUnrecorded

/-- Lookups change nothing: the record body by handle, by site ID, or by link and drop; RANGE for an unknown form;
NO_RECORD where none is named; SITE_NEXT the record of the lowest site ID above the cursor. SITE_TAKE_COUNTS gives the
record body with the four counts as read, and sets them to 0 in the same act (log 21). The record body is the administrative
fields, the staged values and the exchange fields, in the order of their tables (its items, with no presence
bit for the pending amendment as a whole: log 20). -/
def Obligations.SiteReadsOutcome : Prop :=
  ∀ (tag : Nat) (s : State), s.port.state = .idle →
    let body := fun i (r : Option SiteRecord) => exec i s = .next (match r with
      | some q => s.respond tag .ok q.items
      | none => s.respond tag .noRecord [])
    let classOf := fun c : SiteClass => match c with
      | .freq => 0
      | .phaseStd => 1
      | .phaseTight => 2
    let modeOf := fun m : AckMode => match m with
      | .confirmed => 0
      | .unconfirmed => 1
    let capabilityOf := fun c : Capability => c.phase.toNat + 2 * c.tight.toNat + 4 * Nat.log2 c.highest
    (∀ q : SiteRecord, q.items =
      [natItem 1 q.handle, natItem 4 q.siteId, natItem 1 q.link.index, natItem 1 q.drop,
        natItem 1 (match q.lifecycle with
          | .provisional => 0
          | .active => 1
          | .suspended => 2
          | .retiring => 3),
        optNat 1 (q.cls.map classOf), optNat 2 q.budget, optNat 1 q.rate, optNat 1 q.slotBase, optNat 1 (q.ackMode.map modeOf),
        optNat 1 q.window, natItem 1 q.groups.toNat, .flag q.protectedFlag, .flag q.squelch, .flag q.autoComp,
        optNat 1 (q.capability.map capabilityOf), optNat 1 q.expiry,
        natItem 1 (match q.condition with
          | .none => 0
          | .inService => 1
          | .degraded => 2
          | .unusable => 3),
        optNat 1 (q.pending.cls.map classOf), optNat 2 q.pending.budget, optNat 1 q.pending.rate,
        optNat 1 q.pending.slotBase, optNat 1 (q.pending.ackMode.map modeOf), optNat 1 q.pending.window,
        optInt q.pending.compensation, .optFlag q.pending.squelch,
        intItem q.compensation, natItem 1 q.exchanges.length, natItem 1 q.missRun,
        natItem 1 (match q.silence with
          | .none => 0
          | .short => 1
          | .long => 2),
        natItem 2 q.sent, natItem 2 q.onTime, natItem 2 q.late, natItem 2 q.missed, optNat 4 q.lastRoundTrip,
        .flag q.serviceStarted])
    ∧ (∀ h, body (.siteLookup tag (.byHandle h)) (s.record? h))
    ∧ (∀ i, body (.siteLookup tag (.bySiteId i)) ((s.stu.handleOf i).bind s.record?))
    ∧ (∀ link d, 6 ≤ link ∨ d = 0 → body (.siteLookup tag (.byLinkDrop link d)) none)
    ∧ (∀ (l : LinkId) d, 1 ≤ d → body (.siteLookup tag (.byLinkDrop l.index d)) ((s.stu.dropEntry l d).bind s.record?))
    ∧ (∀ f, exec (.siteLookup tag (.other f)) s = .next (s.respond tag .range []))
    ∧ (∀ cursor, (∀ p ∈ s.stu.index, p.1 ≤ cursor) → body (.siteNext tag cursor) none)
    ∧ (∀ cursor before p after, s.stu.index = before ++ p :: after → (∀ q ∈ before, q.1 ≤ cursor) → cursor < p.1 →
        body (.siteNext tag cursor) (s.record? p.2))
    ∧ (∀ h, s.record? h = none → exec (.siteTakeCounts tag h) s = .next (s.respond tag .noRecord []))
    ∧ (∀ h r, s.record? h = some r → exec (.siteTakeCounts tag h) s = .next
        ((s.updRecord h (fun q => { q with sent := 0, onTime := 0, late := 0, missed := 0 })).respond tag .ok
          r.items))

/-- A boundary of the site table: every PROVISIONAL record's counter goes down by one; each record that reaches 0 is removed,
with all that a removal does, be it one or several: its drop map entry empty, its slots FREE, its handle out of the queue, its
alarm entries gone with the marks that named them, and a notify line that nothing keeps asserted off; no other record is
touched, and nothing else changes. Handles name one record each and drops begin at 1, as the site table's invariant says, and
for the notify line no mark names an entry that goes, as the alarm table's says (marks name roots alone). -/
def Obligations.ProvisionalExpiryOutcome : Prop :=
  ∀ s : State, (s.stu.records.map SiteRecord.handle).Nodup → ∃ t : State, exec .provisionalExpiry s = .next t
    ∧ (let due := fun r : SiteRecord => r.lifecycle = .provisional ∧ (r.expiry = some 0 ∨ r.expiry = some 1)
      (∀ q, q ∈ t.stu.records ↔ ∃ r ∈ s.stu.records, ¬ due r
          ∧ q = if r.lifecycle = .provisional then { r with expiry := r.expiry.map (fun n => n - 1) } else r)
      ∧ (∀ p, p ∈ t.stu.index ↔ p ∈ s.stu.index ∧ ∀ r ∈ s.stu.records, due r → r.handle ≠ p.2)
      ∧ (∀ k, k ∈ t.stu.freeHandles ↔ k ∈ s.stu.freeHandles ∨ ∃ r ∈ s.stu.records, due r ∧ r.handle = k)
      ∧ ((∀ r ∈ s.stu.records, ¬ due r) → t.stu.dropMaps = s.stu.dropMaps ∧ t.links = s.links ∧ t.atu = s.atu)
      ∧ (∀ r, s.stu.records.filter (fun q => decide (q.lifecycle = .provisional
            ∧ (q.expiry = some 0 ∨ q.expiry = some 1))) = [r] →
          t.links = (s.removeRecord r).links ∧ t.atu = (s.removeRecord r).atu)
      ∧ ((∀ r ∈ s.stu.records, 1 ≤ r.drop) → ∀ l d, 1 ≤ d →
          ((∃ r ∈ s.stu.records, due r ∧ r.link = l ∧ r.drop = d) → t.stu.dropEntry l d = none)
          ∧ ((∀ r ∈ s.stu.records, due r → ¬ (r.link = l ∧ r.drop = d)) →
              t.stu.dropEntry l d = s.stu.dropEntry l d))
      ∧ (∀ l, t.link l = { s.link l with slots := (t.link l).slots, retireQueue := (t.link l).retireQueue }
          ∧ (t.link l).slots.length = (s.link l).slots.length
          ∧ (∀ k h, (∃ r ∈ s.stu.records, due r ∧ r.link = l ∧ r.handle = h) →
              slotAt (s.link l).slots k = .held h ∨ slotAt (s.link l).slots k = .reserved h →
              slotAt (t.link l).slots k = .free)
          ∧ (∀ k, (∀ r ∈ s.stu.records, due r → r.link = l →
                slotAt (s.link l).slots k ≠ .held r.handle ∧ slotAt (s.link l).slots k ≠ .reserved r.handle) →
              slotAt (t.link l).slots k = slotAt (s.link l).slots k)
          ∧ (t.link l).retireQueue.Sublist (s.link l).retireQueue
          ∧ (∀ h, h ∈ (t.link l).retireQueue ↔
              h ∈ (s.link l).retireQueue ∧ ∀ r ∈ s.stu.records, due r → r.link = l → r.handle ≠ h))
      ∧ (let named := fun e : AlarmEntry => ∃ r ∈ s.stu.records, due r ∧ ∃ i, e.source = .site r.handle i
        (∀ e ∈ t.atu.entries, ¬ named e ∧ ∃ f ∈ s.atu.entries, ¬ named f ∧ f.index = e.index ∧ f.serial = e.serial
          ∧ e = { f with root := e.root } ∧ (e.root = f.root ∨ e.root = none)
          ∧ ((∀ g ∈ s.atu.entries, named g → f.root ≠ some g.index) → e.root = f.root))
        ∧ (∀ f ∈ s.atu.entries, ¬ named f → ∃ e ∈ t.atu.entries, e.index = f.index ∧ e.serial = f.serial
          ∧ ((∀ g ∈ s.atu.entries, named g → f.root ≠ some g.index) → e = f))
        ∧ (∀ e ∈ t.atu.entries, ∀ k, e.root = some k → ∀ f ∈ s.atu.entries, named f → f.index ≠ k)
        ∧ (t.atu.entries.map AlarmEntry.serial).Sublist (s.atu.entries.map AlarmEntry.serial)
        ∧ ((∃ r ∈ s.stu.records, due r) → (∀ f ∈ s.atu.entries, ∀ g ∈ s.atu.entries, named g → f.root ≠ some g.index) →
          (t.atu.asserted = true ↔ s.atu.asserted = true ∧ ∃ e ∈ t.atu.entries, e.qualifies s.atu.threshold = true)))
      ∧ t.atu = { s.atu with entries := t.atu.entries, asserted := t.atu.asserted }
      ∧ t.stu.provisionalTimeout = s.stu.provisionalTimeout
      ∧ t = { s with stu := t.stu, links := t.links, atu := t.atu })

/-! ### Amendments -/

/-- SITE_AMEND, test by test: NO_RECORD; BAD_STATE for a field the lifecycle does not allow; PROTECTED; RANGE; CAPABILITY;
what the reservation answers; else the immediate fields at once and the staged ones merged into the pending amendment,
field by field, with the reservation's rate and base; ACCEPTED where a staged field was carried, else OK, with the record
body, whose items SiteReadsOutcome lists, as it then stands. -/
def Obligations.SiteAmendOutcome : Prop :=
  ∀ (tag : Nat) (p : AmendReq) (s : State), s.port.state = .idle →
    let refused := fun x : Result => exec (.siteAmend tag p) s = .next (s.respond tag x [])
    let staged := p.cls.isSome = true ∨ p.rate.isSome = true ∨ p.slotBase.isSome = true ∨ p.ackMode.isSome = true
      ∨ p.window.isSome = true ∨ p.compensation.isSome = true ∨ p.squelch.isSome = true
    (s.record? p.handle = none → refused .noRecord)
    ∧ (∀ r, s.record? p.handle = some r →
      let allowed := (r.lifecycle = .provisional → p.budget = none ∧ ¬ staged) ∧ (r.lifecycle = .retiring → ¬ staged)
      let blocked := r.protectedFlag = true ∧ (p.cls.isSome = true ∨ p.rate.isSome = true ∨ p.slotBase.isSome = true
        ∨ p.ackMode.isSome = true ∨ p.squelch.isSome = true)
      let asked := p.cls.bind SiteClass.ofCode
      let standing := (asked.or r.pending.cls).or r.cls
      let rate := ((p.rate.or r.pending.rate).or r.rate).getD 0
      let budgetOf := fun (c : SiteClass) (b : Nat) =>
        (c = .freq ∧ b = 0) ∨ (c = .phaseStd ∧ 1000 ≤ b ∧ b ≤ 65535) ∨ (c = .phaseTight ∧ 100 ≤ b ∧ b ≤ 1500)
      let fit := (∀ v, p.cls = some v → v ≤ 2) ∧ (∀ v, p.ackMode = some v → v ≤ 1)
        ∧ (∀ v, p.rate = some v → v = 1 ∨ v = 2 ∨ v = 4 ∨ v = 8 ∨ v = 16)
        ∧ (∀ b, p.slotBase = some (.explicit b) → b ≤ 255) ∧ (∀ v, p.window = some v → v ≤ 7)
        ∧ (∀ v, p.compensation = some v → -100000 ≤ v ∧ v ≤ 100000)
        ∧ (∀ b, p.budget = some b → ∃ c, standing = some c ∧ budgetOf c b)
        ∧ (∀ c, p.budget = none → asked = some c → budgetOf c ((r.pending.budget.or r.budget).getD 0))
      let capable := p.cls.isSome = true ∨ p.rate.isSome = true → ∀ cap c, r.capability = some cap → standing = some c →
        (c = .phaseStd → cap.phase = true) ∧ (c = .phaseTight → cap.phase = true ∧ cap.tight = true)
        ∧ rate ≤ cap.highest
      let reserves := p.rate.isSome = true ∨ p.slotBase.isSome = true
      let place := (s.link r.link).placeBlock (usableBy r.handle) rate (p.slotBase.getD .any)
      let goesPending := p.cls.isSome = true ∨ r.pending.cls.isSome = true
      let result := if staged ∨ (p.budget.isSome = true ∧ goesPending) then Result.accepted else .ok
      let after := fun (base : Option Nat) (q : SiteRecord) => ({ q with
        groups := p.groups.getD q.groups, protectedFlag := p.protectedFlag.getD q.protectedFlag,
        autoComp := p.autoComp.getD q.autoComp, budget := if goesPending then q.budget else p.budget.or q.budget,
        pending := { cls := asked.or q.pending.cls,
                     budget := if p.cls.isSome = true then p.budget.or (q.pending.budget.or q.budget)
                               else if q.pending.cls.isSome = true then p.budget.or q.pending.budget
                               else q.pending.budget,
                     rate := if base.isSome then some rate else q.pending.rate,
                     slotBase := base.or q.pending.slotBase,
                     ackMode := (p.ackMode.bind AckMode.ofCode).or q.pending.ackMode,
                     window := p.window.or q.pending.window,
                     compensation := p.compensation.or q.pending.compensation,
                     squelch := p.squelch.or q.pending.squelch } } : SiteRecord)
      let answer := fun (t : State) (base : Option Nat) => exec (.siteAmend tag p) s
        = .next ((t.updRecord r.handle (fun _ => after base r)).respond tag result (after base r).items)
      (¬ allowed → refused .badState)
      ∧ (allowed → blocked → refused .protectedField)
      ∧ (allowed → ¬ blocked → ¬ fit → refused .range)
      ∧ (allowed → ¬ blocked → fit → ¬ capable → refused .capability)
      ∧ (allowed → ¬ blocked → fit → capable → (s.stu.records.map SiteRecord.handle).Nodup →
        (¬ reserves → answer s none)
        ∧ (∀ x, reserves → place = .error x → refused x)
        ∧ (∀ b, reserves → place = .ok b →
            answer (s.updLink r.link (fun l => { l with slots := reserveSlots r.handle b rate l.slots })) (some b))))

/-- SITE_AMEND_GROUP: RANGE for the empty mask or a value out of range; OK with two zeros for no field; RANGE with the
lowest handle selected whose values would be out of range; else every selected record changed in one act, with the number
of records that received a field and the number passed over for squelch. -/
def Obligations.GroupAmendOutcome : Prop :=
  ∀ (tag : Nat) (p : AmendGroupReq) (s : State), s.port.state = .idle →
    let run := exec (.siteAmendGroup tag p) s
    let fit := p.mask ≠ 0 ∧ (∀ v, p.window = some v → v ≤ 7) ∧ (∀ v, p.delta = some v → -200000 ≤ v ∧ v ≤ 200000)
    let empty := p.budget = none ∧ p.window = none ∧ p.squelch = none ∧ p.autoComp = none ∧ p.delta = none
    let chosen := fun r : SiteRecord => (r.lifecycle = .active ∨ r.lifecycle = .suspended) ∧ r.groups &&& p.mask ≠ 0
    let budgetOf := fun (c : SiteClass) (b : Nat) =>
      (c = .freq ∧ b = 0) ∨ (c = .phaseStd ∧ 1000 ≤ b ∧ b ≤ 65535) ∨ (c = .phaseTight ∧ 100 ≤ b ∧ b ≤ 1500)
    let moved := fun (r : SiteRecord) (d : Int) => r.pending.compensation.getD r.compensation + d
    let passes := fun r : SiteRecord =>
      (∀ b, p.budget = some b → ∃ c, r.pending.cls.or r.cls = some c ∧ budgetOf c b)
      ∧ (∀ d, p.delta = some d → -100000 ≤ moved r d ∧ moved r d ≤ 100000)
    let after := fun r : SiteRecord => ({ r with
      autoComp := p.autoComp.getD r.autoComp,
      budget := if r.pending.cls.isSome then r.budget else p.budget.or r.budget,
      pending := { r.pending with
        budget := if r.pending.cls.isSome then p.budget.or r.pending.budget else r.pending.budget,
        window := p.window.or r.pending.window,
        compensation := (p.delta.map (moved r)).or r.pending.compensation,
        squelch := if r.protectedFlag then r.pending.squelch else p.squelch.or r.pending.squelch } } : SiteRecord)
    (¬ fit → run = .next (s.respond tag .range []))
    ∧ (fit → empty → run = .next (s.respond tag .ok [natItem 1 0, natItem 1 0]))
    ∧ (∀ before r rest, fit → ¬ empty → s.stu.records = before ++ r :: rest → chosen r → ¬ passes r →
        (∀ q ∈ before, chosen q → passes q) → run = .next (s.respond tag .range [natItem 1 r.handle]))
    ∧ (fit → ¬ empty → (∀ r ∈ s.stu.records, chosen r → passes r) → ∃ (t : State) (received skipped : Nat),
        run = .next (t.respond tag .ok [natItem 1 received, natItem 1 skipped])
        ∧ t = { s with stu := { s.stu with records := t.stu.records } }
        ∧ t.stu.records.length = s.stu.records.length
        ∧ (∀ (k : Nat) (q r : SiteRecord), t.stu.records[k]? = some q → s.stu.records[k]? = some r →
            (chosen r → q = after r) ∧ (¬ chosen r → q = r))
        ∧ (p.squelch = none → skipped = 0)
        ∧ (p.squelch.isSome = true → skipped = (s.stu.records.filter (fun r => r.inGroups p.mask && r.protectedFlag)).length)
        ∧ (p.budget.isSome = true ∨ p.window.isSome = true ∨ p.autoComp.isSome = true ∨ p.delta.isSome = true →
            received = (s.stu.records.filter (SiteRecord.inGroups p.mask)).length)
        ∧ (p.budget = none → p.window = none → p.autoComp = none → p.delta = none →
            received = (s.stu.records.filter (fun r => r.inGroups p.mask && !r.protectedFlag)).length))

/-- At a boundary the pending amendment of every ACTIVE and SUSPENDED record becomes its values and is gone: a staged class
puts the condition to NONE, equal to the current class or not (log 45), UNCONFIRMED discards the open exchanges and the miss
run, a staged rate and base are swapped in, by any number of records of a link, each over its own slots, and a staged
compensation is noted against auto-compensation (log 31), equal to the current one or not (the model's choice, log 53). Other
records keep theirs. -/
def Obligations.AmendmentApplicationOutcome : Prop :=
  ∀ s : State, (s.stu.records.map SiteRecord.handle).Nodup →
    let applies := fun r : SiteRecord => r.lifecycle = .active ∨ r.lifecycle = .suspended
    let after := fun r : SiteRecord =>
      let p := r.pending
      let silent := p.ackMode = some .unconfirmed
      ({ r with
        cls := p.cls.or r.cls, budget := p.budget.or r.budget,
        condition := if p.cls.isSome then .none else r.condition, rate := p.rate.or r.rate,
        slotBase := p.slotBase.or r.slotBase, ackMode := p.ackMode.or r.ackMode, window := p.window.or r.window,
        compensation := p.compensation.getD r.compensation, squelch := p.squelch.getD r.squelch,
        exchanges := if silent then [] else r.exchanges, missRun := if silent then 0 else r.missRun,
        silence := if silent then .none else r.silence,
        stagedCompAt := if p.compensation.isSome then some s.clock.boundaries else r.stagedCompAt,
        pending := Pending.empty } : SiteRecord)
    ∃ t : State, exec .amendmentApplication s = .next t
      ∧ t = { s with links := t.links, stu := { s.stu with records := t.stu.records } }
      ∧ t.stu.records.length = s.stu.records.length
      ∧ (∀ (k : Nat) (q r : SiteRecord), t.stu.records[k]? = some q → s.stu.records[k]? = some r →
          (applies r → q = after r) ∧ (¬ applies r → q = r))
      ∧ (∀ l, t.link l = { s.link l with slots := (t.link l).slots })
      ∧ (∀ l, (∀ r ∈ s.stu.records, r.link = l → applies r → r.pending.rate = none) →
          (t.link l).slots = (s.link l).slots)
      ∧ (∀ l r rate base, s.stu.records.filter (fun q => q.link == l && q.pending.rate.isSome) = [r] → applies r →
          r.pending.rate = some rate → r.pending.slotBase = some base →
          (t.link l).slots = swapSlots r.handle base rate (s.link l).slots)
      ∧ (∀ l, (t.link l).slots.length = (s.link l).slots.length)
      ∧ (let swaps := fun (l : LinkId) (h rate base : Nat) => ∃ r ∈ s.stu.records, r.link = l ∧ applies r ∧ r.handle = h
            ∧ r.pending.rate = some rate ∧ r.pending.slotBase = some base
        ∀ l k, (slotAt (s.link l).slots k = .free → slotAt (t.link l).slots k = .free)
          ∧ (∀ h, slotAt (s.link l).slots k = .reserved h →
              ((∃ rate base, swaps l h rate base) → slotAt (t.link l).slots k = .held h)
              ∧ ((∀ rate base, ¬ swaps l h rate base) → slotAt (t.link l).slots k = .reserved h))
          ∧ (∀ h, slotAt (s.link l).slots k = .held h →
              (∀ rate base, swaps l h rate base →
                slotAt (t.link l).slots k = if base ≤ k ∧ k < base + rate then .held h else .free)
              ∧ ((∀ rate base, ¬ swaps l h rate base) → slotAt (t.link l).slots k = .held h)))

/-- The service evaluation judges every ACTIVE record against the copy held, and no other: a FREQ record is DEGRADED in
FREERUN and IN_SERVICE otherwise. -/
def Obligations.ServiceEvaluationOutcome : Prop :=
  (∀ (older : Bool) (s : State), ∃ t : State, exec (.serviceEvaluation older) s = .next t
    ∧ t = { s with stu := { s.stu with records := t.stu.records } }
    ∧ t.stu.records = s.stu.records.map (fun r => if r.lifecycle = .active then
        { r with condition := judge (if older then s.older else s.published) r r.condition } else r))
  ∧ (∀ (p : Published) (r : SiteRecord) (before : Condition),
    (r.cls = some .freq → p.state = .freerun → judge p r before = .degraded)
    ∧ (r.cls = some .freq → p.state ≠ .freerun → judge p r before = .inService))

/-- The condition of a phase record: UNUSABLE without time valid; else by U, its budget and its previous condition, with the
margin of an eighth of the budget. -/
def Obligations.PhaseConditionRule : Prop :=
  ∀ (p : Published) (r : SiteRecord) (b : Nat) (before : Condition),
    r.cls = some .phaseStd ∨ r.cls = some .phaseTight → r.budget = some b →
    let u := p.uNs
    let m := b / 8
    let c := judge p r before
    (p.timeValid = false → c = .unusable)
    ∧ (p.timeValid = true → before = .none ∨ before = .inService →
        (u ≤ b → c = .inService) ∧ (b < u → u ≤ 2 * b → c = .degraded) ∧ (2 * b < u → c = .unusable))
    ∧ (p.timeValid = true → before = .degraded →
        (u ≤ b - m → c = .inService) ∧ (b - m < u → u ≤ 2 * b → c = .degraded) ∧ (2 * b < u → c = .unusable))
    ∧ (p.timeValid = true → before = .unusable →
        (u ≤ b - m → c = .inService) ∧ (b - m < u → u ≤ 2 * b - m → c = .degraded) ∧ (2 * b - m < u → c = .unusable))

/-! ### Site links: requests and line state -/

/-- What a link and its records go through when the link leaves UP: the frame being received gone with the exchanges held
open for it missed, nothing scheduled left, and in PARENT role and ENROLLED the parent lost and reported. Line sense lost
takes a link DOWN with its latch set; line sense returned takes a DOWN link into TRAINING; a restart takes any link with
line sense there. -/
def Obligations.LineStateOutcome : Prop :=
  (∀ r : SiteRecord,
    let n := (r.exchanges.filter Exchange.held).length
    let run := min (r.missRun + n) 255
    (n = 0 → r.closeHeld = r)
    ∧ (0 < n → r.closeHeld = { r with exchanges := r.exchanges.filter (fun x => !x.held),
                                      missed := min (r.missed + n) 65535, missRun := run,
                                      silence := if run < 3 then .none else if run < 32 then .short else .long }))
  ∧ (∀ (l : LinkId) (s : State),
    let k := s.link l
    let leaves := fun (q : Link) => if q.role = .parent ∧ q.parentState = .enrolled
      then { q with rx := none, dueEnrols := [], dueReplies := [], parentState := .unenrolled, parentSilence := 0,
                    toRm := q.toRm ++ [.lost] }
      else { q with rx := none, dueEnrols := [], dueReplies := [] }
    (k.state = .down → exec (.lineSenseLost l) s = .next (s.updLink l (fun q => { q with sense := false }))
      ∧ exec (.lineSenseReturn l) s
          = .next (s.updLink l (fun q => { q with sense := true, state := .training, trainingCount := 0 })))
    ∧ (k.state = .training → exec (.lineSenseLost l) s = .next (s.updLink l (fun q => { q with
          sense := false, state := .down, downLatch := true, trainingCount := 0 })))
    ∧ (k.state = .up → exec (.lineSenseLost l) s = .next ((s.updLink l (fun q => { leaves q with
          sense := false, state := .down, downLatch := true })).updLinkRecords l SiteRecord.closeHeld))
    ∧ (k.state ≠ .down → exec (.lineSenseReturn l) s = .next (s.updLink l (fun q => { q with sense := true })))
    ∧ (k.sense = false → s.restartLink l = s)
    ∧ (k.sense = true → k.state ≠ .up →
        s.restartLink l = s.updLink l (fun q => { q with state := .training, trainingCount := 0 }))
    ∧ (k.sense = true → k.state = .up →
        s.restartLink l = (s.updLink l (fun q => { leaves q with state := .training, trainingCount := 0 })).updLinkRecords
          l SiteRecord.closeHeld))

/-- The link requests: NO_RECORD beyond the links; ENROL_OPEN by its range and the role; ENROL_CLOSE always; LINK_RESTART;
LINK_LOOKUP with the record and the plan, and on a take the counts at 0 and the latch of an UP link clear; LINK_SET test by
test, with the role left and the new one entered before the line is restarted, and the split pending, or cleared where it is
the current one. -/
def Obligations.LinkRequestsOutcome : Prop :=
  ∀ (tag : Nat) (s : State), s.port.state = .idle →
    (∀ link, 6 ≤ link →
      (∀ n, exec (.enrolOpen tag link n) s = .next (s.respond tag .noRecord []))
      ∧ exec (.enrolClose tag link) s = .next (s.respond tag .noRecord [])
      ∧ exec (.linkRestart tag link) s = .next (s.respond tag .noRecord [])
      ∧ (∀ take, exec (.linkLookup tag link take) s = .next (s.respond tag .noRecord []))
      ∧ (∀ role split, exec (.linkSet tag link role split) s = .next (s.respond tag .noRecord [])))
    ∧ (∀ (l : LinkId) (n : Nat), n = 0 ∨ 255 < n →
        exec (.enrolOpen tag l.index n) s = .next (s.respond tag .range []))
    ∧ (∀ (l : LinkId) (n : Nat), 1 ≤ n → n ≤ 255 → (s.link l).role ≠ .serve →
        exec (.enrolOpen tag l.index n) s = .next (s.respond tag .role []))
    ∧ (∀ (l : LinkId) (n : Nat), 1 ≤ n → n ≤ 255 → (s.link l).role = .serve →
        exec (.enrolOpen tag l.index n) s = .next ((s.updLink l (fun k => { k with window := n })).respond tag .ok []))
    ∧ (∀ l : LinkId,
        exec (.enrolClose tag l.index) s = .next ((s.updLink l (fun k => { k with window := 0 })).respond tag .ok [])
        ∧ exec (.linkRestart tag l.index) s = .next ((s.restartLink l).respond tag .ok []))
    ∧ (∀ (l : LinkId) (take : Bool),
        let k := s.link l
        let below := fun test : SlotEntry → Bool => ((k.slots.take k.split).filter test).length
        let taken := s.updLink l (fun q => { q with
          enrolConflicts := 0, enrolRefused := 0, badFrames := 0, strayReplies := 0,
          downLatch := if q.state = .up then false else q.downLatch })
        exec (.linkLookup tag l.index take) s = .next ((if take then taken else s).respond tag .ok
          ([natItem 1 k.role.code, natItem 1 k.state.code, natItem 1 k.trainingCount, .flag k.downLatch,
            natItem 1 k.window, natItem 2 k.enrolConflicts, natItem 2 k.enrolRefused, natItem 2 k.badFrames,
            natItem 2 k.strayReplies, natItem 1 k.parentState.code, optNat 1 k.ownDrop, natItem 1 k.parentSilence,
            natItem 1 k.split, optNat 1 k.pendingSplit, natItem 1 (below (fun e => e == .free)),
            natItem 1 (below SlotEntry.isHeld), natItem 1 (below SlotEntry.isReserved), natItem 1 k.retireQueue.length]
            ++ k.retireQueue.map (natItem 1))))
    ∧ (∀ (l : LinkId) (role split : Option Nat),
        let k := s.link l
        let refused := fun x : Result => exec (.linkSet tag l.index role split) s = .next (s.respond tag x [])
        let fit := (∀ v, role = some v → v ≤ 2) ∧ (∀ v, split = some v →
          v = 128 ∨ v = 144 ∨ v = 160 ∨ v = 176 ∨ v = 192 ∨ v = 208 ∨ v = 224 ∨ v = 240)
        let held := ∃ d h : Nat, 1 ≤ d ∧ s.stu.dropEntry l d = some h
        let allowed := (role = some 1 → ¬ held ∧ ∀ m, m ≠ l → (s.link m).role ≠ .parent) ∧ (role = some 2 → ¬ held)
        let clear := ∀ v, split = some v → ∀ j, v ≤ j → slotAt k.slots j = .free
        let base := fun q : Link =>
          match q.role with
          | .serve => { q with window := 0 }
          | .parent => { q with parentState := .unenrolled, toRm := q.toRm ++ [.lost], ownDrop := none, parentSilence := 0 }
          | .off => q
        let entered := fun (n : LinkRole) (q : Link) =>
          match n with
          | .parent => { q with role := .parent, parentState := .unenrolled, ownDrop := some s.port.parentDrop,
                                parentSilence := 0 }
          | .serve => { q with role := .serve }
          | .off => { q with role := .off }
        let roleDone :=
          match role.bind LinkRole.ofCode with
          | some n => if n = k.role then s else (s.updLink l (fun q => entered n (base q))).restartLink l
          | none => s
        (¬ fit → refused .range)
        ∧ (fit → ¬ allowed → refused .role)
        ∧ (fit → allowed → ¬ clear → refused .conflict)
        ∧ (fit → allowed → clear → split = none →
            exec (.linkSet tag l.index role split) s = .next (roleDone.respond tag .ok []))
        ∧ (fit → allowed → clear → split = some k.split → exec (.linkSet tag l.index role split) s
            = .next ((roleDone.updLink l (fun q => { q with pendingSplit := none })).respond tag .ok []))
        ∧ (∀ v, fit → allowed → clear → split = some v → v ≠ k.split → exec (.linkSet tag l.index role split) s
            = .next ((roleDone.updLink l (fun q => { q with pendingSplit := some v })).respond tag .accepted [])))

/-- A boundary that an LE takes: the pending split applied, the enrolment window one less, training counted and UP at 2 with
frames taken from the boundary on (log 44), an enrolled parent's silence counted and the parent lost at 8; each record of the
link adjusted by its last round trip where auto-compensation asks for it (log 31; none where a staged one is applied, be it
equal to the current: log 53), and an admitted record's service started (log 41). The three threshold rows do their part
where the threshold stands, and nothing else (log 2); a window counted down to 0 is closed already, so that
ENROL_WINDOW_EXPIRY leaves an open window open and a closed one closed. -/
def Obligations.LinkBoundaryOutcome : Prop :=
  ∀ (l : LinkId) (s : State),
    let k := s.link l
    (∃ t : State, exec (.linkEpochBoundary l) s = .next t
      ∧ t = { s with links := t.links, stu := { s.stu with records := t.stu.records } }
      ∧ (∀ m, m ≠ l → t.link m = s.link m)
      ∧ (let n := min (k.trainingCount + 1) 2
        let trained := { k with split := k.pendingSplit.getD k.split, pendingSplit := none, window := k.window - 1,
                                trainingCount := if k.state = .training then n else k.trainingCount,
                                state := if k.state = .training ∧ 2 ≤ n then .up else k.state,
                                hearsFrom := if k.state = .training ∧ 2 ≤ n then s.clock.boundaryAt else k.hearsFrom }
        let silence := min (k.parentSilence + 1) 8
        (¬ (k.role = .parent ∧ k.parentState = .enrolled) → t.link l = trained)
        ∧ (k.role = .parent ∧ k.parentState = .enrolled → silence < 8 →
            t.link l = { trained with parentSilence := silence })
        ∧ (k.role = .parent ∧ k.parentState = .enrolled → silence = 8 →
            t.link l = { trained with parentSilence := 0, parentState := .unenrolled, toRm := k.toRm ++ [.lost] }))
      ∧ t.stu.records = s.stu.records.map (fun r =>
        let adjusts := r.lifecycle = .active ∧ r.ackMode = some .confirmed ∧ r.autoComp = true ∧ r.onTimeSince = true
          ∧ r.silence ≠ .long ∧ r.stagedCompAt ≠ some s.clock.boundaries
        let half := fun trip : Nat => max (-100000) (min (Int.tdiv ((trip : Int) - s.port.tTurn) 2) 100000)
        if r.link = l then
          { r with
            compensation := if adjusts then (match r.lastRoundTrip with
              | some trip => half trip
              | none => r.compensation) else r.compensation,
            onTimeSince := false,
            serviceStarted := if r.lifecycle = .provisional then r.serviceStarted else true }
        else r))
    ∧ exec (.enrolWindowExpiry l) s = .next s
    ∧ (k.state = .training ∧ 2 ≤ k.trainingCount →
        exec (.trainingComplete l) s
          = .next (s.updLink l (fun q => { q with state := .up, hearsFrom := s.clock.boundaryAt })))
    ∧ (¬ (k.state = .training ∧ 2 ≤ k.trainingCount) → exec (.trainingComplete l) s = .next s)
    ∧ (k.role = .parent ∧ k.parentState = .enrolled ∧ 8 ≤ k.parentSilence →
        exec (.parentSilenceExpiry l) s = .next (s.updLink l (fun q => { q with
          parentState := .unenrolled, parentSilence := 0, toRm := q.toRm ++ [.lost] })))
    ∧ (¬ (k.role = .parent ∧ k.parentState = .enrolled ∧ 8 ≤ k.parentSilence) →
        exec (.parentSilenceExpiry l) s = .next s)

/-! ### Site links: serving -/

/-- A delivery slot of a SERVE link held by an ACTIVE record whose service has started: squelched it sends nothing; on an UP
link a TIME frame is sent and counted, with an exchange opened for a CONFIRMED record; on another link a CONFIRMED record's
exchange is missed. Every other slot sends nothing. Local time has come to the slot's start. The window of an exchange ends
1, 2, 3, 4, 6, 8, 12 or 16 slots after its own, by the record's code 0 to 7. (The frame's bytes: CallAndFarewell.) -/
def Obligations.DeliverySlotOutcome : Prop :=
  (List.range 8).map windowLength = [1, 2, 3, 4, 6, 8, 12, 16]
  ∧ ∀ (l : LinkId) (slot : Nat) (older : Bool) (s : State),
    let start := s.clock.boundaryAt + slot * 3906250000
    let t := s.advance start
    let k := s.link l
    let p := if older then s.older else s.published
    let run := exec (.deliverySlotStart l slot older) s
    let served := fun r : SiteRecord => k.role = .serve ∧ slot < k.split ∧ r.lifecycle = .active
      ∧ r.serviceStarted = true ∧ slotAt k.slots slot = .held r.handle ∧ s.record? r.handle = some r
    ((∀ r, ¬ served r) → run = .next t)
    ∧ (∀ r, served r →
      let silent := r.squelch = true ∧ r.condition = .unusable
      let index := slot - r.slotBase.getD 0
      let frame : TimeFrame :=
        { addr := r.drop, seconds := s.tb.seconds, slot := slot, index := index, offset := slot * 3906250 + r.compensation,
          quality := qualityCode p r, depth := chainDepth p (s.entry .parent).declared.parentDepth,
          appliedStep := p.appliedStep, senderU := p.uNs, replyRequested := r.ackMode == some .confirmed }
      let exchange := fun q : SiteRecord =>
        ({ slot := slot, index := slot - q.slotBase.getD 0, sendTime := start,
           windowEnd := (slot + windowLength (q.window.getD 0)) % 256, held := false } : Exchange)
      let missed := fun q : SiteRecord => min (q.missRun + 1) 255
      (silent → run = .next t)
      ∧ (¬ silent → k.state = .up → run = .next ((t.updLink l (fun q => { q with
          tx := some { instant := start, bytes := encodeLinkFrame (.time frame) } })).updRecord r.handle (fun q => { q with
            sent := min (q.sent + 1) 65535,
            exchanges := if q.ackMode = some .confirmed then q.exchanges ++ [exchange q] else q.exchanges })))
      ∧ (¬ silent → k.state ≠ .up → r.ackMode = some .confirmed → run = .next (t.updRecord r.handle (fun q => { q with
          missed := min (q.missed + 1) 65535, missRun := missed q,
          silence := if missed q < 3 then .none else if missed q < 32 then .short else .long })))
      ∧ (¬ silent → k.state ≠ .up → r.ackMode ≠ some .confirmed → run = .next t))

/-- The quality code of a frame by the record's condition and the copy held, an interim condition in place of NONE; and the
chain depth by the reference that the copy names. -/
def Obligations.FrameQuality : Prop :=
  (∀ (p : Published) (r : SiteRecord),
    let c := if r.condition = .none then judge p r .none else r.condition
    (c = .unusable → qualityCode p r = 15) ∧ (c = .degraded → qualityCode p r = 5)
    ∧ (c = .inService →
      (p.state = .locked → p.selected = some .satA ∨ p.selected = some .satB → qualityCode p r = 0)
      ∧ (p.state = .locked → p.selected = some .parent → qualityCode p r = 1)
      ∧ (p.state = .acquire → qualityCode p r = 2) ∧ (p.state = .freqHold → qualityCode p r = 3)
      ∧ (p.state = .holdover → qualityCode p r = 4) ∧ (p.state = .freerun → qualityCode p r = 5)))
  ∧ (∀ (p : Published) (depth : Option Nat),
    (p.selected = some .satA ∨ p.selected = some .satB → chainDepth p depth = 0)
    ∧ (∀ d, p.selected = some .parent → depth = some d → chainDepth p depth = min (d + 1) 15)
    ∧ (p.selected = some .parent → depth = none → chainDepth p depth = 15)
    ∧ (p.selected = some .lineA ∨ p.selected = some .lineB ∨ p.selected = none → chainDepth p depth = 15))

/-- CALL_SLOT sends the CALL at slot S of a SERVE link that is UP with its window open, and notes the calling epoch.
FAREWELL_SLOT, at a slot above S of an UP link, sends the FAREWELL to the record at the head of the queue and removes it in
the same act. Otherwise local time alone comes to the slot's start. The five link frames have the bytes of R194, numbers most
significant byte first and a check byte last that makes the sum 0. A run of bytes is read as a frame when its type, its
length and its sum are right, and then by those bytes, and not otherwise; and a frame whose fields fit its bytes is read back
whole. -/
def Obligations.CallAndFarewell : Prop :=
  (∀ (l : LinkId) (older : Bool) (s : State),
    let start := s.clock.boundaryAt + (s.link l).split * 3906250000
    let t := s.advance start
    let calls := (s.link l).role = .serve ∧ (s.link l).state = .up ∧ 0 < (s.link l).window
    let depth := chainDepth (if older then s.older else s.published) (s.entry .parent).declared.parentDepth
    (calls → exec (.callSlot l older) s = .next (t.updLink l (fun k => { k with
      tx := some { instant := start, bytes := encodeLinkFrame (.call 0 s.port.hubIdentity depth s.tb.seconds) },
      calling := some { boundary := s.clock.boundaries, instant := start } })))
    ∧ (¬ calls → exec (.callSlot l older) s = .next t))
  ∧ (∀ (l : LinkId) (slot : Nat) (s : State),
    let start := s.clock.boundaryAt + slot * 3906250000
    let t := s.advance start
    let open' := (s.link l).split < slot ∧ slot ≤ 255 ∧ (s.link l).state = .up
    (¬ open' ∨ (s.link l).retireQueue = [] → exec (.farewellSlot l slot) s = .next t)
    ∧ (∀ h rest r, open' → (s.link l).retireQueue = h :: rest → s.record? h = some r →
        exec (.farewellSlot l slot) s = .next ((t.updLink l (fun k => { k with
          tx := some { instant := start,
                       bytes := encodeLinkFrame (.farewell r.drop r.siteId s.port.hubIdentity) } })).removeRecord r)))
  ∧ (let at' := fun (bs : List Byte) (k : Nat) => (bs[k]?.getD 0).toNat
    let word := fun (bs : List Byte) (k : Nat) =>
      at' bs k * 16777216 + at' bs (k + 1) * 65536 + at' bs (k + 2) * 256 + at' bs (k + 3)
    let count := fun (bs : List Byte) (k : Nat) => word bs k * 65536 + at' bs (k + 4) * 256 + at' bs (k + 5)
    let signed := fun v : Nat => if v < 2147483648 then (v : Int) else (v : Int) - 4294967296
    let framed := fun (bs : List Byte) (n type addr : Nat) =>
      bs.length = n ∧ (bs.map BitVec.toNat).sum % 256 = 0 ∧ at' bs 1 = type ∧ at' bs 0 = addr % 256
    (∀ n : Nat, linkFrameLength n
      = if n = 0x31 then some 25 else if n = 0x32 then some 14 else if n = 0x33 then some 11
        else if n = 0x34 then some 5 else if n = 0x35 then some 8 else none)
    ∧ (∀ f : TimeFrame,
      let bs := encodeLinkFrame (.time f)
      framed bs 25 0x31 f.addr ∧ count bs 2 = f.seconds.toNat ∧ at' bs 8 = f.slot % 256 ∧ at' bs 9 = f.index % 256
      ∧ (word bs 10 : Int) = f.offset % 4294967296 ∧ at' bs 14 = (f.quality * 16 + f.depth) % 256
      ∧ (word bs 15 : Int) = f.appliedStep % 4294967296 ∧ word bs 19 = f.senderU % 4294967296
      ∧ at' bs 23 = if f.replyRequested then 1 else 0)
    ∧ (∀ (addr hubId depth : Nat) (seconds : Seconds),
      let bs := encodeLinkFrame (.call addr hubId depth seconds)
      framed bs 14 0x32 addr ∧ word bs 2 = hubId % 4294967296 ∧ at' bs 6 = depth % 256 ∧ count bs 7 = seconds.toNat)
    ∧ (∀ addr siteId hubId : Nat,
      let bs := encodeLinkFrame (.farewell addr siteId hubId)
      framed bs 11 0x33 addr ∧ word bs 2 = siteId % 4294967296 ∧ word bs 6 = hubId % 4294967296)
    ∧ (∀ addr slot index : Nat,
      let bs := encodeLinkFrame (.reply addr slot index)
      framed bs 5 0x34 addr ∧ at' bs 2 = slot % 256 ∧ at' bs 3 = index % 256)
    ∧ (∀ (addr siteId : Nat) (cap : Byte),
      let bs := encodeLinkFrame (.enrol addr siteId cap)
      framed bs 8 0x35 addr ∧ word bs 2 = siteId % 4294967296 ∧ at' bs 6 = cap.toNat)
    ∧ (∀ bs : List Byte,
      ((bs.map BitVec.toNat).sum % 256 ≠ 0 ∨ linkFrameLength (at' bs 1) ≠ some bs.length → decodeLinkFrame bs = none)
      ∧ (framed bs 25 0x31 (at' bs 0) → decodeLinkFrame bs = some (.time {
          addr := at' bs 0, seconds := BitVec.ofNat 48 (count bs 2), slot := at' bs 8, index := at' bs 9,
          offset := signed (word bs 10), quality := at' bs 14 / 16, depth := at' bs 14 % 16,
          appliedStep := signed (word bs 15), senderU := word bs 19, replyRequested := at' bs 23 % 2 == 1 }))
      ∧ (framed bs 14 0x32 (at' bs 0) →
          decodeLinkFrame bs = some (.call (at' bs 0) (word bs 2) (at' bs 6) (BitVec.ofNat 48 (count bs 7))))
      ∧ (framed bs 11 0x33 (at' bs 0) → decodeLinkFrame bs = some (.farewell (at' bs 0) (word bs 2) (word bs 6)))
      ∧ (framed bs 5 0x34 (at' bs 0) → decodeLinkFrame bs = some (.reply (at' bs 0) (at' bs 2) (at' bs 3)))
      ∧ (framed bs 8 0x35 (at' bs 0) →
          decodeLinkFrame bs = some (.enrol (at' bs 0) (word bs 2) (BitVec.ofNat 8 (at' bs 6)))))
    ∧ (∀ f : TimeFrame, f.addr < 256 → f.slot < 256 → f.index < 256 → -2147483648 ≤ f.offset → f.offset < 2147483648 →
        f.quality < 16 → f.depth < 16 → -2147483648 ≤ f.appliedStep → f.appliedStep < 2147483648 →
        f.senderU < 4294967296 → decodeLinkFrame (encodeLinkFrame (.time f)) = some (.time f))
    ∧ (∀ (addr hubId depth : Nat) (seconds : Seconds), addr < 256 → hubId < 4294967296 → depth < 256 →
        decodeLinkFrame (encodeLinkFrame (.call addr hubId depth seconds)) = some (.call addr hubId depth seconds))
    ∧ (∀ addr siteId hubId : Nat, addr < 256 → siteId < 4294967296 → hubId < 4294967296 →
        decodeLinkFrame (encodeLinkFrame (.farewell addr siteId hubId)) = some (.farewell addr siteId hubId))
    ∧ (∀ addr slot index : Nat, addr < 256 → slot < 256 → index < 256 →
        decodeLinkFrame (encodeLinkFrame (.reply addr slot index)) = some (.reply addr slot index))
    ∧ (∀ (addr siteId : Nat) (cap : Byte), addr < 256 → siteId < 4294967296 →
        decodeLinkFrame (encodeLinkFrame (.enrol addr siteId cap)) = some (.enrol addr siteId cap)))

/-- A frame that begins while another is being received discards that one, a bad frame, and misses the exchanges held open
for it, in PARENT role whatever station the frame cut off is addressed to (log 26); frames are told apart by the instant of
their address character (log 44). The end of a reply window: the open exchange is missed, unless a frame from the record's
drop is being received, which holds it open; an exchange that is not open gives nothing. The command's operand tells what is
being received, and brings local time to that frame's address character (log 3); FRAME_GAP_TIMEOUT discards and counts a
frame whenever the LE receives, and misses what was held open for it (log 25), in PARENT role whatever station the frame is
addressed to (log 26). -/
def Obligations.ExchangeEnds : Prop :=
  (∀ (l : LinkId) (at' : Instant) (s : State),
    ((s.link l).rx = none → s.beginFrame l at' = s)
    ∧ (∀ f, (s.link l).rx = some f → f.instant = at' → s.beginFrame l at' = s)
    ∧ (∀ f, (s.link l).rx = some f → f.instant ≠ at' → s.beginFrame l at' = (s.updLink l (fun q => { q with
        badFrames := min (q.badFrames + 1) 65535, rx := none })).updLinkRecords l SiteRecord.closeHeld))
  ∧ (∀ (l : LinkId) (h slot index : Nat) (receiving : Option RxFrame) (s : State),
    let k := s.link l
    let takes := fun f : RxFrame => k.state = .up ∧ k.role ≠ .off ∧ k.hearsFrom ≤ f.instant
    let t := match receiving with
      | some f =>
        let u := s.advance f.instant
        if takes f then (u.beginFrame l f.instant).updLink l (fun q => { q with rx := some f }) else u
      | none => s
    let rx := (t.link l).rx
    let run := exec (.exchangeWindowEnd l h slot index receiving) s
    let isOpen := fun r : SiteRecord => r.link = l ∧ ∃ x ∈ r.exchanges, x.slot = slot ∧ x.index = index
    let theOne := fun x : Exchange => x.slot == slot && x.index == index
    (t.record? h = none → run = .next t)
    ∧ (∀ r, t.record? h = some r → ¬ isOpen r → run = .next t)
    ∧ (∀ r f, t.record? h = some r → isOpen r → rx = some f → byteAt f.bytes 0 = r.drop →
        run = .next (t.updRecord h (fun q => { q with
          exchanges := q.exchanges.map (fun x => if theOne x then { x with held := true } else x) })))
    ∧ (∀ r, t.record? h = some r → isOpen r → (∀ f, rx = some f → byteAt f.bytes 0 ≠ r.drop) →
        let n := fun q : SiteRecord => min (q.missRun + 1) 255
        run = .next (t.updRecord h (fun q => { q with
          exchanges := q.exchanges.filter (fun x => !theOne x), missed := min (q.missed + 1) 65535, missRun := n q,
          silence := if n q < 3 then .none else if n q < 32 then .short else .long }))))
  ∧ (∀ (l : LinkId) (s : State),
    let takes := (s.link l).state = .up ∧ (s.link l).role ≠ .off
    (¬ takes → exec (.frameGapTimeout l) s = .next s)
    ∧ (takes → exec (.frameGapTimeout l) s = .next ((s.updLink l (fun q => { q with
        badFrames := min (q.badFrames + 1) 65535, rx := none })).updLinkRecords l SiteRecord.closeHeld)))

/-- A REPLY: not taken on a link that is not UP or is OFF, nor where its address character came before the link was UP; it
cuts off another frame that was being received (ExchangeEnds); a bad frame in PARENT role, whatever its address (log 26), and
when malformed; a stray with no ACTIVE record at its drop, as at any address above 15 (log 34), or with no exchange of its
slot and index; on time where it was taken within the exchange's slot, with the round trip in whole ns (log 17), else late
(log 44). A CONFIRMED record's miss run is 0. At its end, after its own classification, what was held open for the frame is
missed (log 35). -/
def Obligations.ReplyOutcome : Prop :=
  ∀ (l : LinkId) (at' : Instant) (addr slot index : Nat) (s : State),
    let k := s.link l
    let u := s.advance (at' + 27500000)
    let t := u.beginFrame l at'
    let run := exec (.replyFrame l at' addr slot index) s
    let ends := fun u : State => u.endFrame l
    let bad := t.updLink l (fun q => { q with badFrames := min (q.badFrames + 1) 65535 })
    let stray := t.updLink l (fun q => { q with strayReplies := min (q.strayReplies + 1) 65535 })
    let takes := k.state = .up ∧ k.role ≠ .off ∧ k.hearsFrom ≤ at'
    let at'' := (t.stu.dropEntry l addr).bind t.record?
    (∀ v : State, ends v
      = (v.updLink l (fun q => { q with rx := none })).updLinkRecords l SiteRecord.closeHeld)
    ∧ (¬ takes → run = .next u)
    ∧ (takes → k.role = .parent ∨ addr = 0 ∨ 15 < index → run = .next (ends bad))
    ∧ (takes → k.role = .serve → 1 ≤ addr → index ≤ 15 → (∀ r, at'' = some r → r.lifecycle ≠ .active) →
        run = .next (ends stray))
    ∧ (∀ r, takes → k.role = .serve → 1 ≤ addr → index ≤ 15 → at'' = some r → r.lifecycle = .active →
      ((∀ x ∈ r.exchanges, ¬ (x.slot = slot ∧ x.index = index)) →
        (r.ackMode = some .confirmed →
          run = .next (ends (stray.updRecord r.handle (fun q => { q with missRun := 0, silence := .none }))))
        ∧ (r.ackMode ≠ some .confirmed → run = .next (ends stray)))
      ∧ (∀ before x after, r.exchanges = before ++ x :: after → x.slot = slot ∧ x.index = index →
          (∀ y ∈ before, ¬ (y.slot = slot ∧ y.index = index)) →
          let rest := fun q : SiteRecord => q.exchanges.filter (fun y => !(y.slot == slot && y.index == index))
          (x.sendTime ≤ at' → at' < x.sendTime + 3906250000 → run = .next (ends (t.updRecord r.handle (fun q => { q with
            exchanges := rest q, onTime := min (q.onTime + 1) 65535,
            lastRoundTrip := some (((at' - x.sendTime) / 1000).toNat), onTimeSince := true, missRun := 0,
            silence := .none }))))
          ∧ (at' < x.sendTime ∨ x.sendTime + 3906250000 ≤ at' → run = .next (ends (t.updRecord r.handle (fun q => { q with
            exchanges := rest q, late := min (q.late + 1) 65535, missRun := 0, silence := .none }))))))

/-- An ENROL taken in SERVE role in the eight slots of a calling epoch, well formed, is handed to the STU; any other is a bad
frame, an address above 15 among what is malformed (log 34); a link that is not UP or is OFF takes none, nor one whose
address character came before it was UP; a frame taken cuts off another (ExchangeEnds). Frames are told apart, and taken, by
the instant of their address character (log 44). Characters on a link, taken one by one (log 25): a mark begins a frame, and
discards another in progress as bad; a character outside a frame is nothing; an unknown type is discarded as bad at the
second character; the last character of a frame that does not decode makes it bad, in PARENT role too, whatever station it is
addressed to (log 26), and that of one that does hands it on as the row of its type does (the bytes of each:
CallAndFarewell). -/
def Obligations.EnrolAndDiscards : Prop :=
  (∀ (l : LinkId) (at' : Instant) (addr siteId : Nat) (cap : Byte) (s : State),
    let k := s.link l
    let u := s.advance (at' + 44000000)
    let t := u.beginFrame l at'
    let run := exec (.enrolFrame l at' addr siteId cap) s
    let takes := k.state = .up ∧ k.role ≠ .off ∧ k.hearsFrom ≤ at'
    let bad := (t.updLink l (fun q => { q with badFrames := min (q.badFrames + 1) 65535 })).endFrame l
    let inside := ∃ c, k.calling = some c ∧ c.instant ≤ at' ∧ at' < c.instant + 31250000000
      ∧ (c.boundary = s.clock.boundaries ∨ at' < s.clock.boundaryAt)
    let sound := siteId ≠ 0 ∧ 1 ≤ addr ∧ addr ≤ 15 ∧ cap.toNat / 4 % 8 ≤ 4
    (¬ takes → run = .next u)
    ∧ (takes → ¬ (k.role = .serve ∧ inside ∧ sound) → run = .next bad)
    ∧ (takes → k.role = .serve → inside → sound →
        run = .next ((t.updLink l (fun q => { q with toStu := q.toStu ++ [{
          drop := addr, siteId := siteId,
          capability := { phase := cap.toNat.testBit 0, tight := cap.toNat.testBit 1,
                          highest := 2 ^ (cap.toNat / 4 % 8) } }] })).endFrame l)))
  ∧ (∀ (l : LinkId) (at' : Instant) (s : State),
    let k := s.link l
    let t := s.advance at'
    let takes := k.state = .up ∧ k.role ≠ .off
    let bad := (t.updLink l (fun q => { q with badFrames := min (q.badFrames + 1) 65535 })).endFrame l
    let run := fun cs => exec (.linkFrameDiscarded l at' cs) s
    (∀ cs, ¬ takes ∨ cs = [] → run cs = .next t)
    ∧ (∀ b : Byte, takes → k.rx = none → run [{ mark := false, byte := b }] = .next t)
    ∧ (∀ b : Byte, takes → at' < k.hearsFrom → run [{ mark := true, byte := b }] = .next t)
    ∧ (∀ b : Byte, takes → k.hearsFrom ≤ at' → run [{ mark := true, byte := b }]
        = .next ((t.beginFrame l at').updLink l (fun q => { q with rx := some { instant := at', bytes := [b] } })))
    ∧ (∀ (b : Byte) (f : RxFrame), takes → k.rx = some f →
        let bytes := f.bytes ++ [b]
        (linkFrameLength (byteAt bytes 1) = none → run [{ mark := false, byte := b }] = .next bad)
        ∧ (∀ n, linkFrameLength (byteAt bytes 1) = some n → bytes.length < n → run [{ mark := false, byte := b }]
            = .next (t.updLink l (fun q => { q with rx := some { instant := f.instant, bytes := bytes } })))
        ∧ (∀ n, linkFrameLength (byteAt bytes 1) = some n → n ≤ bytes.length → decodeLinkFrame bytes = none →
            run [{ mark := false, byte := b }] = .next bad)
        ∧ (∀ n g, linkFrameLength (byteAt bytes 1) = some n → n ≤ bytes.length →
            decodeLinkFrame bytes = some g → f.instant + n * 5500000 = at' + 5500000 →
            run [{ mark := false, byte := b }] = exec (match g with
              | .reply addr slot index => .replyFrame l f.instant addr slot index
              | .enrol addr siteId cap => .enrolFrame l f.instant addr siteId cap
              | .call addr hubId depth seconds => .parentCallFrame l f.instant addr hubId depth seconds
              | .time frame => .parentTimeFrame l f.instant frame
              | .farewell addr siteId hubId => .parentFarewellFrame l f.instant addr siteId hubId) t))
    ∧ (∀ c cs u, takes → cs ≠ [] → run [c] = .next u → run (c :: cs) = exec (.linkFrameDiscarded l (at' + 5500000) cs) u))

/-! ### Site links: parent role -/

/-- Frames taken in PARENT role: a CALL to address 0 schedules an ENROL T_turn after it while UNENROLLED; a TIME frame to own
drop enrols, with the report before the frame, ends the silence, and schedules a REPLY where one is requested; a FAREWELL to
own drop that carries the hub identity loses an enrolled parent; another station's frame is nothing, and a malformed one is
bad (log 26), an address above 15 being taken as another station's (log 34). In SERVE role each of the three is a bad frame.
A frame whose address character came before the link was UP is not taken, and one that is taken cuts off another
(ExchangeEnds), whatever station that one is addressed to (log 26). The sends take the next scheduled frame at its due time,
with own drop and hub identity as they then stand (log 39; the bytes of each: CallAndFarewell). -/
def Obligations.ParentRoleOutcome : Prop :=
  (∀ (l : LinkId) (at' : Instant) (s : State),
    let k := s.link l
    let takes := k.state = .up ∧ k.role ≠ .off ∧ k.hearsFrom ≤ at'
    let badOf := fun t : State => (t.updLink l (fun q => { q with badFrames := min (q.badFrames + 1) 65535 })).endFrame l
    (∀ addr hubId depth seconds,
      let u := s.advance (at' + 77000000)
      let t := u.beginFrame l at'
      let run := exec (.parentCallFrame l at' addr hubId depth seconds) s
      (¬ takes → run = .next u)
      ∧ (takes → k.role = .serve ∨ (addr ≠ 0 ∧ some addr = k.ownDrop) → run = .next (badOf t))
      ∧ (takes → k.role = .parent → addr ≠ 0 → some addr ≠ k.ownDrop → run = .next (t.endFrame l))
      ∧ (takes → k.role = .parent → addr = 0 → k.parentState = .enrolled → run = .next (t.endFrame l))
      ∧ (takes → k.role = .parent → addr = 0 → k.parentState = .unenrolled → run = .next ((t.updLink l (fun q => { q with
          dueEnrols := q.dueEnrols ++ [at' + s.port.tTurn * 1000] })).endFrame l)))
    ∧ (∀ f : TimeFrame,
      let u := s.advance (at' + 137500000)
      let t := u.beginFrame l at'
      let run := exec (.parentTimeFrame l at' f) s
      let enrolled := t.updLink l (fun q => { q with
        parentState := .enrolled, parentSilence := 0,
        toRm := q.toRm ++ (if q.parentState = .unenrolled then [.enrolled] else []) ++ [.frame at' f] })
      let malformed := f.addr = 0 ∨ 239 < f.slot ∨ 15 < f.index
      let foreign := f.addr ≠ 0 ∧ some f.addr ≠ k.ownDrop
      (¬ takes → run = .next u)
      ∧ (takes → k.role = .serve ∨ (¬ foreign ∧ malformed) → run = .next (badOf t))
      ∧ (takes → k.role = .parent → foreign → run = .next (t.endFrame l))
      ∧ (takes → k.role = .parent → ¬ foreign → ¬ malformed → f.replyRequested = false → run = .next (enrolled.endFrame l))
      ∧ (takes → k.role = .parent → ¬ foreign → ¬ malformed → f.replyRequested = true →
          run = .next ((enrolled.updLink l (fun q => { q with dueReplies := q.dueReplies
            ++ [{ due := at' + s.port.tTurn * 1000, slot := f.slot, index := f.index }] })).endFrame l)))
    ∧ (∀ addr siteId hubId,
      let u := s.advance (at' + 60500000)
      let t := u.beginFrame l at'
      let run := exec (.parentFarewellFrame l at' addr siteId hubId) s
      let leaves := some addr = k.ownDrop ∧ siteId = s.port.hubIdentity ∧ k.parentState = .enrolled
      (¬ takes → run = .next u)
      ∧ (takes → k.role = .serve ∨ addr = 0 → run = .next (badOf t))
      ∧ (takes → k.role = .parent → addr ≠ 0 → ¬ leaves → run = .next (t.endFrame l))
      ∧ (takes → k.role = .parent → addr ≠ 0 → leaves → run = .next ((t.updLink l (fun q => { q with
          parentState := .unenrolled, parentSilence := 0, toRm := q.toRm ++ [.lost] })).endFrame l))))
  ∧ (∀ (l : LinkId) (s : State),
    let drop := (s.link l).ownDrop.getD 0
    ((s.link l).dueEnrols = [] → exec (.parentEnrolSend l) s = .next s)
    ∧ (∀ d rest, (s.link l).dueEnrols = d :: rest → exec (.parentEnrolSend l) s
        = .next ((s.advance d).updLink l (fun q => { q with
            tx := some { instant := d, bytes := encodeLinkFrame (.enrol drop s.port.hubIdentity 0x13) },
            dueEnrols := rest })))
    ∧ ((s.link l).dueReplies = [] → exec (.parentReplySend l) s = .next s)
    ∧ (∀ d rest, (s.link l).dueReplies = d :: rest → exec (.parentReplySend l) s
        = .next ((s.advance d.due).updLink l (fun q => { q with
            tx := some { instant := d.due, bytes := encodeLinkFrame (.reply drop d.slot d.index) },
            dueReplies := rest }))))

/-! ### Alarms -/

/-- The requests of the alarm table, each with the table summary as it stands after the request: lookups by index and by
source and kind, and the next entry in age order, changing nothing; acknowledgement of an entry, ACTIVE ones stamped with the
seconds of the copy published last (the model's choice of the copy that the ATU holds, log 12) and CLEARED ones retired with
the marks that name them; and of a set of severities, with the two counts, RANGE for a set without any of the four, the other
bits of the mask without meaning (log 23). A source type or kind beyond those listed matches no entry (log 47). An entry is
shown by its fields in the order of their table, the unrecorded count present for TABLE_FULL alone (its items, and the
summary's, which comes last: log 20). -/
def Obligations.AlarmRequestsOutcome : Prop :=
  ∀ (tag : Nat) (s : State), s.port.state = .idle →
    let entries := s.atu.entries
    let answer := fun (i : Instr) (t : State) (r : Result) (extra : List Item) => exec i s = .next (t.respond tag r (extra
      ++ [natItem 1 t.atu.entries.length,
          natItem 1 (t.atu.entries.filter (AlarmEntry.qualifies t.atu.threshold)).length, .flag t.atu.asserted,
          .flag t.atu.armed, natItem 1 t.atu.threshold.code, natItem 1 t.atu.lastUnrecorded,
          natItem 6 t.atu.nextSerial]))
    let stamped := fun e : AlarmEntry => if e.condition = .active ∧ e.acknowledged = false
      then { e with acknowledged := true, lastChange := s.published.seconds } else e
    let unmarked := fun (gone : Nat → Prop) (e f : AlarmEntry) =>
      f = { e with root := f.root } ∧ (∀ k, e.root = some k → gone k → f.root = none)
      ∧ ((∀ k, e.root = some k → ¬ gone k) → f.root = e.root)
    let acked := fun (chosen : AlarmEntry → Prop) (t : State) =>
      let retired := fun e : AlarmEntry => chosen e ∧ e.condition = .cleared
      let gone := fun k : Nat => ∃ e ∈ entries, retired e ∧ e.index = k
      t = { s with atu := { s.atu with entries := t.atu.entries, asserted := t.atu.asserted } }
      ∧ (∀ f ∈ t.atu.entries, ∃ e ∈ entries, ¬ retired e ∧ (chosen e → unmarked gone (stamped e) f)
          ∧ (¬ chosen e → unmarked gone e f))
      ∧ (∀ e ∈ entries, ¬ retired e → ∃ f ∈ t.atu.entries, f.serial = e.serial ∧ f.index = e.index)
      ∧ (t.atu.asserted = true ↔
          s.atu.asserted = true ∧ ∃ f ∈ t.atu.entries, f.qualifies s.atu.threshold = true)
    (∀ e : AlarmEntry, e.items =
      [natItem 1 e.index, natItem 6 e.serial,
        natItem 1 (match e.source with
          | .timebase => 0
          | .ref _ => 1
          | .link _ => 2
          | .site _ _ => 3
          | .table => 4),
        natItem 1 (match e.source with
          | .timebase => 0
          | .ref r => r.index
          | .link l => l.index
          | .site h _ => h
          | .table => 0),
        natItem 4 (match e.source with
          | .timebase => 0
          | .ref _ => 0
          | .link _ => 0
          | .site _ i => i
          | .table => 0),
        natItem 1 (match e.kind with
          | .tbFreerun => 0
          | .tbHoldover => 1
          | .tbFreqHold => 2
          | .refAbsent => 3
          | .refDisqualified => 4
          | .linkDown => 5
          | .siteService => 6
          | .siteSilence => 7
          | .tableFull => 8),
        natItem 1 (match e.severity with
          | .critical => 0
          | .major => 1
          | .minor => 2
          | .warning => 3),
        natItem 1 (match e.condition with
          | .active => 0
          | .cleared => 1),
        .flag e.acknowledged, optNat 1 e.root, natItem 1 e.raiseCount, natItem 6 e.firstRaised.toNat,
        natItem 6 e.lastChange.toNat,
        optNat 1 (match e.kind with
          | .tableFull => some e.unrecorded
          | .tbFreerun => none
          | .tbHoldover => none
          | .tbFreqHold => none
          | .refAbsent => none
          | .refDisqualified => none
          | .linkDown => none
          | .siteService => none
          | .siteSilence => none)])
    ∧ (∀ k, (∀ e ∈ entries, e.index ≠ k) → answer (.alarmLookup tag (.byIndex k)) s .noRecord []
      ∧ answer (.alarmAck tag k) s .noRecord [])
    ∧ (∀ k before e after, entries = before ++ e :: after → e.index = k → (∀ x ∈ before, x.index ≠ k) →
        answer (.alarmLookup tag (.byIndex k)) s .ok e.items
        ∧ ∃ t : State, acked (fun x => x.index = k) t
            ∧ answer (.alarmAck tag k) t .ok (e.items ++ [.flag (e.condition == .cleared)]))
    ∧ (∀ a b c, (∀ e ∈ entries, ¬ (e.source.typeCode = a ∧ e.source.number = b ∧ e.kind.code = c)) →
        answer (.alarmLookup tag (.bySource a b c)) s .noRecord [])
    ∧ (∀ a b c before e after, entries = before ++ e :: after →
        e.source.typeCode = a ∧ e.source.number = b ∧ e.kind.code = c →
        (∀ x ∈ before, ¬ (x.source.typeCode = a ∧ x.source.number = b ∧ x.kind.code = c)) →
        answer (.alarmLookup tag (.bySource a b c)) s .ok e.items)
    ∧ (∀ f, answer (.alarmLookup tag (.other f)) s .range [])
    ∧ (∀ cursor, (∀ e ∈ entries, e.serial ≤ cursor) → answer (.alarmNext tag cursor) s .noRecord [])
    ∧ (∀ cursor before e after, entries = before ++ e :: after → (∀ x ∈ before, x.serial ≤ cursor) → cursor < e.serial →
        answer (.alarmNext tag cursor) s .ok e.items)
    ∧ (∀ set : BitVec 8, (∀ v : Severity, set.getLsbD v.code = false) → answer (.alarmAckSeverity tag set) s .range [])
    ∧ (∀ (set : BitVec 8) (v : Severity), set.getLsbD v.code = true →
        let chosen := fun e : AlarmEntry => set.getLsbD e.severity.code = true
        ∃ t : State, acked chosen t ∧ answer (.alarmAckSeverity tag set) t .ok
          [natItem 1 (entries.filter (fun e => set.getLsbD e.severity.code && !e.acknowledged)).length,
            natItem 1 (entries.filter (fun e => set.getLsbD e.severity.code && e.condition == .cleared)).length])

/-- NOTIFY_ARM sets the flag, or, with an entry that qualifies, asserts the line and clears it; NOTIFY_ACK deasserts and
disarms; NOTIFY_SET sets a threshold that is a severity, and lets the line go where nothing qualifies any more. An entry
qualifies when it is ACTIVE, unacknowledged, without a root, and at or above the threshold. -/
def Obligations.NotifyOutcome : Prop :=
  (∀ (threshold : Severity) (e : AlarmEntry), e.qualifies threshold = true ↔
    e.condition = .active ∧ e.acknowledged = false ∧ e.root = none ∧ e.severity.code ≤ threshold.code)
  ∧ (∀ (tag : Nat) (s : State), s.port.state = .idle →
    let any := fun v : Severity => ∃ e ∈ s.atu.entries, e.qualifies v = true
    let answer := fun (i : Instr) (a : AlarmTable) (r : Result) =>
      exec i s = .next (({ s with atu := a } : State).respond tag r a.summary)
    (any s.atu.threshold → answer (.notifyArm tag) { s.atu with asserted := true, armed := false } .ok)
    ∧ (¬ any s.atu.threshold → answer (.notifyArm tag) { s.atu with armed := true } .ok)
    ∧ answer (.notifyAck tag) { s.atu with asserted := false, armed := false } .ok
    ∧ (∀ n, 4 ≤ n → answer (.notifySet tag n) s.atu .range)
    ∧ (∀ v : Severity, any v → answer (.notifySet tag v.code) { s.atu with threshold := v } .ok)
    ∧ (∀ v : Severity, ¬ any v → answer (.notifySet tag v.code) { s.atu with threshold := v, asserted := false } .ok))

/-- The conditions that a scan finds present, by owner. -/
def Obligations.AlarmConditions : Prop :=
  (∀ (p : Published) (k : AlarmKind), (∃ f ∈ timebaseFound p, f.kind = k) ↔
    (k = .tbFreerun ∧ p.state = .freerun) ∨ (k = .tbHoldover ∧ p.state = .holdover)
      ∨ (k = .tbFreqHold ∧ p.state = .freqHold))
  ∧ (∀ (p : Published) (f : Found), f ∈ timebaseFound p →
    f.rootSource = none ∧ f.severity = (match p.state with
      | .freerun => .critical
      | .holdover => .major
      | .freqHold => .minor
      | .acquire => .minor
      | .locked => .minor))
  ∧ (∀ (s : State) (r : RefId) (f : Found), f ∈ refFound s r ↔
    (s.entry r).settings.enabled = true ∧ f.severity = .minor ∧ f.rootSource = none
      ∧ ((f.kind = .refAbsent ∧ (s.entry r).state = .absent ∧ (r = .parent → ∃ l, (s.link l).role = .parent))
        ∨ (f.kind = .refDisqualified ∧ (s.entry r).state = .disqualified)))
  ∧ (∀ (k : Link) (f : Found), f ∈ linkFound k ↔
    k.role ≠ .off ∧ k.state = .down ∧ f = { kind := .linkDown, severity := .major, rootSource := none })
  ∧ (∀ (r : SiteRecord) (f : Found), f ∈ siteFound r ↔ r.lifecycle = .active
      ∧ ((r.condition = .degraded ∧ f = { kind := .siteService, severity := .minor, rootSource := some .timebase })
        ∨ (r.condition = .unusable ∧ f = { kind := .siteService, severity := .major, rootSource := some .timebase })
        ∨ (r.silence = .short ∧ f = { kind := .siteSilence, severity := .warning, rootSource := some (.link r.link) })
        ∨ (r.silence = .long ∧ f = { kind := .siteSilence, severity := .minor, rootSource := some (.link r.link) })))

/-- One act of the scan: it reads the copy held, walks the timebase, the references, the links and the records by handle, for
each source its absent kinds before its present ones, and of a record's two present kinds SITE_SERVICE first (log 46); settles
TABLE_FULL from the conditions left without an index; and, armed, asserts the line for an entry that qualifies now and did not
before, or lets it go when none qualifies. -/
def Obligations.AlarmScanOutcome : Prop :=
  (∀ (older : Bool) (s : State),
    let p := if older then s.older else s.published
    let walk : List (AlarmSource × List Found) := (.timebase, timebaseFound p)
      :: (.ref .satA, refFound s .satA) :: (.ref .satB, refFound s .satB) :: (.ref .parent, refFound s .parent)
      :: (.ref .lineA, refFound s .lineA) :: (.ref .lineB, refFound s .lineB)
      :: (.link .l0, linkFound (s.link .l0)) :: (.link .l1, linkFound (s.link .l1))
      :: (.link .l2, linkFound (s.link .l2)) :: (.link .l3, linkFound (s.link .l3))
      :: (.link .l4, linkFound (s.link .l4)) :: (.link .l5, linkFound (s.link .l5))
      :: s.stu.records.map (fun r => (.site r.handle r.siteId, siteFound r))
    let c := walk.foldl (Scan.source p.seconds) { table := s.atu, unrecorded := 0 }
    let a := c.table.settleFull (min c.unrecorded 255) p.seconds
    let before := (s.atu.entries.filter (AlarmEntry.qualifies s.atu.threshold)).map AlarmEntry.serial
    let calls := s.atu.armed = true ∧ ∃ e ∈ a.entries, e.qualifies s.atu.threshold = true ∧ e.serial ∉ before
    let stands := s.atu.asserted = true ∧ ∃ e ∈ a.entries, e.qualifies s.atu.threshold = true
    (calls → exec (.alarmScan older) s = .next { s with atu := { a with asserted := true, armed := false } })
    ∧ (¬ calls → stands → exec (.alarmScan older) s = .next { s with atu := { a with asserted := true } })
    ∧ (¬ calls → ¬ stands → exec (.alarmScan older) s = .next { s with atu := { a with asserted := false } }))
  ∧ (∀ (seconds : Seconds) (c : Scan) (src : AlarmSource) (found : List Found),
    Scan.source seconds c (src, found)
      = found.foldl (Scan.present seconds src) { c with table := c.table.clearAbsent seconds src found })
  ∧ (∀ r : SiteRecord,
    let service : List Found := match r.condition with
      | .degraded => [{ kind := .siteService, severity := .minor, rootSource := some .timebase }]
      | .unusable => [{ kind := .siteService, severity := .major, rootSource := some .timebase }]
      | .inService => []
      | .none => []
    let silence : List Found := match r.silence with
      | .short => [{ kind := .siteSilence, severity := .warning, rootSource := some (.link r.link) }]
      | .long => [{ kind := .siteSilence, severity := .minor, rootSource := some (.link r.link) }]
      | .none => []
    (r.lifecycle = .active → siteFound r = service ++ silence) ∧ (r.lifecycle ≠ .active → siteFound r = []))

/-- What a scan does with a condition present: an entry found CLEARED is raised again, an ACTIVE one follows the severity, and
without an entry one is made at the lowest free general index, or the condition counts as unrecorded. A new or re-raised
entry is marked against the ACTIVE entry of its root source. Absent kinds: the acknowledged entry is retired, another
CLEARED, and the marks that name either come off. TABLE_FULL is settled at the end, and keeps its unrecorded count as it
becomes CLEARED (log 40). -/
def Obligations.AlarmRaiseAndClear : Prop :=
  (∀ (seconds : Seconds) (src : AlarmSource) (c : Scan) (f : Found),
    let isIt := fun e : AlarmEntry => e.source = src ∧ e.kind = f.kind
    let root := c.table.rootOf f.rootSource
    let met := fun e : AlarmEntry =>
      if e.condition = .cleared then
        { e with condition := .active, raiseCount := min (e.raiseCount + 1) 255, severity := f.severity, root := root,
                 lastChange := seconds }
      else if f.severity.code < e.severity.code then
        { e with severity := f.severity, acknowledged := false, lastChange := seconds }
      else if e.severity.code < f.severity.code then { e with severity := f.severity, lastChange := seconds } else e
    ((∃ e ∈ c.table.entries, isIt e) → Scan.present seconds src c f = { c with table := { c.table with
        entries := c.table.entries.map (fun e => if e.source = src ∧ e.kind = f.kind then met e else e) } })
    ∧ (∀ k, (∀ e ∈ c.table.entries, ¬ isIt e) → k ≤ 46 → (∀ e ∈ c.table.entries, e.index ≠ k) →
        (∀ j, j < k → ∃ e ∈ c.table.entries, e.index = j) →
        let made : AlarmEntry :=
          { index := k, serial := c.table.nextSerial, source := src, kind := f.kind, severity := f.severity,
            condition := .active, acknowledged := false, root := root, raiseCount := 1, firstRaised := seconds,
            lastChange := seconds, unrecorded := 0 }
        Scan.present seconds src c f = { c with table := { c.table with
          nextSerial := c.table.nextSerial + 1, entries := c.table.entries ++ [made] } })
    ∧ ((∀ e ∈ c.table.entries, ¬ isIt e) → (∀ j, j ≤ 46 → ∃ e ∈ c.table.entries, e.index = j) →
        Scan.present seconds src c f = { c with unrecorded := c.unrecorded + 1 }))
  ∧ (∀ (t : AlarmTable) (src : AlarmSource),
    t.rootOf none = none
    ∧ ((∀ e ∈ t.entries, ¬ (e.source = src ∧ e.condition = .active)) → t.rootOf (some src) = none)
    ∧ (∀ e before after, t.entries = before ++ e :: after → e.source = src ∧ e.condition = .active →
        (∀ x ∈ before, ¬ (x.source = src ∧ x.condition = .active)) → t.rootOf (some src) = some e.index))
  ∧ (∀ (seconds : Seconds) (src : AlarmSource) (found : List Found) (t : AlarmTable),
    let gone := fun e : AlarmEntry => e.source = src ∧ e.condition = .active ∧ ∀ f ∈ found, f.kind ≠ e.kind
    let offMarks := fun e : AlarmEntry => ∃ k, e.root = some k ∧ ∃ g ∈ t.entries, gone g ∧ g.index = k
    let u := t.clearAbsent seconds src found
    u = { t with entries := u.entries }
    ∧ (∀ x ∈ u.entries, ∃ e ∈ t.entries, ¬ (gone e ∧ e.acknowledged = true)
        ∧ (gone e → x = { e with condition := .cleared, lastChange := seconds, root := x.root })
        ∧ (¬ gone e → x = { e with root := x.root })
        ∧ (offMarks e → x.root = none) ∧ (¬ offMarks e → x.root = e.root))
    ∧ (∀ e ∈ t.entries, ¬ (gone e ∧ e.acknowledged = true) → ∃ x ∈ u.entries, x.serial = e.serial ∧ x.index = e.index))
  ∧ (∀ (n : Nat) (seconds : Seconds) (t : AlarmTable),
    let full := fun e : AlarmEntry => e.kind = .tableFull
    let u := t.settleFull n seconds
    let made : AlarmEntry :=
      { index := 47, serial := t.nextSerial, source := .table, kind := .tableFull, severity := .major,
        condition := .active, acknowledged := false, root := none, raiseCount := 1, firstRaised := seconds,
        lastChange := seconds, unrecorded := n }
    u.lastUnrecorded = n
    ∧ (0 < n → (∀ e ∈ t.entries, ¬ full e) → u = { t with
        lastUnrecorded := n, nextSerial := t.nextSerial + 1, entries := t.entries ++ [made] })
    ∧ (0 < n → (∃ e ∈ t.entries, full e) → u = { t with
        lastUnrecorded := n,
        entries := t.entries.map (fun e =>
          if e.kind ≠ .tableFull then e
          else if e.condition = .cleared then
            { e with condition := .active, raiseCount := min (e.raiseCount + 1) 255, lastChange := seconds,
                     unrecorded := n }
          else { e with unrecorded := n }) })
    ∧ (n = 0 → (∀ e ∈ t.entries, ¬ full e) → u = { t with lastUnrecorded := 0 })
    ∧ (n = 0 → (∀ e ∈ t.entries, full e → e.condition = .cleared) → u = { t with lastUnrecorded := 0 })
    ∧ (n = 0 → (∀ e ∈ t.entries, full e → e.condition = .active ∧ e.acknowledged = false) → u = { t with
        lastUnrecorded := 0,
        entries := t.entries.map (fun e =>
          if e.kind = .tableFull then { e with condition := .cleared, lastChange := seconds } else e) })
    ∧ (n = 0 → (∀ e ∈ t.entries, full e → e.condition = .active ∧ e.acknowledged = true) →
        (∀ e ∈ t.entries, ∀ g ∈ t.entries, full g → e.root ≠ some g.index) →
        u = { t with lastUnrecorded := 0, entries := t.entries.filter (fun e => e.kind != .tableFull) }))

/-! ### Headline statements -/

/-- No bit of a request frame is dropped: a well-formed request row, written as its frame and read back, is the same row; the
frame is sound and of the length its code has; and a write select of it is taken and acted on as that row, on the empty queue
by the step after it (log 6). That the nine values of TB_SET go in the order of section 1.1 is the model's choice (log 51). -/
def Obligations.RequestsReadBack : Prop :=
  ∀ (i : Instr) (frame : List Byte), i.wf = true → encodeRequest i = some frame →
    decodeRequest frame = some i
    ∧ frame.length ∈ requestLengths (byteAt frame 0) (byteAt frame 4) ∧ byteAt frame 1 = frame.length ∧ byteSum frame = 0
    ∧ ∀ s : State, s.pending = [] → s.port.state = .idle → s.port.request = [] →
        ∃ t : State, exec (.writeSelect (0x01 :: frame)) s = .next t ∧ step t = exec i s

/-- Every step keeps the timebase record within its limits and its states with what they imply, and leaves no aging count to be
compared with A (log 2). -/
def Obligations.StepKeepsTimebase : Prop :=
  ∀ s t : State, TimebaseInv s → step s = .next t → TimebaseInv t

/-- Every step keeps the selector's choice a candidate, and its waiting and its force as the rules have them, and leaves no WTR
count to be judged (log 2). -/
def Obligations.StepKeepsSelector : Prop :=
  ∀ s t : State, SelectorInv s → step s = .next t → SelectorInv t

/-- Every step keeps the site table, its index, its free handles and its drop maps in agreement. -/
def Obligations.StepKeepsSites : Prop :=
  ∀ s t : State, SitesInv s → step s = .next t → SitesInv t

/-- Every step keeps the alarm table's shape: its indices, its age order, its marks and its notify line. -/
def Obligations.StepKeepsAlarms : Prop :=
  ∀ s t : State, AlarmInv s.atu → step s = .next t → AlarmInv t.atu

/-- The invariants hold in State.reset, and in the state that a COLD_RESET leaves, whatever the state it meets and whatever
line sense it finds. -/
def Obligations.InvariantsHoldAtReset : Prop :=
  (TimebaseInv State.reset ∧ SelectorInv State.reset ∧ SitesInv State.reset ∧ AlarmInv State.reset.atu)
  ∧ (∀ (sense : PerLink Bool) (s : State), ∃ t, exec (.coldReset sense) s = .next t
      ∧ TimebaseInv t ∧ SelectorInv t ∧ SitesInv t ∧ AlarmInv t.atu)
end

