-- ==== Sys2Proof/Laws/State.lean ====
section
/-! SUPPORT. What each operation on the state leaves as it was, field by field: no later proof unfolds a record update. -/

namespace Sys2Proof.Machine

open Sys2Proof

set_option linter.unusedTactic false
set_option linter.unnecessarySeqFocus false
set_option linter.unreachableTactic false

/-- What a fold of an operation leaves as it was, when the operation does. -/
theorem foldl_keeps {α β : Type} (g : State → α) (op : State → β → State) (h : ∀ s b, g (op s b) = g s) :
    ∀ (bs : List β) (s : State), g (bs.foldl op s) = g s := by
  intro bs
  induction bs with
  | nil => intro s; rfl
  | cons b bs ih => intro s; rw [List.foldl_cons, ih, h]

/-! ### updEntry -/

@[simp] theorem State.updEntry_pending (s : State) (r : RefId) (f : RefEntry → RefEntry) : (s.updEntry r f).pending = s.pending := rfl
@[simp] theorem State.updEntry_clock (s : State) (r : RefId) (f : RefEntry → RefEntry) : (s.updEntry r f).clock = s.clock := rfl
@[simp] theorem State.updEntry_tb (s : State) (r : RefId) (f : RefEntry → RefEntry) : (s.updEntry r f).tb = s.tb := rfl
@[simp] theorem State.updEntry_published (s : State) (r : RefId) (f : RefEntry → RefEntry) : (s.updEntry r f).published = s.published := rfl
@[simp] theorem State.updEntry_older (s : State) (r : RefId) (f : RefEntry → RefEntry) : (s.updEntry r f).older = s.older := rfl
@[simp] theorem State.updEntry_sel (s : State) (r : RefId) (f : RefEntry → RefEntry) : (s.updEntry r f).sel = s.sel := rfl
@[simp] theorem State.updEntry_stu (s : State) (r : RefId) (f : RefEntry → RefEntry) : (s.updEntry r f).stu = s.stu := rfl
@[simp] theorem State.updEntry_links (s : State) (r : RefId) (f : RefEntry → RefEntry) : (s.updEntry r f).links = s.links := rfl
@[simp] theorem State.updEntry_atu (s : State) (r : RefId) (f : RefEntry → RefEntry) : (s.updEntry r f).atu = s.atu := rfl
@[simp] theorem State.updEntry_port (s : State) (r : RefId) (f : RefEntry → RefEntry) : (s.updEntry r f).port = s.port := rfl

/-! ### updLink -/

@[simp] theorem State.updLink_pending (s : State) (l : LinkId) (f : Link → Link) : (s.updLink l f).pending = s.pending := rfl
@[simp] theorem State.updLink_clock (s : State) (l : LinkId) (f : Link → Link) : (s.updLink l f).clock = s.clock := rfl
@[simp] theorem State.updLink_tb (s : State) (l : LinkId) (f : Link → Link) : (s.updLink l f).tb = s.tb := rfl
@[simp] theorem State.updLink_published (s : State) (l : LinkId) (f : Link → Link) : (s.updLink l f).published = s.published := rfl
@[simp] theorem State.updLink_older (s : State) (l : LinkId) (f : Link → Link) : (s.updLink l f).older = s.older := rfl
@[simp] theorem State.updLink_rm (s : State) (l : LinkId) (f : Link → Link) : (s.updLink l f).rm = s.rm := rfl
@[simp] theorem State.updLink_sel (s : State) (l : LinkId) (f : Link → Link) : (s.updLink l f).sel = s.sel := rfl
@[simp] theorem State.updLink_stu (s : State) (l : LinkId) (f : Link → Link) : (s.updLink l f).stu = s.stu := rfl
@[simp] theorem State.updLink_atu (s : State) (l : LinkId) (f : Link → Link) : (s.updLink l f).atu = s.atu := rfl
@[simp] theorem State.updLink_port (s : State) (l : LinkId) (f : Link → Link) : (s.updLink l f).port = s.port := rfl

/-! ### updRecord -/

@[simp] theorem State.updRecord_pending (s : State) (h : Nat) (f : SiteRecord → SiteRecord) : (s.updRecord h f).pending = s.pending := rfl
@[simp] theorem State.updRecord_clock (s : State) (h : Nat) (f : SiteRecord → SiteRecord) : (s.updRecord h f).clock = s.clock := rfl
@[simp] theorem State.updRecord_tb (s : State) (h : Nat) (f : SiteRecord → SiteRecord) : (s.updRecord h f).tb = s.tb := rfl
@[simp] theorem State.updRecord_published (s : State) (h : Nat) (f : SiteRecord → SiteRecord) : (s.updRecord h f).published = s.published := rfl
@[simp] theorem State.updRecord_older (s : State) (h : Nat) (f : SiteRecord → SiteRecord) : (s.updRecord h f).older = s.older := rfl
@[simp] theorem State.updRecord_rm (s : State) (h : Nat) (f : SiteRecord → SiteRecord) : (s.updRecord h f).rm = s.rm := rfl
@[simp] theorem State.updRecord_sel (s : State) (h : Nat) (f : SiteRecord → SiteRecord) : (s.updRecord h f).sel = s.sel := rfl
@[simp] theorem State.updRecord_links (s : State) (h : Nat) (f : SiteRecord → SiteRecord) : (s.updRecord h f).links = s.links := rfl
@[simp] theorem State.updRecord_atu (s : State) (h : Nat) (f : SiteRecord → SiteRecord) : (s.updRecord h f).atu = s.atu := rfl
@[simp] theorem State.updRecord_port (s : State) (h : Nat) (f : SiteRecord → SiteRecord) : (s.updRecord h f).port = s.port := rfl

/-! ### updLinkRecords -/

@[simp] theorem State.updLinkRecords_pending (s : State) (l : LinkId) (f : SiteRecord → SiteRecord) : (s.updLinkRecords l f).pending = s.pending := rfl
@[simp] theorem State.updLinkRecords_clock (s : State) (l : LinkId) (f : SiteRecord → SiteRecord) : (s.updLinkRecords l f).clock = s.clock := rfl
@[simp] theorem State.updLinkRecords_tb (s : State) (l : LinkId) (f : SiteRecord → SiteRecord) : (s.updLinkRecords l f).tb = s.tb := rfl
@[simp] theorem State.updLinkRecords_published (s : State) (l : LinkId) (f : SiteRecord → SiteRecord) : (s.updLinkRecords l f).published = s.published := rfl
@[simp] theorem State.updLinkRecords_older (s : State) (l : LinkId) (f : SiteRecord → SiteRecord) : (s.updLinkRecords l f).older = s.older := rfl
@[simp] theorem State.updLinkRecords_rm (s : State) (l : LinkId) (f : SiteRecord → SiteRecord) : (s.updLinkRecords l f).rm = s.rm := rfl
@[simp] theorem State.updLinkRecords_sel (s : State) (l : LinkId) (f : SiteRecord → SiteRecord) : (s.updLinkRecords l f).sel = s.sel := rfl
@[simp] theorem State.updLinkRecords_links (s : State) (l : LinkId) (f : SiteRecord → SiteRecord) : (s.updLinkRecords l f).links = s.links := rfl
@[simp] theorem State.updLinkRecords_atu (s : State) (l : LinkId) (f : SiteRecord → SiteRecord) : (s.updLinkRecords l f).atu = s.atu := rfl
@[simp] theorem State.updLinkRecords_port (s : State) (l : LinkId) (f : SiteRecord → SiteRecord) : (s.updLinkRecords l f).port = s.port := rfl

/-! ### advance -/

@[simp] theorem State.advance_pending (s : State) (t : Instant) : (s.advance t).pending = s.pending := rfl
@[simp] theorem State.advance_tb (s : State) (t : Instant) : (s.advance t).tb = s.tb := rfl
@[simp] theorem State.advance_published (s : State) (t : Instant) : (s.advance t).published = s.published := rfl
@[simp] theorem State.advance_older (s : State) (t : Instant) : (s.advance t).older = s.older := rfl
@[simp] theorem State.advance_rm (s : State) (t : Instant) : (s.advance t).rm = s.rm := rfl
@[simp] theorem State.advance_sel (s : State) (t : Instant) : (s.advance t).sel = s.sel := rfl
@[simp] theorem State.advance_stu (s : State) (t : Instant) : (s.advance t).stu = s.stu := rfl
@[simp] theorem State.advance_links (s : State) (t : Instant) : (s.advance t).links = s.links := rfl
@[simp] theorem State.advance_atu (s : State) (t : Instant) : (s.advance t).atu = s.atu := rfl
@[simp] theorem State.advance_port (s : State) (t : Instant) : (s.advance t).port = s.port := rfl

/-! ### respond -/

@[simp] theorem State.respond_pending (s : State) (tag : Nat) (r : Result) (p : List Item) : (s.respond tag r p).pending = s.pending := rfl
@[simp] theorem State.respond_clock (s : State) (tag : Nat) (r : Result) (p : List Item) : (s.respond tag r p).clock = s.clock := rfl
@[simp] theorem State.respond_tb (s : State) (tag : Nat) (r : Result) (p : List Item) : (s.respond tag r p).tb = s.tb := rfl
@[simp] theorem State.respond_published (s : State) (tag : Nat) (r : Result) (p : List Item) : (s.respond tag r p).published = s.published := rfl
@[simp] theorem State.respond_older (s : State) (tag : Nat) (r : Result) (p : List Item) : (s.respond tag r p).older = s.older := rfl
@[simp] theorem State.respond_rm (s : State) (tag : Nat) (r : Result) (p : List Item) : (s.respond tag r p).rm = s.rm := rfl
@[simp] theorem State.respond_sel (s : State) (tag : Nat) (r : Result) (p : List Item) : (s.respond tag r p).sel = s.sel := rfl
@[simp] theorem State.respond_stu (s : State) (tag : Nat) (r : Result) (p : List Item) : (s.respond tag r p).stu = s.stu := rfl
@[simp] theorem State.respond_links (s : State) (tag : Nat) (r : Result) (p : List Item) : (s.respond tag r p).links = s.links := rfl
@[simp] theorem State.respond_atu (s : State) (tag : Nat) (r : Result) (p : List Item) : (s.respond tag r p).atu = s.atu := rfl

/-! ### overrunSet -/

@[simp] theorem State.overrunSet_pending (s : State) : (s.overrunSet).pending = s.pending := rfl
@[simp] theorem State.overrunSet_clock (s : State) : (s.overrunSet).clock = s.clock := rfl
@[simp] theorem State.overrunSet_tb (s : State) : (s.overrunSet).tb = s.tb := rfl
@[simp] theorem State.overrunSet_published (s : State) : (s.overrunSet).published = s.published := rfl
@[simp] theorem State.overrunSet_older (s : State) : (s.overrunSet).older = s.older := rfl
@[simp] theorem State.overrunSet_rm (s : State) : (s.overrunSet).rm = s.rm := rfl
@[simp] theorem State.overrunSet_sel (s : State) : (s.overrunSet).sel = s.sel := rfl
@[simp] theorem State.overrunSet_stu (s : State) : (s.overrunSet).stu = s.stu := rfl
@[simp] theorem State.overrunSet_links (s : State) : (s.overrunSet).links = s.links := rfl
@[simp] theorem State.overrunSet_atu (s : State) : (s.overrunSet).atu = s.atu := rfl

/-! ### makeBoundary -/

@[simp] theorem State.makeBoundary_pending (s : State) : (s.makeBoundary).pending = s.pending := rfl
@[simp] theorem State.makeBoundary_sel (s : State) : (s.makeBoundary).sel = s.sel := rfl
@[simp] theorem State.makeBoundary_stu (s : State) : (s.makeBoundary).stu = s.stu := rfl
@[simp] theorem State.makeBoundary_links (s : State) : (s.makeBoundary).links = s.links := rfl
@[simp] theorem State.makeBoundary_atu (s : State) : (s.makeBoundary).atu = s.atu := rfl
@[simp] theorem State.makeBoundary_port (s : State) : (s.makeBoundary).port = s.port := rfl

/-! ### boundaryIfPassed -/

@[simp] theorem State.boundaryIfPassed_pending (s : State) (k : Int) : (s.boundaryIfPassed k).pending = s.pending := by
  unfold State.boundaryIfPassed; try dsimp only
  (repeat' split) <;> simp
@[simp] theorem State.boundaryIfPassed_sel (s : State) (k : Int) : (s.boundaryIfPassed k).sel = s.sel := by
  unfold State.boundaryIfPassed; try dsimp only
  (repeat' split) <;> simp
@[simp] theorem State.boundaryIfPassed_stu (s : State) (k : Int) : (s.boundaryIfPassed k).stu = s.stu := by
  unfold State.boundaryIfPassed; try dsimp only
  (repeat' split) <;> simp
@[simp] theorem State.boundaryIfPassed_links (s : State) (k : Int) : (s.boundaryIfPassed k).links = s.links := by
  unfold State.boundaryIfPassed; try dsimp only
  (repeat' split) <;> simp
@[simp] theorem State.boundaryIfPassed_atu (s : State) (k : Int) : (s.boundaryIfPassed k).atu = s.atu := by
  unfold State.boundaryIfPassed; try dsimp only
  (repeat' split) <;> simp
@[simp] theorem State.boundaryIfPassed_port (s : State) (k : Int) : (s.boundaryIfPassed k).port = s.port := by
  unfold State.boundaryIfPassed; try dsimp only
  (repeat' split) <;> simp

/-! ### ignoreOthers -/

@[simp] theorem State.ignoreOthers_pending (s : State) : (s.ignoreOthers).pending = s.pending := rfl
@[simp] theorem State.ignoreOthers_clock (s : State) : (s.ignoreOthers).clock = s.clock := rfl
@[simp] theorem State.ignoreOthers_tb (s : State) : (s.ignoreOthers).tb = s.tb := rfl
@[simp] theorem State.ignoreOthers_published (s : State) : (s.ignoreOthers).published = s.published := rfl
@[simp] theorem State.ignoreOthers_older (s : State) : (s.ignoreOthers).older = s.older := rfl
@[simp] theorem State.ignoreOthers_sel (s : State) : (s.ignoreOthers).sel = s.sel := rfl
@[simp] theorem State.ignoreOthers_stu (s : State) : (s.ignoreOthers).stu = s.stu := rfl
@[simp] theorem State.ignoreOthers_links (s : State) : (s.ignoreOthers).links = s.links := rfl
@[simp] theorem State.ignoreOthers_atu (s : State) : (s.ignoreOthers).atu = s.atu := rfl
@[simp] theorem State.ignoreOthers_port (s : State) : (s.ignoreOthers).port = s.port := rfl

/-! ### phaseSample -/

@[simp] theorem State.phaseSample_pending (s : State) (r : RefId) (v : Int) (a : Int → Timebase → Timebase) : (s.phaseSample r v a).pending = s.pending := rfl
@[simp] theorem State.phaseSample_published (s : State) (r : RefId) (v : Int) (a : Int → Timebase → Timebase) : (s.phaseSample r v a).published = s.published := rfl
@[simp] theorem State.phaseSample_older (s : State) (r : RefId) (v : Int) (a : Int → Timebase → Timebase) : (s.phaseSample r v a).older = s.older := rfl
@[simp] theorem State.phaseSample_sel (s : State) (r : RefId) (v : Int) (a : Int → Timebase → Timebase) : (s.phaseSample r v a).sel = s.sel := rfl
@[simp] theorem State.phaseSample_stu (s : State) (r : RefId) (v : Int) (a : Int → Timebase → Timebase) : (s.phaseSample r v a).stu = s.stu := rfl
@[simp] theorem State.phaseSample_links (s : State) (r : RefId) (v : Int) (a : Int → Timebase → Timebase) : (s.phaseSample r v a).links = s.links := rfl
@[simp] theorem State.phaseSample_atu (s : State) (r : RefId) (v : Int) (a : Int → Timebase → Timebase) : (s.phaseSample r v a).atu = s.atu := rfl
@[simp] theorem State.phaseSample_port (s : State) (r : RefId) (v : Int) (a : Int → Timebase → Timebase) : (s.phaseSample r v a).port = s.port := rfl

/-! ### lineSample -/

@[simp] theorem State.lineSample_pending (s : State) (r : RefId) (v : Int) : (s.lineSample r v).pending = s.pending := rfl
@[simp] theorem State.lineSample_clock (s : State) (r : RefId) (v : Int) : (s.lineSample r v).clock = s.clock := rfl
@[simp] theorem State.lineSample_published (s : State) (r : RefId) (v : Int) : (s.lineSample r v).published = s.published := rfl
@[simp] theorem State.lineSample_older (s : State) (r : RefId) (v : Int) : (s.lineSample r v).older = s.older := rfl
@[simp] theorem State.lineSample_sel (s : State) (r : RefId) (v : Int) : (s.lineSample r v).sel = s.sel := rfl
@[simp] theorem State.lineSample_stu (s : State) (r : RefId) (v : Int) : (s.lineSample r v).stu = s.stu := rfl
@[simp] theorem State.lineSample_links (s : State) (r : RefId) (v : Int) : (s.lineSample r v).links = s.links := rfl
@[simp] theorem State.lineSample_atu (s : State) (r : RefId) (v : Int) : (s.lineSample r v).atu = s.atu := rfl
@[simp] theorem State.lineSample_port (s : State) (r : RefId) (v : Int) : (s.lineSample r v).port = s.port := rfl

/-! ### popPublication -/

@[simp] theorem State.popPublication_pending (s : State) : (s.popPublication).pending = s.pending := rfl
@[simp] theorem State.popPublication_clock (s : State) : (s.popPublication).clock = s.clock := rfl
@[simp] theorem State.popPublication_tb (s : State) : (s.popPublication).tb = s.tb := rfl
@[simp] theorem State.popPublication_published (s : State) : (s.popPublication).published = s.published := rfl
@[simp] theorem State.popPublication_older (s : State) : (s.popPublication).older = s.older := rfl
@[simp] theorem State.popPublication_rm (s : State) : (s.popPublication).rm = s.rm := rfl
@[simp] theorem State.popPublication_stu (s : State) : (s.popPublication).stu = s.stu := rfl
@[simp] theorem State.popPublication_links (s : State) : (s.popPublication).links = s.links := rfl
@[simp] theorem State.popPublication_atu (s : State) : (s.popPublication).atu = s.atu := rfl
@[simp] theorem State.popPublication_port (s : State) : (s.popPublication).port = s.port := rfl

/-! ### takePhase -/

@[simp] theorem State.takePhase_pending (s : State) (r : RefId) : (s.takePhase r).pending = s.pending := by
  unfold State.takePhase; try dsimp only
  (repeat' split) <;> simp
@[simp] theorem State.takePhase_sel (s : State) (r : RefId) : (s.takePhase r).sel = s.sel := by
  unfold State.takePhase; try dsimp only
  (repeat' split) <;> simp
@[simp] theorem State.takePhase_stu (s : State) (r : RefId) : (s.takePhase r).stu = s.stu := by
  unfold State.takePhase; try dsimp only
  (repeat' split) <;> simp
@[simp] theorem State.takePhase_links (s : State) (r : RefId) : (s.takePhase r).links = s.links := by
  unfold State.takePhase; try dsimp only
  (repeat' split) <;> simp
@[simp] theorem State.takePhase_atu (s : State) (r : RefId) : (s.takePhase r).atu = s.atu := by
  unfold State.takePhase; try dsimp only
  (repeat' split) <;> simp
@[simp] theorem State.takePhase_port (s : State) (r : RefId) : (s.takePhase r).port = s.port := by
  unfold State.takePhase; try dsimp only
  (repeat' split) <;> simp

/-! ### searchFrom -/

@[simp] theorem State.searchFrom_pending (s : State) (r : RefId) : (s.searchFrom r).pending = s.pending := by
  unfold State.searchFrom; try dsimp only
  (repeat' split) <;> simp
@[simp] theorem State.searchFrom_clock (s : State) (r : RefId) : (s.searchFrom r).clock = s.clock := by
  unfold State.searchFrom; try dsimp only
  (repeat' split) <;> simp
@[simp] theorem State.searchFrom_tb (s : State) (r : RefId) : (s.searchFrom r).tb = s.tb := by
  unfold State.searchFrom; try dsimp only
  (repeat' split) <;> simp
@[simp] theorem State.searchFrom_published (s : State) (r : RefId) : (s.searchFrom r).published = s.published := by
  unfold State.searchFrom; try dsimp only
  (repeat' split) <;> simp
@[simp] theorem State.searchFrom_older (s : State) (r : RefId) : (s.searchFrom r).older = s.older := by
  unfold State.searchFrom; try dsimp only
  (repeat' split) <;> simp
@[simp] theorem State.searchFrom_rm (s : State) (r : RefId) : (s.searchFrom r).rm = s.rm := by
  unfold State.searchFrom; try dsimp only
  (repeat' split) <;> simp
@[simp] theorem State.searchFrom_stu (s : State) (r : RefId) : (s.searchFrom r).stu = s.stu := by
  unfold State.searchFrom; try dsimp only
  (repeat' split) <;> simp
@[simp] theorem State.searchFrom_links (s : State) (r : RefId) : (s.searchFrom r).links = s.links := by
  unfold State.searchFrom; try dsimp only
  (repeat' split) <;> simp
@[simp] theorem State.searchFrom_atu (s : State) (r : RefId) : (s.searchFrom r).atu = s.atu := by
  unfold State.searchFrom; try dsimp only
  (repeat' split) <;> simp
@[simp] theorem State.searchFrom_port (s : State) (r : RefId) : (s.searchFrom r).port = s.port := by
  unfold State.searchFrom; try dsimp only
  (repeat' split) <;> simp

/-! ### reselect -/

@[simp] theorem State.reselect_pending (s : State) (r : RefId) : (s.reselect r).pending = s.pending := rfl
@[simp] theorem State.reselect_clock (s : State) (r : RefId) : (s.reselect r).clock = s.clock := rfl
@[simp] theorem State.reselect_tb (s : State) (r : RefId) : (s.reselect r).tb = s.tb := rfl
@[simp] theorem State.reselect_published (s : State) (r : RefId) : (s.reselect r).published = s.published := rfl
@[simp] theorem State.reselect_older (s : State) (r : RefId) : (s.reselect r).older = s.older := rfl
@[simp] theorem State.reselect_rm (s : State) (r : RefId) : (s.reselect r).rm = s.rm := rfl
@[simp] theorem State.reselect_stu (s : State) (r : RefId) : (s.reselect r).stu = s.stu := rfl
@[simp] theorem State.reselect_links (s : State) (r : RefId) : (s.reselect r).links = s.links := rfl
@[simp] theorem State.reselect_atu (s : State) (r : RefId) : (s.reselect r).atu = s.atu := rfl
@[simp] theorem State.reselect_port (s : State) (r : RefId) : (s.reselect r).port = s.port := rfl

/-! ### selReact -/

@[simp] theorem State.selReact_pending (s : State) : (s.selReact).pending = s.pending := by
  unfold State.selReact; try dsimp only
  (repeat' split) <;> simp
@[simp] theorem State.selReact_clock (s : State) : (s.selReact).clock = s.clock := by
  unfold State.selReact; try dsimp only
  (repeat' split) <;> simp
@[simp] theorem State.selReact_tb (s : State) : (s.selReact).tb = s.tb := by
  unfold State.selReact; try dsimp only
  (repeat' split) <;> simp
@[simp] theorem State.selReact_published (s : State) : (s.selReact).published = s.published := by
  unfold State.selReact; try dsimp only
  (repeat' split) <;> simp
@[simp] theorem State.selReact_older (s : State) : (s.selReact).older = s.older := by
  unfold State.selReact; try dsimp only
  (repeat' split) <;> simp
@[simp] theorem State.selReact_rm (s : State) : (s.selReact).rm = s.rm := by
  unfold State.selReact; try dsimp only
  (repeat' split) <;> simp
@[simp] theorem State.selReact_stu (s : State) : (s.selReact).stu = s.stu := by
  unfold State.selReact; try dsimp only
  (repeat' split) <;> simp
@[simp] theorem State.selReact_links (s : State) : (s.selReact).links = s.links := by
  unfold State.selReact; try dsimp only
  (repeat' split) <;> simp
@[simp] theorem State.selReact_atu (s : State) : (s.selReact).atu = s.atu := by
  unfold State.selReact; try dsimp only
  (repeat' split) <;> simp
@[simp] theorem State.selReact_port (s : State) : (s.selReact).port = s.port := by
  unfold State.selReact; try dsimp only
  (repeat' split) <;> simp

/-! ### changeEntry -/

@[simp] theorem State.changeEntry_pending (s : State) (r : RefId) (f : RefEntry → RefEntry) : (s.changeEntry r f).pending = s.pending := by
  unfold State.changeEntry; try dsimp only
  (repeat' split) <;> simp
@[simp] theorem State.changeEntry_clock (s : State) (r : RefId) (f : RefEntry → RefEntry) : (s.changeEntry r f).clock = s.clock := by
  unfold State.changeEntry; try dsimp only
  (repeat' split) <;> simp
@[simp] theorem State.changeEntry_tb (s : State) (r : RefId) (f : RefEntry → RefEntry) : (s.changeEntry r f).tb = s.tb := by
  unfold State.changeEntry; try dsimp only
  (repeat' split) <;> simp
@[simp] theorem State.changeEntry_published (s : State) (r : RefId) (f : RefEntry → RefEntry) : (s.changeEntry r f).published = s.published := by
  unfold State.changeEntry; try dsimp only
  (repeat' split) <;> simp
@[simp] theorem State.changeEntry_older (s : State) (r : RefId) (f : RefEntry → RefEntry) : (s.changeEntry r f).older = s.older := by
  unfold State.changeEntry; try dsimp only
  (repeat' split) <;> simp
@[simp] theorem State.changeEntry_stu (s : State) (r : RefId) (f : RefEntry → RefEntry) : (s.changeEntry r f).stu = s.stu := by
  unfold State.changeEntry; try dsimp only
  (repeat' split) <;> simp
@[simp] theorem State.changeEntry_links (s : State) (r : RefId) (f : RefEntry → RefEntry) : (s.changeEntry r f).links = s.links := by
  unfold State.changeEntry; try dsimp only
  (repeat' split) <;> simp
@[simp] theorem State.changeEntry_atu (s : State) (r : RefId) (f : RefEntry → RefEntry) : (s.changeEntry r f).atu = s.atu := by
  unfold State.changeEntry; try dsimp only
  (repeat' split) <;> simp
@[simp] theorem State.changeEntry_port (s : State) (r : RefId) (f : RefEntry → RefEntry) : (s.changeEntry r f).port = s.port := by
  unfold State.changeEntry; try dsimp only
  (repeat' split) <;> simp

/-! ### force -/

@[simp] theorem State.force_pending (s : State) (r : RefId) : (s.force r).pending = s.pending := by
  unfold State.force; try dsimp only
  (repeat' split) <;> simp
@[simp] theorem State.force_clock (s : State) (r : RefId) : (s.force r).clock = s.clock := by
  unfold State.force; try dsimp only
  (repeat' split) <;> simp
@[simp] theorem State.force_tb (s : State) (r : RefId) : (s.force r).tb = s.tb := by
  unfold State.force; try dsimp only
  (repeat' split) <;> simp
@[simp] theorem State.force_published (s : State) (r : RefId) : (s.force r).published = s.published := by
  unfold State.force; try dsimp only
  (repeat' split) <;> simp
@[simp] theorem State.force_older (s : State) (r : RefId) : (s.force r).older = s.older := by
  unfold State.force; try dsimp only
  (repeat' split) <;> simp
@[simp] theorem State.force_rm (s : State) (r : RefId) : (s.force r).rm = s.rm := by
  unfold State.force; try dsimp only
  (repeat' split) <;> simp
@[simp] theorem State.force_stu (s : State) (r : RefId) : (s.force r).stu = s.stu := by
  unfold State.force; try dsimp only
  (repeat' split) <;> simp
@[simp] theorem State.force_links (s : State) (r : RefId) : (s.force r).links = s.links := by
  unfold State.force; try dsimp only
  (repeat' split) <;> simp
@[simp] theorem State.force_atu (s : State) (r : RefId) : (s.force r).atu = s.atu := by
  unfold State.force; try dsimp only
  (repeat' split) <;> simp
@[simp] theorem State.force_port (s : State) (r : RefId) : (s.force r).port = s.port := by
  unfold State.force; try dsimp only
  (repeat' split) <;> simp

/-! ### release -/

@[simp] theorem State.release_pending (s : State) : (s.release).pending = s.pending := by
  unfold State.release; try dsimp only
  (repeat' split) <;> simp
@[simp] theorem State.release_clock (s : State) : (s.release).clock = s.clock := by
  unfold State.release; try dsimp only
  (repeat' split) <;> simp
@[simp] theorem State.release_tb (s : State) : (s.release).tb = s.tb := by
  unfold State.release; try dsimp only
  (repeat' split) <;> simp
@[simp] theorem State.release_published (s : State) : (s.release).published = s.published := by
  unfold State.release; try dsimp only
  (repeat' split) <;> simp
@[simp] theorem State.release_older (s : State) : (s.release).older = s.older := by
  unfold State.release; try dsimp only
  (repeat' split) <;> simp
@[simp] theorem State.release_rm (s : State) : (s.release).rm = s.rm := by
  unfold State.release; try dsimp only
  (repeat' split) <;> simp
@[simp] theorem State.release_stu (s : State) : (s.release).stu = s.stu := by
  unfold State.release; try dsimp only
  (repeat' split) <;> simp
@[simp] theorem State.release_links (s : State) : (s.release).links = s.links := by
  unfold State.release; try dsimp only
  (repeat' split) <;> simp
@[simp] theorem State.release_atu (s : State) : (s.release).atu = s.atu := by
  unfold State.release; try dsimp only
  (repeat' split) <;> simp
@[simp] theorem State.release_port (s : State) : (s.release).port = s.port := by
  unfold State.release; try dsimp only
  (repeat' split) <;> simp

/-! ### formSample -/

@[simp] theorem State.formSample_pending (s : State) (r : RefId) (v : Int) (i : EdgeInfo) : (s.formSample r v i).pending = s.pending := by
  unfold State.formSample; try dsimp only
  (repeat' split) <;> simp
@[simp] theorem State.formSample_clock (s : State) (r : RefId) (v : Int) (i : EdgeInfo) : (s.formSample r v i).clock = s.clock := by
  unfold State.formSample; try dsimp only
  (repeat' split) <;> simp
@[simp] theorem State.formSample_tb (s : State) (r : RefId) (v : Int) (i : EdgeInfo) : (s.formSample r v i).tb = s.tb := by
  unfold State.formSample; try dsimp only
  (repeat' split) <;> simp
@[simp] theorem State.formSample_published (s : State) (r : RefId) (v : Int) (i : EdgeInfo) : (s.formSample r v i).published = s.published := by
  unfold State.formSample; try dsimp only
  (repeat' split) <;> simp
@[simp] theorem State.formSample_older (s : State) (r : RefId) (v : Int) (i : EdgeInfo) : (s.formSample r v i).older = s.older := by
  unfold State.formSample; try dsimp only
  (repeat' split) <;> simp
@[simp] theorem State.formSample_stu (s : State) (r : RefId) (v : Int) (i : EdgeInfo) : (s.formSample r v i).stu = s.stu := by
  unfold State.formSample; try dsimp only
  (repeat' split) <;> simp
@[simp] theorem State.formSample_links (s : State) (r : RefId) (v : Int) (i : EdgeInfo) : (s.formSample r v i).links = s.links := by
  unfold State.formSample; try dsimp only
  (repeat' split) <;> simp
@[simp] theorem State.formSample_atu (s : State) (r : RefId) (v : Int) (i : EdgeInfo) : (s.formSample r v i).atu = s.atu := by
  unfold State.formSample; try dsimp only
  (repeat' split) <;> simp
@[simp] theorem State.formSample_port (s : State) (r : RefId) (v : Int) (i : EdgeInfo) : (s.formSample r v i).port = s.port := by
  unfold State.formSample; try dsimp only
  (repeat' split) <;> simp

/-! ### measureEdge -/

@[simp] theorem State.measureEdge_pending (s : State) (r : RefId) (e : Instant) (i : EdgeInfo) : (s.measureEdge r e i).pending = s.pending := by
  unfold State.measureEdge; try dsimp only
  (repeat' split) <;> simp
@[simp] theorem State.measureEdge_clock (s : State) (r : RefId) (e : Instant) (i : EdgeInfo) : (s.measureEdge r e i).clock = s.clock := by
  unfold State.measureEdge; try dsimp only
  (repeat' split) <;> simp
@[simp] theorem State.measureEdge_tb (s : State) (r : RefId) (e : Instant) (i : EdgeInfo) : (s.measureEdge r e i).tb = s.tb := by
  unfold State.measureEdge; try dsimp only
  (repeat' split) <;> simp
@[simp] theorem State.measureEdge_published (s : State) (r : RefId) (e : Instant) (i : EdgeInfo) : (s.measureEdge r e i).published = s.published := by
  unfold State.measureEdge; try dsimp only
  (repeat' split) <;> simp
@[simp] theorem State.measureEdge_older (s : State) (r : RefId) (e : Instant) (i : EdgeInfo) : (s.measureEdge r e i).older = s.older := by
  unfold State.measureEdge; try dsimp only
  (repeat' split) <;> simp
@[simp] theorem State.measureEdge_stu (s : State) (r : RefId) (e : Instant) (i : EdgeInfo) : (s.measureEdge r e i).stu = s.stu := by
  unfold State.measureEdge; try dsimp only
  (repeat' split) <;> simp
@[simp] theorem State.measureEdge_links (s : State) (r : RefId) (e : Instant) (i : EdgeInfo) : (s.measureEdge r e i).links = s.links := by
  unfold State.measureEdge; try dsimp only
  (repeat' split) <;> simp
@[simp] theorem State.measureEdge_atu (s : State) (r : RefId) (e : Instant) (i : EdgeInfo) : (s.measureEdge r e i).atu = s.atu := by
  unfold State.measureEdge; try dsimp only
  (repeat' split) <;> simp
@[simp] theorem State.measureEdge_port (s : State) (r : RefId) (e : Instant) (i : EdgeInfo) : (s.measureEdge r e i).port = s.port := by
  unfold State.measureEdge; try dsimp only
  (repeat' split) <;> simp

/-! ### takePulse -/

@[simp] theorem State.takePulse_pending (s : State) (i : SatId) (t : Instant) : (s.takePulse i t).pending = s.pending := by
  unfold State.takePulse; try dsimp only
  (repeat' split) <;> simp
@[simp] theorem State.takePulse_clock (s : State) (i : SatId) (t : Instant) : (s.takePulse i t).clock = s.clock := by
  unfold State.takePulse; try dsimp only
  (repeat' split) <;> simp
@[simp] theorem State.takePulse_tb (s : State) (i : SatId) (t : Instant) : (s.takePulse i t).tb = s.tb := by
  unfold State.takePulse; try dsimp only
  (repeat' split) <;> simp
@[simp] theorem State.takePulse_published (s : State) (i : SatId) (t : Instant) : (s.takePulse i t).published = s.published := by
  unfold State.takePulse; try dsimp only
  (repeat' split) <;> simp
@[simp] theorem State.takePulse_older (s : State) (i : SatId) (t : Instant) : (s.takePulse i t).older = s.older := by
  unfold State.takePulse; try dsimp only
  (repeat' split) <;> simp
@[simp] theorem State.takePulse_stu (s : State) (i : SatId) (t : Instant) : (s.takePulse i t).stu = s.stu := by
  unfold State.takePulse; try dsimp only
  (repeat' split) <;> simp
@[simp] theorem State.takePulse_links (s : State) (i : SatId) (t : Instant) : (s.takePulse i t).links = s.links := by
  unfold State.takePulse; try dsimp only
  (repeat' split) <;> simp
@[simp] theorem State.takePulse_atu (s : State) (i : SatId) (t : Instant) : (s.takePulse i t).atu = s.atu := by
  unfold State.takePulse; try dsimp only
  (repeat' split) <;> simp
@[simp] theorem State.takePulse_port (s : State) (i : SatId) (t : Instant) : (s.takePulse i t).port = s.port := by
  unfold State.takePulse; try dsimp only
  (repeat' split) <;> simp

/-! ### accountEntry -/

@[simp] theorem State.accountEntry_pending (s : State) (r : RefId) : (s.accountEntry r).pending = s.pending := by
  unfold State.accountEntry; try dsimp only
  (repeat' split) <;> simp
@[simp] theorem State.accountEntry_clock (s : State) (r : RefId) : (s.accountEntry r).clock = s.clock := by
  unfold State.accountEntry; try dsimp only
  (repeat' split) <;> simp
@[simp] theorem State.accountEntry_tb (s : State) (r : RefId) : (s.accountEntry r).tb = s.tb := by
  unfold State.accountEntry; try dsimp only
  (repeat' split) <;> simp
@[simp] theorem State.accountEntry_published (s : State) (r : RefId) : (s.accountEntry r).published = s.published := by
  unfold State.accountEntry; try dsimp only
  (repeat' split) <;> simp
@[simp] theorem State.accountEntry_older (s : State) (r : RefId) : (s.accountEntry r).older = s.older := by
  unfold State.accountEntry; try dsimp only
  (repeat' split) <;> simp
@[simp] theorem State.accountEntry_stu (s : State) (r : RefId) : (s.accountEntry r).stu = s.stu := by
  unfold State.accountEntry; try dsimp only
  (repeat' split) <;> simp
@[simp] theorem State.accountEntry_links (s : State) (r : RefId) : (s.accountEntry r).links = s.links := by
  unfold State.accountEntry; try dsimp only
  (repeat' split) <;> simp
@[simp] theorem State.accountEntry_atu (s : State) (r : RefId) : (s.accountEntry r).atu = s.atu := by
  unfold State.accountEntry; try dsimp only
  (repeat' split) <;> simp
@[simp] theorem State.accountEntry_port (s : State) (r : RefId) : (s.accountEntry r).port = s.port := by
  unfold State.accountEntry; try dsimp only
  (repeat' split) <;> simp

/-! ### measureFrame -/

@[simp] theorem State.measureFrame_pending (s : State) (t : Instant) (f : TimeFrame) : (s.measureFrame t f).pending = s.pending := by
  unfold State.measureFrame; try dsimp only
  (repeat' split) <;> simp
@[simp] theorem State.measureFrame_clock (s : State) (t : Instant) (f : TimeFrame) : (s.measureFrame t f).clock = s.clock := by
  unfold State.measureFrame; try dsimp only
  (repeat' split) <;> simp
@[simp] theorem State.measureFrame_tb (s : State) (t : Instant) (f : TimeFrame) : (s.measureFrame t f).tb = s.tb := by
  unfold State.measureFrame; try dsimp only
  (repeat' split) <;> simp
@[simp] theorem State.measureFrame_published (s : State) (t : Instant) (f : TimeFrame) : (s.measureFrame t f).published = s.published := by
  unfold State.measureFrame; try dsimp only
  (repeat' split) <;> simp
@[simp] theorem State.measureFrame_older (s : State) (t : Instant) (f : TimeFrame) : (s.measureFrame t f).older = s.older := by
  unfold State.measureFrame; try dsimp only
  (repeat' split) <;> simp
@[simp] theorem State.measureFrame_stu (s : State) (t : Instant) (f : TimeFrame) : (s.measureFrame t f).stu = s.stu := by
  unfold State.measureFrame; try dsimp only
  (repeat' split) <;> simp
@[simp] theorem State.measureFrame_links (s : State) (t : Instant) (f : TimeFrame) : (s.measureFrame t f).links = s.links := by
  unfold State.measureFrame; try dsimp only
  (repeat' split) <;> simp
@[simp] theorem State.measureFrame_atu (s : State) (t : Instant) (f : TimeFrame) : (s.measureFrame t f).atu = s.atu := by
  unfold State.measureFrame; try dsimp only
  (repeat' split) <;> simp
@[simp] theorem State.measureFrame_port (s : State) (t : Instant) (f : TimeFrame) : (s.measureFrame t f).port = s.port := by
  unfold State.measureFrame; try dsimp only
  (repeat' split) <;> simp

/-! ### loseParent -/

@[simp] theorem State.loseParent_pending (s : State) : (s.loseParent).pending = s.pending := by
  unfold State.loseParent; try dsimp only
  (repeat' split) <;> simp
@[simp] theorem State.loseParent_clock (s : State) : (s.loseParent).clock = s.clock := by
  unfold State.loseParent; try dsimp only
  (repeat' split) <;> simp
@[simp] theorem State.loseParent_tb (s : State) : (s.loseParent).tb = s.tb := by
  unfold State.loseParent; try dsimp only
  (repeat' split) <;> simp
@[simp] theorem State.loseParent_published (s : State) : (s.loseParent).published = s.published := by
  unfold State.loseParent; try dsimp only
  (repeat' split) <;> simp
@[simp] theorem State.loseParent_older (s : State) : (s.loseParent).older = s.older := by
  unfold State.loseParent; try dsimp only
  (repeat' split) <;> simp
@[simp] theorem State.loseParent_stu (s : State) : (s.loseParent).stu = s.stu := by
  unfold State.loseParent; try dsimp only
  (repeat' split) <;> simp
@[simp] theorem State.loseParent_links (s : State) : (s.loseParent).links = s.links := by
  unfold State.loseParent; try dsimp only
  (repeat' split) <;> simp
@[simp] theorem State.loseParent_atu (s : State) : (s.loseParent).atu = s.atu := by
  unfold State.loseParent; try dsimp only
  (repeat' split) <;> simp
@[simp] theorem State.loseParent_port (s : State) : (s.loseParent).port = s.port := by
  unfold State.loseParent; try dsimp only
  (repeat' split) <;> simp

/-! ### setGeneral -/

@[simp] theorem State.setGeneral_pending (s : State) (r : RefId) (g : RefGeneralReq) : (s.setGeneral r g).pending = s.pending := by
  unfold State.setGeneral; try dsimp only
  (repeat' split) <;> simp
@[simp] theorem State.setGeneral_clock (s : State) (r : RefId) (g : RefGeneralReq) : (s.setGeneral r g).clock = s.clock := by
  unfold State.setGeneral; try dsimp only
  (repeat' split) <;> simp
@[simp] theorem State.setGeneral_tb (s : State) (r : RefId) (g : RefGeneralReq) : (s.setGeneral r g).tb = s.tb := by
  unfold State.setGeneral; try dsimp only
  (repeat' split) <;> simp
@[simp] theorem State.setGeneral_published (s : State) (r : RefId) (g : RefGeneralReq) : (s.setGeneral r g).published = s.published := by
  unfold State.setGeneral; try dsimp only
  (repeat' split) <;> simp
@[simp] theorem State.setGeneral_older (s : State) (r : RefId) (g : RefGeneralReq) : (s.setGeneral r g).older = s.older := by
  unfold State.setGeneral; try dsimp only
  (repeat' split) <;> simp
@[simp] theorem State.setGeneral_stu (s : State) (r : RefId) (g : RefGeneralReq) : (s.setGeneral r g).stu = s.stu := by
  unfold State.setGeneral; try dsimp only
  (repeat' split) <;> simp
@[simp] theorem State.setGeneral_links (s : State) (r : RefId) (g : RefGeneralReq) : (s.setGeneral r g).links = s.links := by
  unfold State.setGeneral; try dsimp only
  (repeat' split) <;> simp
@[simp] theorem State.setGeneral_atu (s : State) (r : RefId) (g : RefGeneralReq) : (s.setGeneral r g).atu = s.atu := by
  unfold State.setGeneral; try dsimp only
  (repeat' split) <;> simp
@[simp] theorem State.setGeneral_port (s : State) (r : RefId) (g : RefGeneralReq) : (s.setGeneral r g).port = s.port := by
  unfold State.setGeneral; try dsimp only
  (repeat' split) <;> simp

/-! ### removeRecord -/

@[simp] theorem State.removeRecord_pending (s : State) (r : SiteRecord) : (s.removeRecord r).pending = s.pending := rfl
@[simp] theorem State.removeRecord_clock (s : State) (r : SiteRecord) : (s.removeRecord r).clock = s.clock := rfl
@[simp] theorem State.removeRecord_tb (s : State) (r : SiteRecord) : (s.removeRecord r).tb = s.tb := rfl
@[simp] theorem State.removeRecord_published (s : State) (r : SiteRecord) : (s.removeRecord r).published = s.published := rfl
@[simp] theorem State.removeRecord_older (s : State) (r : SiteRecord) : (s.removeRecord r).older = s.older := rfl
@[simp] theorem State.removeRecord_rm (s : State) (r : SiteRecord) : (s.removeRecord r).rm = s.rm := rfl
@[simp] theorem State.removeRecord_sel (s : State) (r : SiteRecord) : (s.removeRecord r).sel = s.sel := rfl
@[simp] theorem State.removeRecord_port (s : State) (r : SiteRecord) : (s.removeRecord r).port = s.port := rfl

/-! ### createRecord -/

@[simp] theorem State.createRecord_pending (s : State) (h i : Nat) (l : LinkId) (d : Nat) (c : Option Capability) : (s.createRecord h i l d c).pending = s.pending := rfl
@[simp] theorem State.createRecord_clock (s : State) (h i : Nat) (l : LinkId) (d : Nat) (c : Option Capability) : (s.createRecord h i l d c).clock = s.clock := rfl
@[simp] theorem State.createRecord_tb (s : State) (h i : Nat) (l : LinkId) (d : Nat) (c : Option Capability) : (s.createRecord h i l d c).tb = s.tb := rfl
@[simp] theorem State.createRecord_published (s : State) (h i : Nat) (l : LinkId) (d : Nat) (c : Option Capability) : (s.createRecord h i l d c).published = s.published := rfl
@[simp] theorem State.createRecord_older (s : State) (h i : Nat) (l : LinkId) (d : Nat) (c : Option Capability) : (s.createRecord h i l d c).older = s.older := rfl
@[simp] theorem State.createRecord_rm (s : State) (h i : Nat) (l : LinkId) (d : Nat) (c : Option Capability) : (s.createRecord h i l d c).rm = s.rm := rfl
@[simp] theorem State.createRecord_sel (s : State) (h i : Nat) (l : LinkId) (d : Nat) (c : Option Capability) : (s.createRecord h i l d c).sel = s.sel := rfl
@[simp] theorem State.createRecord_links (s : State) (h i : Nat) (l : LinkId) (d : Nat) (c : Option Capability) : (s.createRecord h i l d c).links = s.links := rfl
@[simp] theorem State.createRecord_atu (s : State) (h i : Nat) (l : LinkId) (d : Nat) (c : Option Capability) : (s.createRecord h i l d c).atu = s.atu := rfl
@[simp] theorem State.createRecord_port (s : State) (h i : Nat) (l : LinkId) (d : Nat) (c : Option Capability) : (s.createRecord h i l d c).port = s.port := rfl

/-! ### decideEnrol -/

@[simp] theorem State.decideEnrol_pending (s : State) (l : LinkId) (e : EnrolResult) : (s.decideEnrol l e).pending = s.pending := by
  unfold State.decideEnrol; try dsimp only
  (repeat' split) <;> simp
@[simp] theorem State.decideEnrol_clock (s : State) (l : LinkId) (e : EnrolResult) : (s.decideEnrol l e).clock = s.clock := by
  unfold State.decideEnrol; try dsimp only
  (repeat' split) <;> simp
@[simp] theorem State.decideEnrol_tb (s : State) (l : LinkId) (e : EnrolResult) : (s.decideEnrol l e).tb = s.tb := by
  unfold State.decideEnrol; try dsimp only
  (repeat' split) <;> simp
@[simp] theorem State.decideEnrol_published (s : State) (l : LinkId) (e : EnrolResult) : (s.decideEnrol l e).published = s.published := by
  unfold State.decideEnrol; try dsimp only
  (repeat' split) <;> simp
@[simp] theorem State.decideEnrol_older (s : State) (l : LinkId) (e : EnrolResult) : (s.decideEnrol l e).older = s.older := by
  unfold State.decideEnrol; try dsimp only
  (repeat' split) <;> simp
@[simp] theorem State.decideEnrol_rm (s : State) (l : LinkId) (e : EnrolResult) : (s.decideEnrol l e).rm = s.rm := by
  unfold State.decideEnrol; try dsimp only
  (repeat' split) <;> simp
@[simp] theorem State.decideEnrol_sel (s : State) (l : LinkId) (e : EnrolResult) : (s.decideEnrol l e).sel = s.sel := by
  unfold State.decideEnrol; try dsimp only
  (repeat' split) <;> simp
@[simp] theorem State.decideEnrol_atu (s : State) (l : LinkId) (e : EnrolResult) : (s.decideEnrol l e).atu = s.atu := by
  unfold State.decideEnrol; try dsimp only
  (repeat' split) <;> simp
@[simp] theorem State.decideEnrol_port (s : State) (l : LinkId) (e : EnrolResult) : (s.decideEnrol l e).port = s.port := by
  unfold State.decideEnrol; try dsimp only
  (repeat' split) <;> simp

/-! ### queueRetire -/

@[simp] theorem State.queueRetire_pending (s : State) (r : SiteRecord) : (s.queueRetire r).pending = s.pending := rfl
@[simp] theorem State.queueRetire_clock (s : State) (r : SiteRecord) : (s.queueRetire r).clock = s.clock := rfl
@[simp] theorem State.queueRetire_tb (s : State) (r : SiteRecord) : (s.queueRetire r).tb = s.tb := rfl
@[simp] theorem State.queueRetire_published (s : State) (r : SiteRecord) : (s.queueRetire r).published = s.published := rfl
@[simp] theorem State.queueRetire_older (s : State) (r : SiteRecord) : (s.queueRetire r).older = s.older := rfl
@[simp] theorem State.queueRetire_rm (s : State) (r : SiteRecord) : (s.queueRetire r).rm = s.rm := rfl
@[simp] theorem State.queueRetire_sel (s : State) (r : SiteRecord) : (s.queueRetire r).sel = s.sel := rfl
@[simp] theorem State.queueRetire_atu (s : State) (r : SiteRecord) : (s.queueRetire r).atu = s.atu := rfl
@[simp] theorem State.queueRetire_port (s : State) (r : SiteRecord) : (s.queueRetire r).port = s.port := rfl

/-! ### applyAmendment -/

@[simp] theorem State.applyAmendment_pending (s : State) (r : SiteRecord) : (s.applyAmendment r).pending = s.pending := by
  unfold State.applyAmendment; try dsimp only
  (repeat' split) <;> simp
@[simp] theorem State.applyAmendment_clock (s : State) (r : SiteRecord) : (s.applyAmendment r).clock = s.clock := by
  unfold State.applyAmendment; try dsimp only
  (repeat' split) <;> simp
@[simp] theorem State.applyAmendment_tb (s : State) (r : SiteRecord) : (s.applyAmendment r).tb = s.tb := by
  unfold State.applyAmendment; try dsimp only
  (repeat' split) <;> simp
@[simp] theorem State.applyAmendment_published (s : State) (r : SiteRecord) : (s.applyAmendment r).published = s.published := by
  unfold State.applyAmendment; try dsimp only
  (repeat' split) <;> simp
@[simp] theorem State.applyAmendment_older (s : State) (r : SiteRecord) : (s.applyAmendment r).older = s.older := by
  unfold State.applyAmendment; try dsimp only
  (repeat' split) <;> simp
@[simp] theorem State.applyAmendment_rm (s : State) (r : SiteRecord) : (s.applyAmendment r).rm = s.rm := by
  unfold State.applyAmendment; try dsimp only
  (repeat' split) <;> simp
@[simp] theorem State.applyAmendment_sel (s : State) (r : SiteRecord) : (s.applyAmendment r).sel = s.sel := by
  unfold State.applyAmendment; try dsimp only
  (repeat' split) <;> simp
@[simp] theorem State.applyAmendment_atu (s : State) (r : SiteRecord) : (s.applyAmendment r).atu = s.atu := by
  unfold State.applyAmendment; try dsimp only
  (repeat' split) <;> simp
@[simp] theorem State.applyAmendment_port (s : State) (r : SiteRecord) : (s.applyAmendment r).port = s.port := by
  unfold State.applyAmendment; try dsimp only
  (repeat' split) <;> simp

/-! ### endFrame -/

@[simp] theorem State.endFrame_pending (s : State) (l : LinkId) : (s.endFrame l).pending = s.pending := rfl
@[simp] theorem State.endFrame_clock (s : State) (l : LinkId) : (s.endFrame l).clock = s.clock := rfl
@[simp] theorem State.endFrame_tb (s : State) (l : LinkId) : (s.endFrame l).tb = s.tb := rfl
@[simp] theorem State.endFrame_published (s : State) (l : LinkId) : (s.endFrame l).published = s.published := rfl
@[simp] theorem State.endFrame_older (s : State) (l : LinkId) : (s.endFrame l).older = s.older := rfl
@[simp] theorem State.endFrame_rm (s : State) (l : LinkId) : (s.endFrame l).rm = s.rm := rfl
@[simp] theorem State.endFrame_sel (s : State) (l : LinkId) : (s.endFrame l).sel = s.sel := rfl
@[simp] theorem State.endFrame_atu (s : State) (l : LinkId) : (s.endFrame l).atu = s.atu := rfl
@[simp] theorem State.endFrame_port (s : State) (l : LinkId) : (s.endFrame l).port = s.port := rfl

/-! ### badFrame -/

@[simp] theorem State.badFrame_pending (s : State) (l : LinkId) : (s.badFrame l).pending = s.pending := by
  unfold State.badFrame; try dsimp only
  (repeat' split) <;> simp
@[simp] theorem State.badFrame_clock (s : State) (l : LinkId) : (s.badFrame l).clock = s.clock := by
  unfold State.badFrame; try dsimp only
  (repeat' split) <;> simp
@[simp] theorem State.badFrame_tb (s : State) (l : LinkId) : (s.badFrame l).tb = s.tb := by
  unfold State.badFrame; try dsimp only
  (repeat' split) <;> simp
@[simp] theorem State.badFrame_published (s : State) (l : LinkId) : (s.badFrame l).published = s.published := by
  unfold State.badFrame; try dsimp only
  (repeat' split) <;> simp
@[simp] theorem State.badFrame_older (s : State) (l : LinkId) : (s.badFrame l).older = s.older := by
  unfold State.badFrame; try dsimp only
  (repeat' split) <;> simp
@[simp] theorem State.badFrame_rm (s : State) (l : LinkId) : (s.badFrame l).rm = s.rm := by
  unfold State.badFrame; try dsimp only
  (repeat' split) <;> simp
@[simp] theorem State.badFrame_sel (s : State) (l : LinkId) : (s.badFrame l).sel = s.sel := by
  unfold State.badFrame; try dsimp only
  (repeat' split) <;> simp
@[simp] theorem State.badFrame_atu (s : State) (l : LinkId) : (s.badFrame l).atu = s.atu := by
  unfold State.badFrame; try dsimp only
  (repeat' split) <;> simp
@[simp] theorem State.badFrame_port (s : State) (l : LinkId) : (s.badFrame l).port = s.port := by
  unfold State.badFrame; try dsimp only
  (repeat' split) <;> simp

/-! ### beginFrame -/

@[simp] theorem State.beginFrame_pending (s : State) (l : LinkId) (t : Instant) : (s.beginFrame l t).pending = s.pending := by
  unfold State.beginFrame; try dsimp only
  (repeat' split) <;> simp
@[simp] theorem State.beginFrame_clock (s : State) (l : LinkId) (t : Instant) : (s.beginFrame l t).clock = s.clock := by
  unfold State.beginFrame; try dsimp only
  (repeat' split) <;> simp
@[simp] theorem State.beginFrame_tb (s : State) (l : LinkId) (t : Instant) : (s.beginFrame l t).tb = s.tb := by
  unfold State.beginFrame; try dsimp only
  (repeat' split) <;> simp
@[simp] theorem State.beginFrame_published (s : State) (l : LinkId) (t : Instant) : (s.beginFrame l t).published = s.published := by
  unfold State.beginFrame; try dsimp only
  (repeat' split) <;> simp
@[simp] theorem State.beginFrame_older (s : State) (l : LinkId) (t : Instant) : (s.beginFrame l t).older = s.older := by
  unfold State.beginFrame; try dsimp only
  (repeat' split) <;> simp
@[simp] theorem State.beginFrame_rm (s : State) (l : LinkId) (t : Instant) : (s.beginFrame l t).rm = s.rm := by
  unfold State.beginFrame; try dsimp only
  (repeat' split) <;> simp
@[simp] theorem State.beginFrame_sel (s : State) (l : LinkId) (t : Instant) : (s.beginFrame l t).sel = s.sel := by
  unfold State.beginFrame; try dsimp only
  (repeat' split) <;> simp
@[simp] theorem State.beginFrame_atu (s : State) (l : LinkId) (t : Instant) : (s.beginFrame l t).atu = s.atu := by
  unfold State.beginFrame; try dsimp only
  (repeat' split) <;> simp
@[simp] theorem State.beginFrame_port (s : State) (l : LinkId) (t : Instant) : (s.beginFrame l t).port = s.port := by
  unfold State.beginFrame; try dsimp only
  (repeat' split) <;> simp

/-! ### leaveUp -/

@[simp] theorem State.leaveUp_pending (s : State) (l : LinkId) : (s.leaveUp l).pending = s.pending := by
  unfold State.leaveUp; try dsimp only
  (repeat' split) <;> simp
@[simp] theorem State.leaveUp_clock (s : State) (l : LinkId) : (s.leaveUp l).clock = s.clock := by
  unfold State.leaveUp; try dsimp only
  (repeat' split) <;> simp
@[simp] theorem State.leaveUp_tb (s : State) (l : LinkId) : (s.leaveUp l).tb = s.tb := by
  unfold State.leaveUp; try dsimp only
  (repeat' split) <;> simp
@[simp] theorem State.leaveUp_published (s : State) (l : LinkId) : (s.leaveUp l).published = s.published := by
  unfold State.leaveUp; try dsimp only
  (repeat' split) <;> simp
@[simp] theorem State.leaveUp_older (s : State) (l : LinkId) : (s.leaveUp l).older = s.older := by
  unfold State.leaveUp; try dsimp only
  (repeat' split) <;> simp
@[simp] theorem State.leaveUp_rm (s : State) (l : LinkId) : (s.leaveUp l).rm = s.rm := by
  unfold State.leaveUp; try dsimp only
  (repeat' split) <;> simp
@[simp] theorem State.leaveUp_sel (s : State) (l : LinkId) : (s.leaveUp l).sel = s.sel := by
  unfold State.leaveUp; try dsimp only
  (repeat' split) <;> simp
@[simp] theorem State.leaveUp_atu (s : State) (l : LinkId) : (s.leaveUp l).atu = s.atu := by
  unfold State.leaveUp; try dsimp only
  (repeat' split) <;> simp
@[simp] theorem State.leaveUp_port (s : State) (l : LinkId) : (s.leaveUp l).port = s.port := by
  unfold State.leaveUp; try dsimp only
  (repeat' split) <;> simp

/-! ### restartLink -/

@[simp] theorem State.restartLink_pending (s : State) (l : LinkId) : (s.restartLink l).pending = s.pending := by
  unfold State.restartLink; try dsimp only
  (repeat' split) <;> simp
@[simp] theorem State.restartLink_clock (s : State) (l : LinkId) : (s.restartLink l).clock = s.clock := by
  unfold State.restartLink; try dsimp only
  (repeat' split) <;> simp
@[simp] theorem State.restartLink_tb (s : State) (l : LinkId) : (s.restartLink l).tb = s.tb := by
  unfold State.restartLink; try dsimp only
  (repeat' split) <;> simp
@[simp] theorem State.restartLink_published (s : State) (l : LinkId) : (s.restartLink l).published = s.published := by
  unfold State.restartLink; try dsimp only
  (repeat' split) <;> simp
@[simp] theorem State.restartLink_older (s : State) (l : LinkId) : (s.restartLink l).older = s.older := by
  unfold State.restartLink; try dsimp only
  (repeat' split) <;> simp
@[simp] theorem State.restartLink_rm (s : State) (l : LinkId) : (s.restartLink l).rm = s.rm := by
  unfold State.restartLink; try dsimp only
  (repeat' split) <;> simp
@[simp] theorem State.restartLink_sel (s : State) (l : LinkId) : (s.restartLink l).sel = s.sel := by
  unfold State.restartLink; try dsimp only
  (repeat' split) <;> simp
@[simp] theorem State.restartLink_atu (s : State) (l : LinkId) : (s.restartLink l).atu = s.atu := by
  unfold State.restartLink; try dsimp only
  (repeat' split) <;> simp
@[simp] theorem State.restartLink_port (s : State) (l : LinkId) : (s.restartLink l).port = s.port := by
  unfold State.restartLink; try dsimp only
  (repeat' split) <;> simp

/-! ### serveSlot -/

@[simp] theorem State.serveSlot_pending (s : State) (l : LinkId) (k : Nat) (p : Published) (r : SiteRecord) : (s.serveSlot l k p r).pending = s.pending := by
  unfold State.serveSlot; try dsimp only
  (repeat' split) <;> simp
@[simp] theorem State.serveSlot_clock (s : State) (l : LinkId) (k : Nat) (p : Published) (r : SiteRecord) : (s.serveSlot l k p r).clock = s.clock := by
  unfold State.serveSlot; try dsimp only
  (repeat' split) <;> simp
@[simp] theorem State.serveSlot_tb (s : State) (l : LinkId) (k : Nat) (p : Published) (r : SiteRecord) : (s.serveSlot l k p r).tb = s.tb := by
  unfold State.serveSlot; try dsimp only
  (repeat' split) <;> simp
@[simp] theorem State.serveSlot_published (s : State) (l : LinkId) (k : Nat) (p : Published) (r : SiteRecord) : (s.serveSlot l k p r).published = s.published := by
  unfold State.serveSlot; try dsimp only
  (repeat' split) <;> simp
@[simp] theorem State.serveSlot_older (s : State) (l : LinkId) (k : Nat) (p : Published) (r : SiteRecord) : (s.serveSlot l k p r).older = s.older := by
  unfold State.serveSlot; try dsimp only
  (repeat' split) <;> simp
@[simp] theorem State.serveSlot_rm (s : State) (l : LinkId) (k : Nat) (p : Published) (r : SiteRecord) : (s.serveSlot l k p r).rm = s.rm := by
  unfold State.serveSlot; try dsimp only
  (repeat' split) <;> simp
@[simp] theorem State.serveSlot_sel (s : State) (l : LinkId) (k : Nat) (p : Published) (r : SiteRecord) : (s.serveSlot l k p r).sel = s.sel := by
  unfold State.serveSlot; try dsimp only
  (repeat' split) <;> simp
@[simp] theorem State.serveSlot_atu (s : State) (l : LinkId) (k : Nat) (p : Published) (r : SiteRecord) : (s.serveSlot l k p r).atu = s.atu := by
  unfold State.serveSlot; try dsimp only
  (repeat' split) <;> simp
@[simp] theorem State.serveSlot_port (s : State) (l : LinkId) (k : Nat) (p : Published) (r : SiteRecord) : (s.serveSlot l k p r).port = s.port := by
  unfold State.serveSlot; try dsimp only
  (repeat' split) <;> simp

/-! ### hearReply -/

@[simp] theorem State.hearReply_pending (s : State) (l : LinkId) (r : SiteRecord) (t : Instant) (k i : Nat) : (s.hearReply l r t k i).pending = s.pending := by
  unfold State.hearReply; try dsimp only
  (repeat' split) <;> simp
@[simp] theorem State.hearReply_clock (s : State) (l : LinkId) (r : SiteRecord) (t : Instant) (k i : Nat) : (s.hearReply l r t k i).clock = s.clock := by
  unfold State.hearReply; try dsimp only
  (repeat' split) <;> simp
@[simp] theorem State.hearReply_tb (s : State) (l : LinkId) (r : SiteRecord) (t : Instant) (k i : Nat) : (s.hearReply l r t k i).tb = s.tb := by
  unfold State.hearReply; try dsimp only
  (repeat' split) <;> simp
@[simp] theorem State.hearReply_published (s : State) (l : LinkId) (r : SiteRecord) (t : Instant) (k i : Nat) : (s.hearReply l r t k i).published = s.published := by
  unfold State.hearReply; try dsimp only
  (repeat' split) <;> simp
@[simp] theorem State.hearReply_older (s : State) (l : LinkId) (r : SiteRecord) (t : Instant) (k i : Nat) : (s.hearReply l r t k i).older = s.older := by
  unfold State.hearReply; try dsimp only
  (repeat' split) <;> simp
@[simp] theorem State.hearReply_rm (s : State) (l : LinkId) (r : SiteRecord) (t : Instant) (k i : Nat) : (s.hearReply l r t k i).rm = s.rm := by
  unfold State.hearReply; try dsimp only
  (repeat' split) <;> simp
@[simp] theorem State.hearReply_sel (s : State) (l : LinkId) (r : SiteRecord) (t : Instant) (k i : Nat) : (s.hearReply l r t k i).sel = s.sel := by
  unfold State.hearReply; try dsimp only
  (repeat' split) <;> simp
@[simp] theorem State.hearReply_atu (s : State) (l : LinkId) (r : SiteRecord) (t : Instant) (k i : Nat) : (s.hearReply l r t k i).atu = s.atu := by
  unfold State.hearReply; try dsimp only
  (repeat' split) <;> simp
@[simp] theorem State.hearReply_port (s : State) (l : LinkId) (r : SiteRecord) (t : Instant) (k i : Nat) : (s.hearReply l r t k i).port = s.port := by
  unfold State.hearReply; try dsimp only
  (repeat' split) <;> simp

/-! ### serveReply -/

@[simp] theorem State.serveReply_pending (s : State) (l : LinkId) (t : Instant) (a k i : Nat) : (s.serveReply l t a k i).pending = s.pending := by
  unfold State.serveReply; try dsimp only
  (repeat' split) <;> simp
@[simp] theorem State.serveReply_clock (s : State) (l : LinkId) (t : Instant) (a k i : Nat) : (s.serveReply l t a k i).clock = s.clock := by
  unfold State.serveReply; try dsimp only
  (repeat' split) <;> simp
@[simp] theorem State.serveReply_tb (s : State) (l : LinkId) (t : Instant) (a k i : Nat) : (s.serveReply l t a k i).tb = s.tb := by
  unfold State.serveReply; try dsimp only
  (repeat' split) <;> simp
@[simp] theorem State.serveReply_published (s : State) (l : LinkId) (t : Instant) (a k i : Nat) : (s.serveReply l t a k i).published = s.published := by
  unfold State.serveReply; try dsimp only
  (repeat' split) <;> simp
@[simp] theorem State.serveReply_older (s : State) (l : LinkId) (t : Instant) (a k i : Nat) : (s.serveReply l t a k i).older = s.older := by
  unfold State.serveReply; try dsimp only
  (repeat' split) <;> simp
@[simp] theorem State.serveReply_rm (s : State) (l : LinkId) (t : Instant) (a k i : Nat) : (s.serveReply l t a k i).rm = s.rm := by
  unfold State.serveReply; try dsimp only
  (repeat' split) <;> simp
@[simp] theorem State.serveReply_sel (s : State) (l : LinkId) (t : Instant) (a k i : Nat) : (s.serveReply l t a k i).sel = s.sel := by
  unfold State.serveReply; try dsimp only
  (repeat' split) <;> simp
@[simp] theorem State.serveReply_atu (s : State) (l : LinkId) (t : Instant) (a k i : Nat) : (s.serveReply l t a k i).atu = s.atu := by
  unfold State.serveReply; try dsimp only
  (repeat' split) <;> simp
@[simp] theorem State.serveReply_port (s : State) (l : LinkId) (t : Instant) (a k i : Nat) : (s.serveReply l t a k i).port = s.port := by
  unfold State.serveReply; try dsimp only
  (repeat' split) <;> simp

/-! ### serveEnrol -/

@[simp] theorem State.serveEnrol_pending (s : State) (l : LinkId) (t : Instant) (a i : Nat) (c : Byte) : (s.serveEnrol l t a i c).pending = s.pending := by
  unfold State.serveEnrol; try dsimp only
  (repeat' split) <;> simp
@[simp] theorem State.serveEnrol_clock (s : State) (l : LinkId) (t : Instant) (a i : Nat) (c : Byte) : (s.serveEnrol l t a i c).clock = s.clock := by
  unfold State.serveEnrol; try dsimp only
  (repeat' split) <;> simp
@[simp] theorem State.serveEnrol_tb (s : State) (l : LinkId) (t : Instant) (a i : Nat) (c : Byte) : (s.serveEnrol l t a i c).tb = s.tb := by
  unfold State.serveEnrol; try dsimp only
  (repeat' split) <;> simp
@[simp] theorem State.serveEnrol_published (s : State) (l : LinkId) (t : Instant) (a i : Nat) (c : Byte) : (s.serveEnrol l t a i c).published = s.published := by
  unfold State.serveEnrol; try dsimp only
  (repeat' split) <;> simp
@[simp] theorem State.serveEnrol_older (s : State) (l : LinkId) (t : Instant) (a i : Nat) (c : Byte) : (s.serveEnrol l t a i c).older = s.older := by
  unfold State.serveEnrol; try dsimp only
  (repeat' split) <;> simp
@[simp] theorem State.serveEnrol_rm (s : State) (l : LinkId) (t : Instant) (a i : Nat) (c : Byte) : (s.serveEnrol l t a i c).rm = s.rm := by
  unfold State.serveEnrol; try dsimp only
  (repeat' split) <;> simp
@[simp] theorem State.serveEnrol_sel (s : State) (l : LinkId) (t : Instant) (a i : Nat) (c : Byte) : (s.serveEnrol l t a i c).sel = s.sel := by
  unfold State.serveEnrol; try dsimp only
  (repeat' split) <;> simp
@[simp] theorem State.serveEnrol_stu (s : State) (l : LinkId) (t : Instant) (a i : Nat) (c : Byte) : (s.serveEnrol l t a i c).stu = s.stu := by
  unfold State.serveEnrol; try dsimp only
  (repeat' split) <;> simp
@[simp] theorem State.serveEnrol_atu (s : State) (l : LinkId) (t : Instant) (a i : Nat) (c : Byte) : (s.serveEnrol l t a i c).atu = s.atu := by
  unfold State.serveEnrol; try dsimp only
  (repeat' split) <;> simp
@[simp] theorem State.serveEnrol_port (s : State) (l : LinkId) (t : Instant) (a i : Nat) (c : Byte) : (s.serveEnrol l t a i c).port = s.port := by
  unfold State.serveEnrol; try dsimp only
  (repeat' split) <;> simp

/-! ### parentCall -/

@[simp] theorem State.parentCall_pending (s : State) (l : LinkId) (t : Instant) : (s.parentCall l t).pending = s.pending := by
  unfold State.parentCall; try dsimp only
  (repeat' split) <;> simp
@[simp] theorem State.parentCall_clock (s : State) (l : LinkId) (t : Instant) : (s.parentCall l t).clock = s.clock := by
  unfold State.parentCall; try dsimp only
  (repeat' split) <;> simp
@[simp] theorem State.parentCall_tb (s : State) (l : LinkId) (t : Instant) : (s.parentCall l t).tb = s.tb := by
  unfold State.parentCall; try dsimp only
  (repeat' split) <;> simp
@[simp] theorem State.parentCall_published (s : State) (l : LinkId) (t : Instant) : (s.parentCall l t).published = s.published := by
  unfold State.parentCall; try dsimp only
  (repeat' split) <;> simp
@[simp] theorem State.parentCall_older (s : State) (l : LinkId) (t : Instant) : (s.parentCall l t).older = s.older := by
  unfold State.parentCall; try dsimp only
  (repeat' split) <;> simp
@[simp] theorem State.parentCall_rm (s : State) (l : LinkId) (t : Instant) : (s.parentCall l t).rm = s.rm := by
  unfold State.parentCall; try dsimp only
  (repeat' split) <;> simp
@[simp] theorem State.parentCall_sel (s : State) (l : LinkId) (t : Instant) : (s.parentCall l t).sel = s.sel := by
  unfold State.parentCall; try dsimp only
  (repeat' split) <;> simp
@[simp] theorem State.parentCall_stu (s : State) (l : LinkId) (t : Instant) : (s.parentCall l t).stu = s.stu := by
  unfold State.parentCall; try dsimp only
  (repeat' split) <;> simp
@[simp] theorem State.parentCall_atu (s : State) (l : LinkId) (t : Instant) : (s.parentCall l t).atu = s.atu := by
  unfold State.parentCall; try dsimp only
  (repeat' split) <;> simp
@[simp] theorem State.parentCall_port (s : State) (l : LinkId) (t : Instant) : (s.parentCall l t).port = s.port := by
  unfold State.parentCall; try dsimp only
  (repeat' split) <;> simp

/-! ### parentTime -/

@[simp] theorem State.parentTime_pending (s : State) (l : LinkId) (t : Instant) (f : TimeFrame) : (s.parentTime l t f).pending = s.pending := by
  unfold State.parentTime; try dsimp only
  (repeat' split) <;> simp
@[simp] theorem State.parentTime_clock (s : State) (l : LinkId) (t : Instant) (f : TimeFrame) : (s.parentTime l t f).clock = s.clock := by
  unfold State.parentTime; try dsimp only
  (repeat' split) <;> simp
@[simp] theorem State.parentTime_tb (s : State) (l : LinkId) (t : Instant) (f : TimeFrame) : (s.parentTime l t f).tb = s.tb := by
  unfold State.parentTime; try dsimp only
  (repeat' split) <;> simp
@[simp] theorem State.parentTime_published (s : State) (l : LinkId) (t : Instant) (f : TimeFrame) : (s.parentTime l t f).published = s.published := by
  unfold State.parentTime; try dsimp only
  (repeat' split) <;> simp
@[simp] theorem State.parentTime_older (s : State) (l : LinkId) (t : Instant) (f : TimeFrame) : (s.parentTime l t f).older = s.older := by
  unfold State.parentTime; try dsimp only
  (repeat' split) <;> simp
@[simp] theorem State.parentTime_rm (s : State) (l : LinkId) (t : Instant) (f : TimeFrame) : (s.parentTime l t f).rm = s.rm := by
  unfold State.parentTime; try dsimp only
  (repeat' split) <;> simp
@[simp] theorem State.parentTime_sel (s : State) (l : LinkId) (t : Instant) (f : TimeFrame) : (s.parentTime l t f).sel = s.sel := by
  unfold State.parentTime; try dsimp only
  (repeat' split) <;> simp
@[simp] theorem State.parentTime_stu (s : State) (l : LinkId) (t : Instant) (f : TimeFrame) : (s.parentTime l t f).stu = s.stu := by
  unfold State.parentTime; try dsimp only
  (repeat' split) <;> simp
@[simp] theorem State.parentTime_atu (s : State) (l : LinkId) (t : Instant) (f : TimeFrame) : (s.parentTime l t f).atu = s.atu := by
  unfold State.parentTime; try dsimp only
  (repeat' split) <;> simp
@[simp] theorem State.parentTime_port (s : State) (l : LinkId) (t : Instant) (f : TimeFrame) : (s.parentTime l t f).port = s.port := by
  unfold State.parentTime; try dsimp only
  (repeat' split) <;> simp

/-! ### parentFarewell -/

@[simp] theorem State.parentFarewell_pending (s : State) (l : LinkId) (i : Nat) : (s.parentFarewell l i).pending = s.pending := by
  unfold State.parentFarewell; try dsimp only
  (repeat' split) <;> simp
@[simp] theorem State.parentFarewell_clock (s : State) (l : LinkId) (i : Nat) : (s.parentFarewell l i).clock = s.clock := by
  unfold State.parentFarewell; try dsimp only
  (repeat' split) <;> simp
@[simp] theorem State.parentFarewell_tb (s : State) (l : LinkId) (i : Nat) : (s.parentFarewell l i).tb = s.tb := by
  unfold State.parentFarewell; try dsimp only
  (repeat' split) <;> simp
@[simp] theorem State.parentFarewell_published (s : State) (l : LinkId) (i : Nat) : (s.parentFarewell l i).published = s.published := by
  unfold State.parentFarewell; try dsimp only
  (repeat' split) <;> simp
@[simp] theorem State.parentFarewell_older (s : State) (l : LinkId) (i : Nat) : (s.parentFarewell l i).older = s.older := by
  unfold State.parentFarewell; try dsimp only
  (repeat' split) <;> simp
@[simp] theorem State.parentFarewell_rm (s : State) (l : LinkId) (i : Nat) : (s.parentFarewell l i).rm = s.rm := by
  unfold State.parentFarewell; try dsimp only
  (repeat' split) <;> simp
@[simp] theorem State.parentFarewell_sel (s : State) (l : LinkId) (i : Nat) : (s.parentFarewell l i).sel = s.sel := by
  unfold State.parentFarewell; try dsimp only
  (repeat' split) <;> simp
@[simp] theorem State.parentFarewell_stu (s : State) (l : LinkId) (i : Nat) : (s.parentFarewell l i).stu = s.stu := by
  unfold State.parentFarewell; try dsimp only
  (repeat' split) <;> simp
@[simp] theorem State.parentFarewell_atu (s : State) (l : LinkId) (i : Nat) : (s.parentFarewell l i).atu = s.atu := by
  unfold State.parentFarewell; try dsimp only
  (repeat' split) <;> simp
@[simp] theorem State.parentFarewell_port (s : State) (l : LinkId) (i : Nat) : (s.parentFarewell l i).port = s.port := by
  unfold State.parentFarewell; try dsimp only
  (repeat' split) <;> simp

/-! ### parentFrame -/

@[simp] theorem State.parentFrame_pending (s : State) (l : LinkId) (t : Instant) (f : LinkFrame) : (s.parentFrame l t f).pending = s.pending := by
  unfold State.parentFrame; try dsimp only
  (repeat' split) <;> simp
@[simp] theorem State.parentFrame_clock (s : State) (l : LinkId) (t : Instant) (f : LinkFrame) : (s.parentFrame l t f).clock = s.clock := by
  unfold State.parentFrame; try dsimp only
  (repeat' split) <;> simp
@[simp] theorem State.parentFrame_tb (s : State) (l : LinkId) (t : Instant) (f : LinkFrame) : (s.parentFrame l t f).tb = s.tb := by
  unfold State.parentFrame; try dsimp only
  (repeat' split) <;> simp
@[simp] theorem State.parentFrame_published (s : State) (l : LinkId) (t : Instant) (f : LinkFrame) : (s.parentFrame l t f).published = s.published := by
  unfold State.parentFrame; try dsimp only
  (repeat' split) <;> simp
@[simp] theorem State.parentFrame_older (s : State) (l : LinkId) (t : Instant) (f : LinkFrame) : (s.parentFrame l t f).older = s.older := by
  unfold State.parentFrame; try dsimp only
  (repeat' split) <;> simp
@[simp] theorem State.parentFrame_rm (s : State) (l : LinkId) (t : Instant) (f : LinkFrame) : (s.parentFrame l t f).rm = s.rm := by
  unfold State.parentFrame; try dsimp only
  (repeat' split) <;> simp
@[simp] theorem State.parentFrame_sel (s : State) (l : LinkId) (t : Instant) (f : LinkFrame) : (s.parentFrame l t f).sel = s.sel := by
  unfold State.parentFrame; try dsimp only
  (repeat' split) <;> simp
@[simp] theorem State.parentFrame_stu (s : State) (l : LinkId) (t : Instant) (f : LinkFrame) : (s.parentFrame l t f).stu = s.stu := by
  unfold State.parentFrame; try dsimp only
  (repeat' split) <;> simp
@[simp] theorem State.parentFrame_atu (s : State) (l : LinkId) (t : Instant) (f : LinkFrame) : (s.parentFrame l t f).atu = s.atu := by
  unfold State.parentFrame; try dsimp only
  (repeat' split) <;> simp
@[simp] theorem State.parentFrame_port (s : State) (l : LinkId) (t : Instant) (f : LinkFrame) : (s.parentFrame l t f).port = s.port := by
  unfold State.parentFrame; try dsimp only
  (repeat' split) <;> simp

/-! ### serveFrame -/

@[simp] theorem State.serveFrame_pending (s : State) (l : LinkId) (t : Instant) (f : LinkFrame) : (s.serveFrame l t f).pending = s.pending := by
  unfold State.serveFrame; try dsimp only
  (repeat' split) <;> simp
@[simp] theorem State.serveFrame_clock (s : State) (l : LinkId) (t : Instant) (f : LinkFrame) : (s.serveFrame l t f).clock = s.clock := by
  unfold State.serveFrame; try dsimp only
  (repeat' split) <;> simp
@[simp] theorem State.serveFrame_tb (s : State) (l : LinkId) (t : Instant) (f : LinkFrame) : (s.serveFrame l t f).tb = s.tb := by
  unfold State.serveFrame; try dsimp only
  (repeat' split) <;> simp
@[simp] theorem State.serveFrame_published (s : State) (l : LinkId) (t : Instant) (f : LinkFrame) : (s.serveFrame l t f).published = s.published := by
  unfold State.serveFrame; try dsimp only
  (repeat' split) <;> simp
@[simp] theorem State.serveFrame_older (s : State) (l : LinkId) (t : Instant) (f : LinkFrame) : (s.serveFrame l t f).older = s.older := by
  unfold State.serveFrame; try dsimp only
  (repeat' split) <;> simp
@[simp] theorem State.serveFrame_rm (s : State) (l : LinkId) (t : Instant) (f : LinkFrame) : (s.serveFrame l t f).rm = s.rm := by
  unfold State.serveFrame; try dsimp only
  (repeat' split) <;> simp
@[simp] theorem State.serveFrame_sel (s : State) (l : LinkId) (t : Instant) (f : LinkFrame) : (s.serveFrame l t f).sel = s.sel := by
  unfold State.serveFrame; try dsimp only
  (repeat' split) <;> simp
@[simp] theorem State.serveFrame_atu (s : State) (l : LinkId) (t : Instant) (f : LinkFrame) : (s.serveFrame l t f).atu = s.atu := by
  unfold State.serveFrame; try dsimp only
  (repeat' split) <;> simp
@[simp] theorem State.serveFrame_port (s : State) (l : LinkId) (t : Instant) (f : LinkFrame) : (s.serveFrame l t f).port = s.port := by
  unfold State.serveFrame; try dsimp only
  (repeat' split) <;> simp

/-! ### takeFrame -/

@[simp] theorem State.takeFrame_pending (s : State) (l : LinkId) (t : Instant) (f : LinkFrame) : (s.takeFrame l t f).pending = s.pending := by
  unfold State.takeFrame; try dsimp only
  (repeat' split) <;> simp
@[simp] theorem State.takeFrame_clock (s : State) (l : LinkId) (t : Instant) (f : LinkFrame) : (s.takeFrame l t f).clock = s.clock := by
  unfold State.takeFrame; try dsimp only
  (repeat' split) <;> simp
@[simp] theorem State.takeFrame_tb (s : State) (l : LinkId) (t : Instant) (f : LinkFrame) : (s.takeFrame l t f).tb = s.tb := by
  unfold State.takeFrame; try dsimp only
  (repeat' split) <;> simp
@[simp] theorem State.takeFrame_published (s : State) (l : LinkId) (t : Instant) (f : LinkFrame) : (s.takeFrame l t f).published = s.published := by
  unfold State.takeFrame; try dsimp only
  (repeat' split) <;> simp
@[simp] theorem State.takeFrame_older (s : State) (l : LinkId) (t : Instant) (f : LinkFrame) : (s.takeFrame l t f).older = s.older := by
  unfold State.takeFrame; try dsimp only
  (repeat' split) <;> simp
@[simp] theorem State.takeFrame_rm (s : State) (l : LinkId) (t : Instant) (f : LinkFrame) : (s.takeFrame l t f).rm = s.rm := by
  unfold State.takeFrame; try dsimp only
  (repeat' split) <;> simp
@[simp] theorem State.takeFrame_sel (s : State) (l : LinkId) (t : Instant) (f : LinkFrame) : (s.takeFrame l t f).sel = s.sel := by
  unfold State.takeFrame; try dsimp only
  (repeat' split) <;> simp
@[simp] theorem State.takeFrame_atu (s : State) (l : LinkId) (t : Instant) (f : LinkFrame) : (s.takeFrame l t f).atu = s.atu := by
  unfold State.takeFrame; try dsimp only
  (repeat' split) <;> simp
@[simp] theorem State.takeFrame_port (s : State) (l : LinkId) (t : Instant) (f : LinkFrame) : (s.takeFrame l t f).port = s.port := by
  unfold State.takeFrame; try dsimp only
  (repeat' split) <;> simp

/-! ### frameTaken -/

@[simp] theorem State.frameTaken_pending (s : State) (l : LinkId) (t : Instant) (f : LinkFrame) : (s.frameTaken l t f).pending = s.pending := by
  unfold State.frameTaken; try dsimp only
  (repeat' split) <;> simp
@[simp] theorem State.frameTaken_tb (s : State) (l : LinkId) (t : Instant) (f : LinkFrame) : (s.frameTaken l t f).tb = s.tb := by
  unfold State.frameTaken; try dsimp only
  (repeat' split) <;> simp
@[simp] theorem State.frameTaken_published (s : State) (l : LinkId) (t : Instant) (f : LinkFrame) : (s.frameTaken l t f).published = s.published := by
  unfold State.frameTaken; try dsimp only
  (repeat' split) <;> simp
@[simp] theorem State.frameTaken_older (s : State) (l : LinkId) (t : Instant) (f : LinkFrame) : (s.frameTaken l t f).older = s.older := by
  unfold State.frameTaken; try dsimp only
  (repeat' split) <;> simp
@[simp] theorem State.frameTaken_rm (s : State) (l : LinkId) (t : Instant) (f : LinkFrame) : (s.frameTaken l t f).rm = s.rm := by
  unfold State.frameTaken; try dsimp only
  (repeat' split) <;> simp
@[simp] theorem State.frameTaken_sel (s : State) (l : LinkId) (t : Instant) (f : LinkFrame) : (s.frameTaken l t f).sel = s.sel := by
  unfold State.frameTaken; try dsimp only
  (repeat' split) <;> simp
@[simp] theorem State.frameTaken_atu (s : State) (l : LinkId) (t : Instant) (f : LinkFrame) : (s.frameTaken l t f).atu = s.atu := by
  unfold State.frameTaken; try dsimp only
  (repeat' split) <;> simp
@[simp] theorem State.frameTaken_port (s : State) (l : LinkId) (t : Instant) (f : LinkFrame) : (s.frameTaken l t f).port = s.port := by
  unfold State.frameTaken; try dsimp only
  (repeat' split) <;> simp

/-! ### takeChar -/

@[simp] theorem State.takeChar_pending (s : State) (l : LinkId) (t : Instant) (c : LinkChar) : (s.takeChar l t c).pending = s.pending := by
  unfold State.takeChar; try dsimp only
  (repeat' split) <;> simp
@[simp] theorem State.takeChar_tb (s : State) (l : LinkId) (t : Instant) (c : LinkChar) : (s.takeChar l t c).tb = s.tb := by
  unfold State.takeChar; try dsimp only
  (repeat' split) <;> simp
@[simp] theorem State.takeChar_published (s : State) (l : LinkId) (t : Instant) (c : LinkChar) : (s.takeChar l t c).published = s.published := by
  unfold State.takeChar; try dsimp only
  (repeat' split) <;> simp
@[simp] theorem State.takeChar_older (s : State) (l : LinkId) (t : Instant) (c : LinkChar) : (s.takeChar l t c).older = s.older := by
  unfold State.takeChar; try dsimp only
  (repeat' split) <;> simp
@[simp] theorem State.takeChar_rm (s : State) (l : LinkId) (t : Instant) (c : LinkChar) : (s.takeChar l t c).rm = s.rm := by
  unfold State.takeChar; try dsimp only
  (repeat' split) <;> simp
@[simp] theorem State.takeChar_sel (s : State) (l : LinkId) (t : Instant) (c : LinkChar) : (s.takeChar l t c).sel = s.sel := by
  unfold State.takeChar; try dsimp only
  (repeat' split) <;> simp
@[simp] theorem State.takeChar_atu (s : State) (l : LinkId) (t : Instant) (c : LinkChar) : (s.takeChar l t c).atu = s.atu := by
  unfold State.takeChar; try dsimp only
  (repeat' split) <;> simp
@[simp] theorem State.takeChar_port (s : State) (l : LinkId) (t : Instant) (c : LinkChar) : (s.takeChar l t c).port = s.port := by
  unfold State.takeChar; try dsimp only
  (repeat' split) <;> simp

/-! ### takeChars -/

@[simp] theorem State.takeChars_pending (s : State) (l : LinkId) (t : Instant) (cs : List LinkChar) : (s.takeChars l t cs).pending = s.pending := by
  induction cs generalizing s t with
  | nil => rfl
  | cons c cs ih => simp [State.takeChars, ih]
@[simp] theorem State.takeChars_tb (s : State) (l : LinkId) (t : Instant) (cs : List LinkChar) : (s.takeChars l t cs).tb = s.tb := by
  induction cs generalizing s t with
  | nil => rfl
  | cons c cs ih => simp [State.takeChars, ih]
@[simp] theorem State.takeChars_published (s : State) (l : LinkId) (t : Instant) (cs : List LinkChar) : (s.takeChars l t cs).published = s.published := by
  induction cs generalizing s t with
  | nil => rfl
  | cons c cs ih => simp [State.takeChars, ih]
@[simp] theorem State.takeChars_older (s : State) (l : LinkId) (t : Instant) (cs : List LinkChar) : (s.takeChars l t cs).older = s.older := by
  induction cs generalizing s t with
  | nil => rfl
  | cons c cs ih => simp [State.takeChars, ih]
@[simp] theorem State.takeChars_rm (s : State) (l : LinkId) (t : Instant) (cs : List LinkChar) : (s.takeChars l t cs).rm = s.rm := by
  induction cs generalizing s t with
  | nil => rfl
  | cons c cs ih => simp [State.takeChars, ih]
@[simp] theorem State.takeChars_sel (s : State) (l : LinkId) (t : Instant) (cs : List LinkChar) : (s.takeChars l t cs).sel = s.sel := by
  induction cs generalizing s t with
  | nil => rfl
  | cons c cs ih => simp [State.takeChars, ih]
@[simp] theorem State.takeChars_atu (s : State) (l : LinkId) (t : Instant) (cs : List LinkChar) : (s.takeChars l t cs).atu = s.atu := by
  induction cs generalizing s t with
  | nil => rfl
  | cons c cs ih => simp [State.takeChars, ih]
@[simp] theorem State.takeChars_port (s : State) (l : LinkId) (t : Instant) (cs : List LinkChar) : (s.takeChars l t cs).port = s.port := by
  induction cs generalizing s t with
  | nil => rfl
  | cons c cs ih => simp [State.takeChars, ih]

/-! ### nowReceiving -/

@[simp] theorem State.nowReceiving_pending (s : State) (l : LinkId) (f : Option RxFrame) : (s.nowReceiving l f).pending = s.pending := by
  unfold State.nowReceiving; try dsimp only
  (repeat' split) <;> simp
@[simp] theorem State.nowReceiving_tb (s : State) (l : LinkId) (f : Option RxFrame) : (s.nowReceiving l f).tb = s.tb := by
  unfold State.nowReceiving; try dsimp only
  (repeat' split) <;> simp
@[simp] theorem State.nowReceiving_published (s : State) (l : LinkId) (f : Option RxFrame) : (s.nowReceiving l f).published = s.published := by
  unfold State.nowReceiving; try dsimp only
  (repeat' split) <;> simp
@[simp] theorem State.nowReceiving_older (s : State) (l : LinkId) (f : Option RxFrame) : (s.nowReceiving l f).older = s.older := by
  unfold State.nowReceiving; try dsimp only
  (repeat' split) <;> simp
@[simp] theorem State.nowReceiving_rm (s : State) (l : LinkId) (f : Option RxFrame) : (s.nowReceiving l f).rm = s.rm := by
  unfold State.nowReceiving; try dsimp only
  (repeat' split) <;> simp
@[simp] theorem State.nowReceiving_sel (s : State) (l : LinkId) (f : Option RxFrame) : (s.nowReceiving l f).sel = s.sel := by
  unfold State.nowReceiving; try dsimp only
  (repeat' split) <;> simp
@[simp] theorem State.nowReceiving_atu (s : State) (l : LinkId) (f : Option RxFrame) : (s.nowReceiving l f).atu = s.atu := by
  unfold State.nowReceiving; try dsimp only
  (repeat' split) <;> simp
@[simp] theorem State.nowReceiving_port (s : State) (l : LinkId) (f : Option RxFrame) : (s.nowReceiving l f).port = s.port := by
  unfold State.nowReceiving; try dsimp only
  (repeat' split) <;> simp

/-! ### endWindow -/

@[simp] theorem State.endWindow_pending (s : State) (l : LinkId) (k i : Nat) (r : SiteRecord) : (s.endWindow l k i r).pending = s.pending := by
  unfold State.endWindow; try dsimp only
  (repeat' split) <;> simp
@[simp] theorem State.endWindow_clock (s : State) (l : LinkId) (k i : Nat) (r : SiteRecord) : (s.endWindow l k i r).clock = s.clock := by
  unfold State.endWindow; try dsimp only
  (repeat' split) <;> simp
@[simp] theorem State.endWindow_tb (s : State) (l : LinkId) (k i : Nat) (r : SiteRecord) : (s.endWindow l k i r).tb = s.tb := by
  unfold State.endWindow; try dsimp only
  (repeat' split) <;> simp
@[simp] theorem State.endWindow_published (s : State) (l : LinkId) (k i : Nat) (r : SiteRecord) : (s.endWindow l k i r).published = s.published := by
  unfold State.endWindow; try dsimp only
  (repeat' split) <;> simp
@[simp] theorem State.endWindow_older (s : State) (l : LinkId) (k i : Nat) (r : SiteRecord) : (s.endWindow l k i r).older = s.older := by
  unfold State.endWindow; try dsimp only
  (repeat' split) <;> simp
@[simp] theorem State.endWindow_rm (s : State) (l : LinkId) (k i : Nat) (r : SiteRecord) : (s.endWindow l k i r).rm = s.rm := by
  unfold State.endWindow; try dsimp only
  (repeat' split) <;> simp
@[simp] theorem State.endWindow_sel (s : State) (l : LinkId) (k i : Nat) (r : SiteRecord) : (s.endWindow l k i r).sel = s.sel := by
  unfold State.endWindow; try dsimp only
  (repeat' split) <;> simp
@[simp] theorem State.endWindow_links (s : State) (l : LinkId) (k i : Nat) (r : SiteRecord) : (s.endWindow l k i r).links = s.links := by
  unfold State.endWindow; try dsimp only
  (repeat' split) <;> simp
@[simp] theorem State.endWindow_atu (s : State) (l : LinkId) (k i : Nat) (r : SiteRecord) : (s.endWindow l k i r).atu = s.atu := by
  unfold State.endWindow; try dsimp only
  (repeat' split) <;> simp
@[simp] theorem State.endWindow_port (s : State) (l : LinkId) (k i : Nat) (r : SiteRecord) : (s.endWindow l k i r).port = s.port := by
  unfold State.endWindow; try dsimp only
  (repeat' split) <;> simp

/-! ### setRole -/

@[simp] theorem State.setRole_pending (s : State) (l : LinkId) (r : Option LinkRole) : (s.setRole l r).pending = s.pending := by
  unfold State.setRole; try dsimp only
  (repeat' split) <;> simp
@[simp] theorem State.setRole_clock (s : State) (l : LinkId) (r : Option LinkRole) : (s.setRole l r).clock = s.clock := by
  unfold State.setRole; try dsimp only
  (repeat' split) <;> simp
@[simp] theorem State.setRole_tb (s : State) (l : LinkId) (r : Option LinkRole) : (s.setRole l r).tb = s.tb := by
  unfold State.setRole; try dsimp only
  (repeat' split) <;> simp
@[simp] theorem State.setRole_published (s : State) (l : LinkId) (r : Option LinkRole) : (s.setRole l r).published = s.published := by
  unfold State.setRole; try dsimp only
  (repeat' split) <;> simp
@[simp] theorem State.setRole_older (s : State) (l : LinkId) (r : Option LinkRole) : (s.setRole l r).older = s.older := by
  unfold State.setRole; try dsimp only
  (repeat' split) <;> simp
@[simp] theorem State.setRole_rm (s : State) (l : LinkId) (r : Option LinkRole) : (s.setRole l r).rm = s.rm := by
  unfold State.setRole; try dsimp only
  (repeat' split) <;> simp
@[simp] theorem State.setRole_sel (s : State) (l : LinkId) (r : Option LinkRole) : (s.setRole l r).sel = s.sel := by
  unfold State.setRole; try dsimp only
  (repeat' split) <;> simp
@[simp] theorem State.setRole_atu (s : State) (l : LinkId) (r : Option LinkRole) : (s.setRole l r).atu = s.atu := by
  unfold State.setRole; try dsimp only
  (repeat' split) <;> simp
@[simp] theorem State.setRole_port (s : State) (l : LinkId) (r : Option LinkRole) : (s.setRole l r).port = s.port := by
  unfold State.setRole; try dsimp only
  (repeat' split) <;> simp

/-! ### setSplit -/

@[simp] theorem State.setSplit_pending (s : State) (l : LinkId) (v : Option Nat) : (s.setSplit l v).pending = s.pending := by
  unfold State.setSplit; try dsimp only
  (repeat' split) <;> simp
@[simp] theorem State.setSplit_clock (s : State) (l : LinkId) (v : Option Nat) : (s.setSplit l v).clock = s.clock := by
  unfold State.setSplit; try dsimp only
  (repeat' split) <;> simp
@[simp] theorem State.setSplit_tb (s : State) (l : LinkId) (v : Option Nat) : (s.setSplit l v).tb = s.tb := by
  unfold State.setSplit; try dsimp only
  (repeat' split) <;> simp
@[simp] theorem State.setSplit_published (s : State) (l : LinkId) (v : Option Nat) : (s.setSplit l v).published = s.published := by
  unfold State.setSplit; try dsimp only
  (repeat' split) <;> simp
@[simp] theorem State.setSplit_older (s : State) (l : LinkId) (v : Option Nat) : (s.setSplit l v).older = s.older := by
  unfold State.setSplit; try dsimp only
  (repeat' split) <;> simp
@[simp] theorem State.setSplit_rm (s : State) (l : LinkId) (v : Option Nat) : (s.setSplit l v).rm = s.rm := by
  unfold State.setSplit; try dsimp only
  (repeat' split) <;> simp
@[simp] theorem State.setSplit_sel (s : State) (l : LinkId) (v : Option Nat) : (s.setSplit l v).sel = s.sel := by
  unfold State.setSplit; try dsimp only
  (repeat' split) <;> simp
@[simp] theorem State.setSplit_stu (s : State) (l : LinkId) (v : Option Nat) : (s.setSplit l v).stu = s.stu := by
  unfold State.setSplit; try dsimp only
  (repeat' split) <;> simp
@[simp] theorem State.setSplit_atu (s : State) (l : LinkId) (v : Option Nat) : (s.setSplit l v).atu = s.atu := by
  unfold State.setSplit; try dsimp only
  (repeat' split) <;> simp
@[simp] theorem State.setSplit_port (s : State) (l : LinkId) (v : Option Nat) : (s.setSplit l v).port = s.port := by
  unfold State.setSplit; try dsimp only
  (repeat' split) <;> simp

/-! ### takeRequest -/

@[simp] theorem State.takeRequest_pending (s : State) (f : List Byte) : (s.takeRequest f).pending = s.pending := by
  unfold State.takeRequest; try dsimp only
  (repeat' split) <;> simp
@[simp] theorem State.takeRequest_clock (s : State) (f : List Byte) : (s.takeRequest f).clock = s.clock := by
  unfold State.takeRequest; try dsimp only
  (repeat' split) <;> simp
@[simp] theorem State.takeRequest_tb (s : State) (f : List Byte) : (s.takeRequest f).tb = s.tb := by
  unfold State.takeRequest; try dsimp only
  (repeat' split) <;> simp
@[simp] theorem State.takeRequest_published (s : State) (f : List Byte) : (s.takeRequest f).published = s.published := by
  unfold State.takeRequest; try dsimp only
  (repeat' split) <;> simp
@[simp] theorem State.takeRequest_older (s : State) (f : List Byte) : (s.takeRequest f).older = s.older := by
  unfold State.takeRequest; try dsimp only
  (repeat' split) <;> simp
@[simp] theorem State.takeRequest_rm (s : State) (f : List Byte) : (s.takeRequest f).rm = s.rm := by
  unfold State.takeRequest; try dsimp only
  (repeat' split) <;> simp
@[simp] theorem State.takeRequest_sel (s : State) (f : List Byte) : (s.takeRequest f).sel = s.sel := by
  unfold State.takeRequest; try dsimp only
  (repeat' split) <;> simp
@[simp] theorem State.takeRequest_stu (s : State) (f : List Byte) : (s.takeRequest f).stu = s.stu := by
  unfold State.takeRequest; try dsimp only
  (repeat' split) <;> simp
@[simp] theorem State.takeRequest_links (s : State) (f : List Byte) : (s.takeRequest f).links = s.links := by
  unfold State.takeRequest; try dsimp only
  (repeat' split) <;> simp
@[simp] theorem State.takeRequest_atu (s : State) (f : List Byte) : (s.takeRequest f).atu = s.atu := by
  unfold State.takeRequest; try dsimp only
  (repeat' split) <;> simp

/-! ### writeFrame -/

@[simp] theorem State.writeFrame_pending (s : State) (f : List Byte) : (s.writeFrame f).pending = s.pending := by
  unfold State.writeFrame; try dsimp only
  (repeat' split) <;> simp
@[simp] theorem State.writeFrame_clock (s : State) (f : List Byte) : (s.writeFrame f).clock = s.clock := by
  unfold State.writeFrame; try dsimp only
  (repeat' split) <;> simp
@[simp] theorem State.writeFrame_tb (s : State) (f : List Byte) : (s.writeFrame f).tb = s.tb := by
  unfold State.writeFrame; try dsimp only
  (repeat' split) <;> simp
@[simp] theorem State.writeFrame_published (s : State) (f : List Byte) : (s.writeFrame f).published = s.published := by
  unfold State.writeFrame; try dsimp only
  (repeat' split) <;> simp
@[simp] theorem State.writeFrame_older (s : State) (f : List Byte) : (s.writeFrame f).older = s.older := by
  unfold State.writeFrame; try dsimp only
  (repeat' split) <;> simp
@[simp] theorem State.writeFrame_rm (s : State) (f : List Byte) : (s.writeFrame f).rm = s.rm := by
  unfold State.writeFrame; try dsimp only
  (repeat' split) <;> simp
@[simp] theorem State.writeFrame_sel (s : State) (f : List Byte) : (s.writeFrame f).sel = s.sel := by
  unfold State.writeFrame; try dsimp only
  (repeat' split) <;> simp
@[simp] theorem State.writeFrame_stu (s : State) (f : List Byte) : (s.writeFrame f).stu = s.stu := by
  unfold State.writeFrame; try dsimp only
  (repeat' split) <;> simp
@[simp] theorem State.writeFrame_links (s : State) (f : List Byte) : (s.writeFrame f).links = s.links := by
  unfold State.writeFrame; try dsimp only
  (repeat' split) <;> simp
@[simp] theorem State.writeFrame_atu (s : State) (f : List Byte) : (s.writeFrame f).atu = s.atu := by
  unfold State.writeFrame; try dsimp only
  (repeat' split) <;> simp

/-! ### readBytes -/

@[simp] theorem State.readBytes_pending (s : State) (n : Nat) : (s.readBytes n).pending = s.pending := by
  unfold State.readBytes; try dsimp only
  (repeat' split) <;> simp
@[simp] theorem State.readBytes_clock (s : State) (n : Nat) : (s.readBytes n).clock = s.clock := by
  unfold State.readBytes; try dsimp only
  (repeat' split) <;> simp
@[simp] theorem State.readBytes_tb (s : State) (n : Nat) : (s.readBytes n).tb = s.tb := by
  unfold State.readBytes; try dsimp only
  (repeat' split) <;> simp
@[simp] theorem State.readBytes_published (s : State) (n : Nat) : (s.readBytes n).published = s.published := by
  unfold State.readBytes; try dsimp only
  (repeat' split) <;> simp
@[simp] theorem State.readBytes_older (s : State) (n : Nat) : (s.readBytes n).older = s.older := by
  unfold State.readBytes; try dsimp only
  (repeat' split) <;> simp
@[simp] theorem State.readBytes_rm (s : State) (n : Nat) : (s.readBytes n).rm = s.rm := by
  unfold State.readBytes; try dsimp only
  (repeat' split) <;> simp
@[simp] theorem State.readBytes_sel (s : State) (n : Nat) : (s.readBytes n).sel = s.sel := by
  unfold State.readBytes; try dsimp only
  (repeat' split) <;> simp
@[simp] theorem State.readBytes_stu (s : State) (n : Nat) : (s.readBytes n).stu = s.stu := by
  unfold State.readBytes; try dsimp only
  (repeat' split) <;> simp
@[simp] theorem State.readBytes_links (s : State) (n : Nat) : (s.readBytes n).links = s.links := by
  unfold State.readBytes; try dsimp only
  (repeat' split) <;> simp
@[simp] theorem State.readBytes_atu (s : State) (n : Nat) : (s.readBytes n).atu = s.atu := by
  unfold State.readBytes; try dsimp only
  (repeat' split) <;> simp

/-! ### select -/

@[simp] theorem State.select_pending (s : State) (m : List Byte) : (s.select m).pending = s.pending := by
  unfold State.select; try dsimp only
  (repeat' split) <;> simp
@[simp] theorem State.select_clock (s : State) (m : List Byte) : (s.select m).clock = s.clock := by
  unfold State.select; try dsimp only
  (repeat' split) <;> simp
@[simp] theorem State.select_tb (s : State) (m : List Byte) : (s.select m).tb = s.tb := by
  unfold State.select; try dsimp only
  (repeat' split) <;> simp
@[simp] theorem State.select_published (s : State) (m : List Byte) : (s.select m).published = s.published := by
  unfold State.select; try dsimp only
  (repeat' split) <;> simp
@[simp] theorem State.select_older (s : State) (m : List Byte) : (s.select m).older = s.older := by
  unfold State.select; try dsimp only
  (repeat' split) <;> simp
@[simp] theorem State.select_rm (s : State) (m : List Byte) : (s.select m).rm = s.rm := by
  unfold State.select; try dsimp only
  (repeat' split) <;> simp
@[simp] theorem State.select_sel (s : State) (m : List Byte) : (s.select m).sel = s.sel := by
  unfold State.select; try dsimp only
  (repeat' split) <;> simp
@[simp] theorem State.select_stu (s : State) (m : List Byte) : (s.select m).stu = s.stu := by
  unfold State.select; try dsimp only
  (repeat' split) <;> simp
@[simp] theorem State.select_links (s : State) (m : List Byte) : (s.select m).links = s.links := by
  unfold State.select; try dsimp only
  (repeat' split) <;> simp
@[simp] theorem State.select_atu (s : State) (m : List Byte) : (s.select m).atu = s.atu := by
  unfold State.select; try dsimp only
  (repeat' split) <;> simp

/-! ### warmReset -/

@[simp] theorem State.warmReset_pending (s : State) : (s.warmReset).pending = s.pending := by
  simp only [State.warmReset]
  exact foldl_keeps (fun x => x.pending) State.removeRecord (fun _ _ => rfl) _ s
@[simp] theorem State.warmReset_clock (s : State) : (s.warmReset).clock = s.clock := by
  simp only [State.warmReset]
  exact foldl_keeps (fun x => x.clock) State.removeRecord (fun _ _ => rfl) _ s
@[simp] theorem State.warmReset_tb (s : State) : (s.warmReset).tb = s.tb := by
  simp only [State.warmReset]
  exact foldl_keeps (fun x => x.tb) State.removeRecord (fun _ _ => rfl) _ s
@[simp] theorem State.warmReset_published (s : State) : (s.warmReset).published = s.published := by
  simp only [State.warmReset]
  exact foldl_keeps (fun x => x.published) State.removeRecord (fun _ _ => rfl) _ s
@[simp] theorem State.warmReset_older (s : State) : (s.warmReset).older = s.older := by
  simp only [State.warmReset]
  exact foldl_keeps (fun x => x.older) State.removeRecord (fun _ _ => rfl) _ s
@[simp] theorem State.warmReset_rm (s : State) : (s.warmReset).rm = s.rm := by
  simp only [State.warmReset]
  exact foldl_keeps (fun x => x.rm) State.removeRecord (fun _ _ => rfl) _ s
@[simp] theorem State.warmReset_sel (s : State) : (s.warmReset).sel = s.sel := by
  simp only [State.warmReset]
  exact foldl_keeps (fun x => x.sel) State.removeRecord (fun _ _ => rfl) _ s
@[simp] theorem State.warmReset_port (s : State) : (s.warmReset).port = s.port := by
  simp only [State.warmReset]
  exact foldl_keeps (fun x => x.port) State.removeRecord (fun _ _ => rfl) _ s

end Sys2Proof.Machine
end

