-- ==== Sys2Proof/Laws/Tables.lean ====
section
/-! SUPPORT. What the shared operations do: the tables of five and six, records by handle, local time, requests, slots, and the flow of exec. -/

namespace Sys2Proof

/-! ### Tables of five and of six -/

@[simp] theorem PerRef.get_set_same {α : Type} (p : PerRef α) (r : RefId) (v : α) : (p.set r v).get r = v := by
  cases r <;> rfl

theorem PerRef.get_set_other {α : Type} (p : PerRef α) {r q : RefId} (v : α) (h : q ≠ r) : (p.set r v).get q = p.get q := by
  cases r <;> cases q <;> first | rfl | exact absurd rfl h

@[simp] theorem PerRef.set_get {α : Type} (p : PerRef α) (r : RefId) : p.set r (p.get r) = p := by cases r <;> rfl

@[simp] theorem PerRef.set_set {α : Type} (p : PerRef α) (r : RefId) (v w : α) : (p.set r v).set r w = p.set r w := by
  cases r <;> rfl

@[simp] theorem PerRef.get_map {α : Type} (f : α → α) (p : PerRef α) (r : RefId) : (p.map f).get r = f (p.get r) := by
  cases r <;> rfl

/-- Two tables of five with the same entries are equal. -/
theorem PerRef.ext_get {α : Type} {p q : PerRef α} (h : ∀ r, p.get r = q.get r) : p = q := by
  have a := h .satA; have b := h .satB; have c := h .parent; have d := h .lineA; have e := h .lineB
  cases p; cases q; simp only [PerRef.get] at a b c d e; subst a b c d e; rfl

@[simp] theorem PerLink.get_set_same {α : Type} (p : PerLink α) (l : LinkId) (v : α) : (p.set l v).get l = v := by
  cases l <;> rfl

theorem PerLink.get_set_other {α : Type} (p : PerLink α) {l m : LinkId} (v : α) (h : m ≠ l) :
    (p.set l v).get m = p.get m := by
  cases l <;> cases m <;> first | rfl | exact absurd rfl h

@[simp] theorem PerLink.set_get {α : Type} (p : PerLink α) (l : LinkId) : p.set l (p.get l) = p := by cases l <;> rfl

@[simp] theorem PerLink.set_set {α : Type} (p : PerLink α) (l : LinkId) (v w : α) : (p.set l v).set l w = p.set l w := by
  cases l <;> rfl

@[simp] theorem PerLink.get_map {α : Type} (f : α → α) (p : PerLink α) (l : LinkId) : (p.map f).get l = f (p.get l) := by
  cases l <;> rfl

/-- Two tables of six with the same entries are equal. -/
theorem PerLink.ext_get {α : Type} {p q : PerLink α} (h : ∀ l, p.get l = q.get l) : p = q := by
  have a := h .l0; have b := h .l1; have c := h .l2; have d := h .l3; have e := h .l4; have f := h .l5
  cases p; cases q; simp only [PerLink.get] at a b c d e f; subst a b c d e f; rfl

theorem RefId.ofIndex_index (r : RefId) : RefId.ofIndex r.index = some r := by cases r <;> rfl

theorem RefId.ofIndex_none {n : Nat} (h : 5 ≤ n) : RefId.ofIndex n = none := by
  unfold RefId.ofIndex; split <;> first | omega | rfl

theorem LinkId.ofIndex_index (l : LinkId) : LinkId.ofIndex l.index = some l := by cases l <;> rfl

theorem LinkId.ofIndex_none {n : Nat} (h : 6 ≤ n) : LinkId.ofIndex n = none := by
  unfold LinkId.ofIndex; split <;> first | omega | rfl

theorem RefId.mem_all (r : RefId) : r ∈ RefId.all := by cases r <;> decide

theorem LinkId.mem_all (l : LinkId) : l ∈ LinkId.all := by cases l <;> decide

namespace Machine

/-! ### Entries and links -/

@[simp] theorem State.updEntry_entry_same (s : State) (r : RefId) (f : RefEntry → RefEntry) :
    (s.updEntry r f).entry r = f (s.entry r) := by simp [State.updEntry, State.entry, PerRef.update]

theorem State.updEntry_entry_other (s : State) {r q : RefId} (f : RefEntry → RefEntry) (h : q ≠ r) :
    (s.updEntry r f).entry q = s.entry q := by simp [State.updEntry, State.entry, PerRef.update, PerRef.get_set_other _ _ h]

theorem State.updEntry_updEntry (s : State) (r : RefId) (f g : RefEntry → RefEntry) :
    (s.updEntry r f).updEntry r g = s.updEntry r (fun e => g (f e)) := by
  simp [State.updEntry, PerRef.update]

theorem State.updEntry_id (s : State) (r : RefId) (f : RefEntry → RefEntry) (h : f (s.entry r) = s.entry r) :
    s.updEntry r f = s := by
  have h' : f (s.rm.entries.get r) = s.rm.entries.get r := h
  simp [State.updEntry, PerRef.update, h']

/-- Only what the change makes of the entry in place matters. -/
theorem State.updEntry_congr (s : State) (r : RefId) (f g : RefEntry → RefEntry) (h : f (s.entry r) = g (s.entry r)) :
    s.updEntry r f = s.updEntry r g := by
  have h' : f (s.rm.entries.get r) = g (s.rm.entries.get r) := h
  simp [State.updEntry, PerRef.update, h']

@[simp] theorem State.updLink_link_same (s : State) (l : LinkId) (f : Link → Link) :
    (s.updLink l f).link l = f (s.link l) := by simp [State.updLink, State.link, PerLink.update]

theorem State.updLink_link_other (s : State) {l m : LinkId} (f : Link → Link) (h : m ≠ l) :
    (s.updLink l f).link m = s.link m := by simp [State.updLink, State.link, PerLink.update, PerLink.get_set_other _ _ h]

theorem State.updLink_updLink (s : State) (l : LinkId) (f g : Link → Link) :
    (s.updLink l f).updLink l g = s.updLink l (fun k => g (f k)) := by
  simp [State.updLink, PerLink.update]

theorem State.updLink_id (s : State) (l : LinkId) (f : Link → Link) (h : f (s.link l) = s.link l) : s.updLink l f = s := by
  have h' : f (s.links.get l) = s.links.get l := h
  simp [State.updLink, PerLink.update, h']

theorem State.updLink_congr (s : State) (l : LinkId) (f g : Link → Link) (h : f (s.link l) = g (s.link l)) :
    s.updLink l f = s.updLink l g := by
  have h' : f (s.links.get l) = g (s.links.get l) := h
  simp [State.updLink, PerLink.update, h']

/-! ### Records -/

theorem updRecords_map (h : Nat) (f : SiteRecord → SiteRecord) (rs : List SiteRecord) :
    updRecords h f rs = rs.map (fun r => if r.handle = h then f r else r) := by
  simp [updRecords]

/-- With each handle held once, a change by handle is a change of the record found. -/
theorem updRecords_congr (rs : List SiteRecord) (h : Nat) (f g : SiteRecord → SiteRecord)
    (e : ∀ r ∈ rs, r.handle = h → f r = g r) : updRecords h f rs = updRecords h g rs := by
  rw [updRecords_map, updRecords_map]
  apply List.map_congr_left
  intro r m
  by_cases k : r.handle = h
  · rw [if_pos k, if_pos k, e r m k]
  · rw [if_neg k, if_neg k]

/-- The record found under a handle is in the table, and has that handle. -/
theorem State.record?_some {s : State} {h : Nat} {r : SiteRecord} (e : s.record? h = some r) :
    r ∈ s.stu.records ∧ r.handle = h :=
  ⟨List.mem_of_find?_eq_some e, by simpa using List.find?_some e⟩

/-- With each handle held once, the record found under a handle is the only one that has it. -/
theorem State.record?_unique {s : State} {h : Nat} {r q : SiteRecord} (n : (s.stu.records.map SiteRecord.handle).Nodup)
    (e : s.record? h = some r) (m : q ∈ s.stu.records) (k : q.handle = h) : q = r := by
  obtain ⟨mr, kr⟩ := State.record?_some e
  exact List.inj_on_of_nodup_map n m mr (k.trans kr.symm)

/-! ### Local time -/

/-- Local time never goes back. -/
theorem Clock.advance_now (c : Clock) (f : Int) (t : Instant) : (c.advance f t).now = max c.now t := by
  unfold Clock.advance
  split
  · rename_i h; simp [max_eq_right (le_of_lt h)]
  · rename_i h; simp [max_eq_left (not_lt.mp h)]

@[simp] theorem Clock.advance_boundaryAt (c : Clock) (f : Int) (t : Instant) : (c.advance f t).boundaryAt = c.boundaryAt := by
  unfold Clock.advance; split <;> rfl

@[simp] theorem Clock.advance_nextAt (c : Clock) (f : Int) (t : Instant) : (c.advance f t).nextAt = c.nextAt := by
  unfold Clock.advance; split <;> rfl

@[simp] theorem Clock.advance_boundaries (c : Clock) (f : Int) (t : Instant) : (c.advance f t).boundaries = c.boundaries := by
  unfold Clock.advance; split <;> rfl

/-- An instant reached twice is reached once. -/
theorem State.advance_advance (s : State) (t : Instant) : (s.advance t).advance t = s.advance t := by
  simp only [State.advance, Clock.advance]
  split <;> simp_all

@[simp] theorem State.advance_entry (s : State) (t : Instant) (r : RefId) : (s.advance t).entry r = s.entry r := rfl

@[simp] theorem State.advance_link (s : State) (t : Instant) (l : LinkId) : (s.advance t).link l = s.link l := rfl

/-! ### Requests -/

/-- In IDLE the owner acts on a request, and the response is built from what it answers (R182). -/
theorem request_idle {tag : Nat} {act : State → State × Result × List Item} {s : State} (h : s.port.state = .idle) :
    request tag act s = (act s).1.respond tag (act s).2.1 (act s).2.2 := by
  simp [request, h]

/-- Outside IDLE a request is discarded, and the overrun flag is set (R183). -/
theorem request_busy {tag : Nat} {act : State → State × Result × List Item} {s : State} (h : s.port.state ≠ .idle) :
    request tag act s = { s with port := { s.port with overrun := true } } := by
  unfold request
  split
  · rename_i k; exact absurd k h
  · rfl
  · rfl

/-! ### Slots -/

theorem mapSlots_length (f : Nat → SlotEntry → SlotEntry) :
    ∀ (es : List SlotEntry) (k : Nat), (mapSlots f k es).length = es.length := by
  intro es
  induction es with
  | nil => intro k; rfl
  | cons e es ih => intro k; simp [mapSlots, ih]

theorem mapSlots_getElem? (f : Nat → SlotEntry → SlotEntry) :
    ∀ (es : List SlotEntry) (k i : Nat), (mapSlots f k es)[i]? = (es[i]?).map (f (k + i)) := by
  intro es
  induction es with
  | nil => intro k i; simp [mapSlots]
  | cons e es ih =>
    intro k i
    cases i with
    | zero => simp [mapSlots]
    | succ i => simp [mapSlots, ih, Nat.add_comm, Nat.add_left_comm]

/-- A slot of the map after a change of every entry. -/
theorem slotAt_mapSlots (f : Nat → SlotEntry → SlotEntry) (es : List SlotEntry) (i : Nat) (h : i < es.length) :
    slotAt (mapSlots f 0 es) i = f i (slotAt es i) := by
  simp [slotAt, mapSlots_getElem?, List.getElem?_eq_getElem h]

end Machine

end Sys2Proof
end

