-- ==== Sys2Proof/Laws/Operations.lean ====
section
/-! SUPPORT. One lemma for what each shared operation can do: bytes and messages, entries under the selector, the accounting, what the parent hands over, sorted collections, drop maps, slots, misses and marks. -/

namespace Sys2Proof

/-! ### Bytes and messages -/

theorem byteSum_append (a b : List Byte) : byteSum (a ++ b) = byteSum a + byteSum b := by
  have from' : ∀ (b : List Byte) (x : Byte), b.foldl (fun a b => a + b) x = x + byteSum b := by
    intro b
    induction b with
    | nil => intro x; simp [byteSum]
    | cons c b ih => intro x; simp only [byteSum, List.foldl_cons]; rw [ih, ih]; ring
  unfold byteSum; rw [List.foldl_append, from']; rfl

/-- A check byte makes the sum 0 (R191). -/
@[simp] theorem byteSum_withCheck (a : List Byte) : byteSum (withCheck a) = 0 := by
  rw [withCheck, byteSum_append]; simp [checkByte, byteSum]

@[simp] theorem withCheck_length (a : List Byte) : (withCheck a).length = a.length + 1 := by simp [withCheck]

@[simp] theorem beBytes_length : ∀ n v : Nat, (beBytes n v).length = n
  | 0, _ => rfl
  | n + 1, v => by simp [beBytes, beBytes_length n v]

@[simp] theorem leBytes_length : ∀ n v : Nat, (leBytes n v).length = n
  | 0, _ => rfl
  | n + 1, v => by simp [leBytes, leBytes_length n]

/-- The bytes of a number, one by one, most significant first (R191). -/
theorem beBytes_eq_map (n v : Nat) : beBytes n v = (List.range n).map (fun k => byteOf (v / 256 ^ (n - 1 - k))) := by
  induction n with
  | zero => rfl
  | succ n ih =>
    rw [List.range_succ_eq_map, List.map_cons, beBytes, ih, List.map_map]
    congr 1
    apply List.map_congr_left
    intro k _
    simp only [Function.comp, Nat.succ_eq_add_one]
    congr 3; omega

/-- The sum of bytes as numbers, modulo 256 (R191). -/
theorem byteSum_toNat (bs : List Byte) : (byteSum bs).toNat = (bs.map BitVec.toNat).sum % 256 := by
  induction bs with
  | nil => rfl
  | cons b bs ih =>
    have : byteSum (b :: bs) = b + byteSum bs := by
      rw [show b :: bs = [b] ++ bs from rfl, byteSum_append]; simp [byteSum]
    rw [this, BitVec.toNat_add, ih]; simp

theorem checkHolds_iff (bs : List Byte) : checkHolds bs = true ↔ (bs.map BitVec.toNat).sum % 256 = 0 := by
  simp only [checkHolds, beq_iff_eq, ← byteSum_toNat]
  exact ⟨fun h => by rw [h]; rfl, fun h => BitVec.eq_of_toNat_eq h⟩

theorem byteAt_eq (bs : List Byte) (k : Nat) : byteAt bs k = (bs[k]?.getD 0).toNat := by
  simp [byteAt, List.headD_eq_head?_getD]

/-- Bit k of gathered bits is the k-th of them (R193). -/
theorem bitsNat_testBit (bits : List Bool) (k : Nat) : (bitsNat bits).testBit k = bits[k]?.getD false := by
  induction bits generalizing k with
  | nil => simp [bitsNat]
  | cons b bs ih =>
    cases k with
    | zero => cases b <;> simp [bitsNat, Nat.testBit_zero]
    | succ k =>
      rw [List.getElem?_cons_succ, ← ih, Nat.testBit_succ]
      congr 1; simp only [bitsNat]; cases b <;> (simp; try omega)

/-- Bit k of presence byte j is bit 8 j + k of the number (R193). -/
theorem leBytes_testBit (n v j k : Nat) (hj : j < n) (hk : k < 8) :
    ((leBytes n v)[j]?.getD 0).toNat.testBit k = v.testBit (8 * j + k) := by
  induction n generalizing v j with
  | zero => omega
  | succ n ih =>
    cases j with
    | zero =>
      simp only [leBytes, byteOf, List.getElem?_cons_zero, Option.getD_some, BitVec.toNat_ofNat]
      rw [Nat.testBit_mod_two_pow]; simp [hk]
    | succ j =>
      simp only [leBytes, List.getElem?_cons_succ]
      rw [ih _ _ (by omega), show (256 : Nat) = 2 ^ 8 from rfl, Nat.testBit_div_two_pow]; congr 1; omega

/-- Stray bytes leave a receiver as it is (R195, R196). -/
theorem takeMessageBytes_stray (sync len : Nat) :
    ∀ bs : List Byte, (∀ b ∈ bs, b.toNat ≠ sync) → takeMessageBytes sync len [] bs = ([], []) := by
  intro bs
  induction bs with
  | nil => intro _; rfl
  | cons b bs ih =>
    intro h
    have hb : b.toNat ≠ sync := h b (by simp)
    simp [takeMessageBytes, takeMessageByte, hb, ih (fun c hc => h c (by simp [hc]))]

/-- Runs of bytes compose. -/
theorem takeMessageBytes_append (sync len : Nat) : ∀ as bs part : List Byte,
    takeMessageBytes sync len part (as ++ bs)
      = ((takeMessageBytes sync len (takeMessageBytes sync len part as).1 bs).1,
          (takeMessageBytes sync len part as).2 ++ (takeMessageBytes sync len (takeMessageBytes sync len part as).1 bs).2) := by
  intro as
  induction as with
  | nil => intro bs part; simp [takeMessageBytes]
  | cons a as ih => intro bs part; simp [takeMessageBytes, ih]

/-- A message short of its length stays in progress. -/
theorem takeMessageBytes_short (sync len : Nat) : ∀ bs part : List Byte, part ++ bs ≠ [] →
    ((part ++ bs).headD 0).toNat = sync → (part ++ bs).length < len →
    takeMessageBytes sync len part bs = (part ++ bs, []) := by
  intro bs
  induction bs with
  | nil => intro part _ _ _; simp [takeMessageBytes]
  | cons b bs ih =>
    intro part hn hs h
    have one : takeMessageByte sync len part b = (part ++ [b], none) := by
      cases part with
      | nil => simp at hs; simp [takeMessageByte, hs]
      | cons p ps =>
        have : (p :: ps).length + 1 ≠ len := by simp at h ⊢; omega
        simp only [takeMessageByte]; rw [if_neg (by simpa using this)]
    simp only [takeMessageBytes, one]
    rw [ih (part ++ [b]) (by simp) (by cases part <;> simpa using hs) (by simpa using h)]
    simp

namespace Machine

/-! ### Operands -/

theorem optIn_iff (lo hi : Nat) (o : Option Nat) : optIn lo hi o = true ↔ ∀ v, o = some v → lo ≤ v ∧ v ≤ hi := by
  cases o <;> simp [optIn, inRange]

theorem descending_iff : ∀ l : List Nat, descending l = true ↔ l.Pairwise (fun a b => b < a)
  | [] => by simp [descending]
  | [_] => by simp [descending]
  | a :: b :: rest => by
    simp only [descending, Bool.and_eq_true, decide_eq_true_eq, descending_iff (b :: rest), List.pairwise_cons]
    constructor
    · rintro ⟨h1, h2, h3⟩
      refine ⟨?_, h2, h3⟩
      intro x hx
      rcases List.mem_cons.mp hx with rfl | hx
      · exact h1
      · exact lt_trans (h2 x hx) h1
    · rintro ⟨h1, h2, h3⟩
      exact ⟨h1 b (by simp), h2, h3⟩

/-! ### Entries under the selector -/

theorem State.candidate_iff (s : State) (r : RefId) :
    s.candidate r = true ↔ (s.entry r).settings.enabled = true ∧ (s.entry r).state = .qualified := by
  simp [State.candidate, RefEntry.isCandidate]

@[simp] theorem State.selReact_entry (s : State) (q : RefId) : s.selReact.entry q = s.entry q := by simp [State.entry]

@[simp] theorem State.changeEntry_entry_same (s : State) (r : RefId) (f : RefEntry → RefEntry) :
    (s.changeEntry r f).entry r = f (s.entry r) := by
  unfold State.changeEntry; simp only []; split <;> simp

theorem State.changeEntry_entry_other (s : State) {r q : RefId} (f : RefEntry → RefEntry) (h : q ≠ r) :
    (s.changeEntry r f).entry q = s.entry q := by
  unfold State.changeEntry; simp only []; split <;> simp [State.updEntry_entry_other _ _ h]

/-- A change that does not move the entry into or out of QUALIFIED leaves the selector alone (R55). -/
theorem State.changeEntry_sel_same (s : State) (r : RefId) (f : RefEntry → RefEntry)
    (h : (s.entry r).state = .qualified ↔ (f (s.entry r)).state = .qualified) : (s.changeEntry r f).sel = s.sel := by
  unfold State.changeEntry; simp only []; rw [if_pos]
  · simp
  · simp [h]

/-- A change that does so is handed to the selector in the same act (R55). -/
theorem State.changeEntry_sel_react (s : State) (r : RefId) (f : RefEntry → RefEntry)
    (h : ¬ ((s.entry r).state = .qualified ↔ (f (s.entry r)).state = .qualified)) :
    (s.changeEntry r f).sel = (s.updEntry r (fun _ => f (s.entry r))).selReact.sel := by
  unfold State.changeEntry; simp only []; rw [if_neg]
  · rw [State.updEntry_congr s r f (fun _ => f (s.entry r)) rfl]
  · simp; intro k; apply h
    by_cases a : (s.entry r).state = .qualified <;> by_cases b : (f (s.entry r)).state = .qualified <;> simp_all

/-! ### The accounting -/

theorem State.accountEntry_entry_same (s : State) (r : RefId) :
    (s.accountEntry r).entry r
      = RefEntry.nextAccount (RefEntry.accountWindow (RefEntry.accountEpoch r (s.entry r))) := by
  simp [State.accountEntry]

theorem State.accountEntry_entry_other (s : State) {r q : RefId} (h : q ≠ r) :
    (s.accountEntry r).entry q = s.entry q := by
  simp [State.accountEntry, State.updEntry_entry_other _ _ h, State.changeEntry_entry_other _ _ h]

/-- The accounting gives every entry its own part, from the entry as it was. -/
theorem State.accounting_entry (s : State) (r : RefId) :
    (RefId.all.foldl State.accountEntry s).entry r
      = RefEntry.nextAccount (RefEntry.accountWindow (RefEntry.accountEpoch r (s.entry r))) := by
  cases r <;> simp only [RefId.all, List.foldl] <;>
    simp [State.accountEntry_entry_same, State.accountEntry_entry_other]

/-! ### What the parent hands over (R57) -/

theorem takeLost_frames : ∀ before after : List ParentEvent, (∀ x ∈ before, ∃ t f, x = .frame t f) →
    takeLost (before ++ .lost :: after) = some (before ++ after)
  | [], _, _ => rfl
  | x :: before, after, h => by
    obtain ⟨t, f, rfl⟩ := h x (by simp)
    simp [takeLost, takeLost_frames before after (fun y hy => h y (by simp [hy]))]

theorem takeLost_some : ∀ l rest : List ParentEvent, takeLost l = some rest →
    ∃ before after, (∀ x ∈ before, ∃ t f, x = ParentEvent.frame t f) ∧ l = before ++ .lost :: after
  | [], _, h => by simp [takeLost] at h
  | .lost :: l, _, _ => ⟨[], l, by simp, rfl⟩
  | .enrolled :: _, _, h => by simp [takeLost] at h
  | .frame t f :: l, _, h => by
    simp [takeLost] at h
    obtain ⟨a, ha, _⟩ := h
    obtain ⟨b, c, h1, h2⟩ := takeLost_some l a ha
    refine ⟨.frame t f :: b, c, ?_, by rw [h2]; rfl⟩
    intro x hx
    rcases List.mem_cons.mp hx with rfl | hx
    · exact ⟨t, f, rfl⟩
    · exact h1 x hx

/-! ### Sorted collections and drop maps (R70 to R72) -/

theorem mem_insertHandle (h k : Nat) : ∀ l : List Nat, k ∈ insertHandle h l ↔ k = h ∨ k ∈ l
  | [] => by simp [insertHandle]
  | a :: l => by
    simp only [insertHandle]; split
    · simp
    · simp [mem_insertHandle h k l]; tauto

theorem mem_insertPair (p q : Nat × Nat) : ∀ l : List (Nat × Nat), q ∈ insertPair p l ↔ q = p ∨ q ∈ l
  | [] => by simp [insertPair]
  | a :: l => by
    simp only [insertPair]; split
    · simp
    · simp [mem_insertPair p q l]; tauto

theorem mem_insertRecord (r q : SiteRecord) : ∀ l : List SiteRecord, q ∈ insertRecord r l ↔ q = r ∨ q ∈ l
  | [] => by simp [insertRecord]
  | a :: l => by
    simp only [insertRecord]; split
    · simp
    · simp [mem_insertRecord r q l]; tauto

theorem SiteTable.dropEntry_set_same (t : SiteTable) (l : LinkId) (d : Nat) (v : Option Nat) (h1 : 1 ≤ d)
    (h2 : d ≤ (t.dropMaps.get l).length) :
    ({ t with dropMaps := t.dropMaps.update l (setDrop d v) } : SiteTable).dropEntry l d = v := by
  simp [SiteTable.dropEntry, PerLink.update, setDrop]
  rw [List.getElem?_set_self (by omega)]; simp

theorem SiteTable.dropEntry_set_other (t : SiteTable) (l m : LinkId) (d e : Nat) (v : Option Nat) (h1 : 1 ≤ d)
    (h0 : 1 ≤ e) (h : ¬ (m = l ∧ e = d)) :
    ({ t with dropMaps := t.dropMaps.update l (setDrop d v) } : SiteTable).dropEntry m e = t.dropEntry m e := by
  simp only [SiteTable.dropEntry, PerLink.update, setDrop]
  by_cases hm : m = l
  · subst hm
    have hd : d - 1 ≠ e - 1 := by
      intro k; exact h ⟨rfl, by omega⟩
    rw [PerLink.get_set_same, List.getElem?_set_ne hd]
  · rw [PerLink.get_set_other _ _ hm]

/-- A link holds a record when its drop map names a handle at some drop (R131). -/
theorem State.holdsRecord_iff (s : State) (l : LinkId) :
    s.holdsRecord l = true ↔ ∃ d h : Nat, 1 ≤ d ∧ s.stu.dropEntry l d = some h := by
  simp only [State.holdsRecord, List.any_eq_true, SiteTable.dropEntry]
  constructor
  · rintro ⟨x, hx, hs⟩
    obtain ⟨k, hk⟩ := List.mem_iff_getElem?.mp hx
    obtain ⟨h, rfl⟩ := Option.isSome_iff_exists.mp hs
    exact ⟨k + 1, h, by omega, by simp [hk]⟩
  · rintro ⟨d, h, -, he⟩
    cases hk : (s.stu.dropMaps.get l)[d - 1]? with
    | none => rw [hk] at he; simp at he
    | some x => rw [hk] at he; simp at he; subst he; exact ⟨some h, List.mem_iff_getElem?.mpr ⟨_, hk⟩, rfl⟩

/-! ### Slots (R99) -/

theorem occupiedFrom_iff (v : Nat) (slots : List SlotEntry) :
    occupiedFrom v slots = false ↔ ∀ j, v ≤ j → slotAt slots j = .free := by
  simp only [occupiedFrom, List.any_eq_false, slotAt]
  constructor
  · intro h j hj
    cases hk : slots[j]? with
    | none => rfl
    | some e =>
      have m : e ∈ slots.drop v := by
        rw [List.mem_iff_getElem?]
        exact ⟨j - v, by rw [List.getElem?_drop, show v + (j - v) = j by omega]; exact hk⟩
      simpa using h e m
  · intro h e he
    obtain ⟨k, hk⟩ := List.mem_iff_getElem?.mp he
    rw [List.getElem?_drop] at hk
    have := h (v + k) (by omega)
    rw [hk] at this; simpa using this

/-! ### Misses (R143, R144) -/

/-- Several misses at once. -/
theorem countMiss_fold : ∀ (xs : List Exchange) (r : SiteRecord),
    xs.foldl (fun q _ => q.countMiss) r
      = if xs.length = 0 then r
        else { r with missed := min (r.missed + xs.length) 65535, missRun := min (r.missRun + xs.length) 255,
                      silence := silenceOf (min (r.missRun + xs.length) 255) }
  | [], r => by simp
  | x :: xs, r => by
    rw [List.foldl_cons, countMiss_fold xs _]
    simp only [SiteRecord.countMiss, SiteRecord.withMissRun, inc16, Config.countMax]
    cases xs with
    | nil => simp
    | cons y ys =>
      simp only [List.length_cons]
      rw [if_neg (by omega), if_neg (by omega)]
      have a : min (min (r.missed + 1) 65535 + (ys.length + 1)) 65535 = min (r.missed + (ys.length + 1 + 1)) 65535 := by omega
      have b : min (min (r.missRun + 1) 255 + (ys.length + 1)) 255 = min (r.missRun + (ys.length + 1 + 1)) 255 := by omega
      rw [a, b]

/-! ### Samples offered to the timebase (R8, R18) -/

/-- The offers of every entry but the selected one go, and nothing else. -/
theorem State.ignoreOthers_eq (s : State) :
    s.ignoreOthers = { s with rm := { s.rm with entries := s.othersTaken } } := by
  unfold State.ignoreOthers State.othersTaken State.offersTaken
  cases h : s.tb.selected with
  | none => simp [PerRef.map]
  | some r => cases r <;> simp [PerRef.map, PerRef.set, State.entry, PerRef.get]

/-- The selected reference's entry is as it was. -/
theorem State.ignoreOthers_selected (s : State) (r : RefId) (h : s.tb.selected = some r) :
    s.ignoreOthers.entry r = s.entry r := by
  rw [State.ignoreOthers_eq]
  simp only [State.entry, State.othersTaken, h]
  cases r <;> rfl

/-- A sample row with an offer of the selected reference acts on it. -/
theorem State.takeSample_offer (s : State) (r : RefId) (v : Int) (act : RefId → Int → State → State)
    (h : s.tb.selected = some r) (o : (s.entry r).offer = some v) :
    s.takeSample r.isPhase act = act r v s.ignoreOthers := by
  unfold State.takeSample State.selectedOffer
  have e : s.ignoreOthers.tb = s.tb := rfl
  dsimp only
  rw [e, h]
  simp [State.ignoreOthers_selected s r h, o]

/-- Without one it only takes the other entries' offers. -/
theorem State.takeSample_none (s : State) (phase : Bool) (act : RefId → Int → State → State)
    (h : ∀ r, s.tb.selected = some r → r.isPhase = phase → (s.entry r).offer = none) :
    s.takeSample phase act = s.ignoreOthers := by
  unfold State.takeSample State.selectedOffer
  have e : s.ignoreOthers.tb = s.tb := rfl
  dsimp only
  rw [e]
  cases k : s.tb.selected with
  | none => rfl
  | some r =>
    by_cases p : r.isPhase = phase
    · simp [p, State.ignoreOthers_selected s r k, h r k p]
    · simp [p]

/-! ### Marks (R169, R170) -/

/-- Taking a mark off changes nothing of an entry but its root. -/
theorem AlarmEntry.unmark_eq (gone : List Nat) (e : AlarmEntry) : e.unmark gone = { e with root := (e.unmark gone).root } := by
  unfold AlarmEntry.unmark
  split
  · split <;> rfl
  · rfl

theorem AlarmEntry.unmark_root (gone : List Nat) (e : AlarmEntry) :
    (e.unmark gone).root = if ∃ k, e.root = some k ∧ k ∈ gone then none else e.root := by
  unfold AlarmEntry.unmark
  cases h : e.root with
  | none => simp [h]
  | some k => by_cases m : k ∈ gone <;> simp [h, m]

end Machine

end Sys2Proof
end

