-- ==== Sys2Proof/Laws/Removal.lean ====
section
/-! SUPPORT. What the removal of several records, and the swap of several blocks, leave: links, drop maps, alarm entries and the notify line. -/

namespace Sys2Proof

namespace Machine

/-! ### Links after removals (R88) -/

theorem slotAt_freeSlots (h : Nat) (slots : List SlotEntry) (k : Nat) :
    slotAt (freeSlots h slots) k = if slotAt slots k = .held h ∨ slotAt slots k = .reserved h then .free else slotAt slots k := by
  simp only [slotAt, freeSlots, List.getElem?_map]
  rcases Option.eq_none_or_eq_some slots[k]? with h | ⟨e, h⟩ <;> simp [h]

@[simp] theorem State.removeRecord_link (s : State) (r : SiteRecord) (l : LinkId) :
    (s.removeRecord r).link l = if r.link = l then Link.dropRecord r.handle (s.link l) else s.link l := by
  by_cases h : r.link = l
  · subst h; rw [if_pos rfl]; exact State.updLink_link_same s r.link _
  · rw [if_neg h]; exact State.updLink_link_other s _ (fun e => h e.symm)

/-- A slot after removals: FREE where a record of the link that went held or reserved it. -/
theorem State.removeRecords_slotAt (l : LinkId) (k : Nat) : ∀ (rs : List SiteRecord) (s : State),
    slotAt ((rs.foldl State.removeRecord s).link l).slots k =
      match slotAt (s.link l).slots k with
      | .free => .free
      | .held h => if rs.any (fun r => r.link == l && r.handle == h) then .free else .held h
      | .reserved h => if rs.any (fun r => r.link == l && r.handle == h) then .free else .reserved h
  | [], s => by cases h : slotAt (s.link l).slots k <;> simp [h]
  | r :: rs, s => by
    rw [List.foldl_cons, State.removeRecords_slotAt l k rs, State.removeRecord_link]
    by_cases hl : r.link = l
    · rw [if_pos hl]
      have e : (Link.dropRecord r.handle (s.link l)).slots = freeSlots r.handle (s.link l).slots := rfl
      rw [e, slotAt_freeSlots]
      cases h : slotAt (s.link l).slots k with
      | free => simp
      | held x =>
        by_cases hx : x = r.handle
        · simp [hl, hx]
        · simp [hl, hx, beq_eq_false_iff_ne.mpr (Ne.symm hx)]
      | reserved x =>
        by_cases hx : x = r.handle
        · simp [hl, hx]
        · simp [hl, hx, beq_eq_false_iff_ne.mpr (Ne.symm hx)]
    · rw [if_neg hl]; simp [beq_eq_false_iff_ne.mpr hl]

/-- A link after removals: the slot map, which keeps its length, and the retire queue without the handles that went. -/
theorem State.removeRecords_link (l : LinkId) : ∀ (rs : List SiteRecord) (s : State),
    (rs.foldl State.removeRecord s).link l = { s.link l with
        slots := ((rs.foldl State.removeRecord s).link l).slots,
        retireQueue := (s.link l).retireQueue.filter (fun h => !rs.any (fun r => r.link == l && r.handle == h)) }
      ∧ ((rs.foldl State.removeRecord s).link l).slots.length = (s.link l).slots.length
  | [], s => by simp
  | r :: rs, s => by
    obtain ⟨a, b⟩ := State.removeRecords_link l rs (s.removeRecord r)
    rw [List.foldl_cons, b]
    refine ⟨?_, ?_⟩
    · rw [a]
      rw [State.removeRecord_link]
      by_cases hl : r.link = l
      · rw [if_pos hl]
        simp [Link.dropRecord, hl, List.filter_filter, Bool.and_comm, bne, BEq.comm]
      · rw [if_neg hl]; simp [beq_eq_false_iff_ne.mpr hl]
    · rw [State.removeRecord_link]; split
      · simp [Link.dropRecord, freeSlots]
      · rfl

/-! ### Drop maps after removals (R72, R88) -/

/-- A drop map entry after a removal. -/
theorem State.removeRecord_dropEntry (s : State) (r : SiteRecord) (l : LinkId) (d : Nat) (h : 1 ≤ r.drop) (hd : 1 ≤ d) :
    (s.removeRecord r).stu.dropEntry l d = if r.link = l ∧ r.drop = d then none else s.stu.dropEntry l d := by
  have e : (s.removeRecord r).stu.dropEntry l d
      = ({ s.stu with dropMaps := s.stu.dropMaps.update r.link (setDrop r.drop none) } : SiteTable).dropEntry l d := rfl
  rw [e]
  by_cases k : r.link = l ∧ r.drop = d
  · rw [if_pos k]
    obtain ⟨rfl, rfl⟩ := k
    simp only [SiteTable.dropEntry, PerLink.update, setDrop, PerLink.get_set_same, List.getElem?_set]
    split
    · split <;> simp
    · simp_all
  · rw [if_neg k]
    exact SiteTable.dropEntry_set_other _ _ _ _ _ _ h hd (fun ⟨a, b⟩ => k ⟨a.symm, b.symm⟩)

/-- A drop map entry after removals: empty where a record of that link and drop went. -/
theorem State.removeRecords_dropEntry (l : LinkId) (d : Nat) (hd : 1 ≤ d) : ∀ (rs : List SiteRecord) (s : State),
    (∀ r ∈ rs, 1 ≤ r.drop) → (rs.foldl State.removeRecord s).stu.dropEntry l d
      = if ∃ r ∈ rs, r.link = l ∧ r.drop = d then none else s.stu.dropEntry l d
  | [], s, _ => by simp
  | r :: rs, s, h => by
    rw [List.foldl_cons, State.removeRecords_dropEntry l d hd rs _ (fun q m => h q (List.mem_cons_of_mem _ m)),
      State.removeRecord_dropEntry s r l d (h r List.mem_cons_self) hd]
    by_cases a : r.link = l ∧ r.drop = d <;> simp [a]

/-! ### Alarm entries after removals (R170, R176) -/

/-- The entries that retirement leaves, each with the mark off that names an index that went. -/
theorem AlarmTable.retireWhere_entries (p : AlarmEntry → Bool) (t : AlarmTable) :
    (t.retireWhere p).entries = (t.entries.filter (fun e => !p e)).map (fun e =>
      { e with root := e.root.filter (fun k => !t.entries.any (fun f => p f && f.index == k)) }) := by
  refine List.map_congr_left (fun e _ => ?_)
  rw [AlarmEntry.unmark_eq, AlarmEntry.unmark_root]
  cases h : e.root with
  | none => simp
  | some k => by_cases m : ∃ f ∈ t.entries, p f = true ∧ f.index = k <;> simp [Option.filter, m, and_assoc]

/-- Two retirements in turn are one retirement of what either test names, where a test goes by the source. -/
theorem AlarmTable.retireWhere_retireWhere (p q : AlarmSource → Bool) (t : AlarmTable) :
    ((t.retireWhere (fun e => p e.source)).retireWhere (fun e => q e.source)).entries
      = (t.retireWhere (fun e => p e.source || q e.source)).entries := by
  simp only [AlarmTable.retireWhere_entries, List.filter_map, List.map_map, List.filter_filter, List.any_map]
  have hf : (fun e : AlarmEntry => !(p e.source || q e.source)) = fun e => (!q e.source && !p e.source) := by
    funext e; cases p e.source <;> cases q e.source <;> rfl
  rw [hf]
  refine List.map_congr_left (fun e _ => ?_)
  simp only [Function.comp]
  rw [Option.filter_filter]
  congr 2
  funext k
  rw [Bool.eq_iff_iff]
  simp
  grind

/-- Where no mark names what goes, retirement only takes entries out. -/
theorem AlarmTable.retireWhere_unmarked (p : AlarmEntry → Bool) (t : AlarmTable)
    (h : ∀ f ∈ t.entries, ∀ k, f.root = some k → ∀ g ∈ t.entries, p g = true → g.index ≠ k) :
    (t.retireWhere p).entries = t.entries.filter (fun e => !p e) := by
  refine (List.map_congr_left (fun e m => ?_)).trans (List.map_id _)
  rw [AlarmEntry.unmark_eq, AlarmEntry.unmark_root]
  have m' := (List.mem_filter.mp m).1
  rw [if_neg]
  · rfl
  · rintro ⟨k, hk, hg⟩
    obtain ⟨g, mg, rfl⟩ := List.mem_map.mp hg
    exact h e m' _ hk g (List.mem_filter.mp mg).1 (List.mem_filter.mp mg).2 rfl

/-- The entries after removals: those of no record that went, with the marks off that named one that went. -/
theorem State.removeRecords_entries : ∀ (rs : List SiteRecord) (s : State),
    (rs.foldl State.removeRecord s).atu.entries
      = (s.atu.retireWhere (fun e => rs.any (fun r => AlarmSource.isSite r.handle e.source))).entries
  | [], s => by
    rw [AlarmTable.retireWhere_unmarked _ _ (fun _ _ _ _ _ _ h => absurd h (by simp))]
    simp
  | r :: rs, s => by
    rw [List.foldl_cons, State.removeRecords_entries rs]
    exact AlarmTable.retireWhere_retireWhere (fun a => AlarmSource.isSite r.handle a)
      (fun a => rs.any (fun q => AlarmSource.isSite q.handle a)) s.atu

/-- The rest of the alarm table after removals. -/
theorem State.removeRecords_atu : ∀ (rs : List SiteRecord) (s : State),
    (rs.foldl State.removeRecord s).atu = { s.atu with
      entries := (rs.foldl State.removeRecord s).atu.entries, asserted := (rs.foldl State.removeRecord s).atu.asserted }
  | [], _ => rfl
  | r :: rs, s => by
    have e := State.removeRecords_atu rs (s.removeRecord r)
    rw [List.foldl_cons, e]; rfl

/-- The notify line after removals of which one at least is made: each removal lets it go where nothing qualifies, and with no
mark on what goes, what qualifies at the end has qualified throughout. -/
theorem State.removeRecords_asserted : ∀ (rs : List SiteRecord) (s : State), rs ≠ [] →
    (∀ f ∈ s.atu.entries, ∀ k, f.root = some k → ∀ g ∈ s.atu.entries,
      rs.any (fun r => AlarmSource.isSite r.handle g.source) = true → g.index ≠ k) →
    ((rs.foldl State.removeRecord s).atu.asserted = true ↔ s.atu.asserted = true
      ∧ ∃ e ∈ (rs.foldl State.removeRecord s).atu.entries, e.qualifies s.atu.threshold = true)
  | [], _, h, _ => absurd rfl h
  | r :: rs, s, _, hm => by
    have he : (s.removeRecord r).atu.entries = s.atu.entries.filter (fun e => !AlarmSource.isSite r.handle e.source) :=
      AlarmTable.retireWhere_unmarked _ s.atu (fun f mf k hk g mg hg => hm f mf k hk g mg (by simp [hg]))
    have ha : (s.removeRecord r).atu.asserted = true ↔ s.atu.asserted = true
        ∧ ∃ e ∈ (s.removeRecord r).atu.entries, e.qualifies s.atu.threshold = true := by
      show (s.atu.asserted && AlarmTable.anyQualifies _) = true ↔ _
      rw [Bool.and_eq_true, AlarmTable.anyQualifies, List.any_eq_true]; rfl
    cases rs with
    | nil => exact ha
    | cons q qs =>
      have hm' : ∀ f ∈ (s.removeRecord r).atu.entries, ∀ k, f.root = some k → ∀ g ∈ (s.removeRecord r).atu.entries,
          (q :: qs).any (fun x => AlarmSource.isSite x.handle g.source) = true → g.index ≠ k := by
        rw [he]
        intro f mf k hk g mg hg
        exact hm f (List.mem_filter.mp mf).1 k hk g (List.mem_filter.mp mg).1
          (by rw [List.any_cons, hg, Bool.or_true])
      have ih := State.removeRecords_asserted (q :: qs) (s.removeRecord r) (by simp) hm'
      have hs : (s.removeRecord r).atu.threshold = s.atu.threshold := rfl
      rw [List.foldl_cons, ih, ha, hs]
      refine ⟨fun ⟨⟨a, _⟩, b⟩ => ⟨a, b⟩, fun ⟨a, e, me, hq⟩ => ⟨⟨a, e, ?_, hq⟩, e, me, hq⟩⟩
      rw [State.removeRecords_entries, AlarmTable.retireWhere_unmarked _ _ hm'] at me
      exact (List.mem_filter.mp me).1

/-! ### Slots after the swaps of a boundary (R104, R120) -/

theorem slotAt_swapSlots (h base rate : Nat) (slots : List SlotEntry) (k : Nat) :
    slotAt (swapSlots h base rate slots) k =
      if slotAt slots k = .reserved h then .held h
      else if slotAt slots k = .held h ∧ inBlock base rate k = false then .free else slotAt slots k := by
  by_cases hk : k < slots.length
  · rw [swapSlots, slotAt_mapSlots _ _ _ hk]
  · have a : slotAt slots k = .free := by simp [slotAt, List.getElem?_eq_none (Nat.le_of_not_lt hk)]
    have b : slotAt (swapSlots h base rate slots) k = .free := by
      simp [slotAt, swapSlots, mapSlots_length, Nat.le_of_not_lt hk]
    rw [a, b]; simp

/-- A record of a link whose pending rate and base are swapped in at a boundary. -/
def SiteRecord.swaps (r : SiteRecord) (l : LinkId) (h rate base : Nat) : Prop :=
  r.link = l ∧ (r.lifecycle = .active ∨ r.lifecycle = .suspended) ∧ r.handle = h
    ∧ r.pending.rate = some rate ∧ r.pending.slotBase = some base

/-- A link after one record's application: the swap, or nothing. -/
theorem State.applyAmendment_slots (s : State) (r : SiteRecord) (l : LinkId) :
    (∃ rate base, r.swaps l r.handle rate base
      ∧ ((s.applyAmendment r).link l).slots = swapSlots r.handle base rate (s.link l).slots)
    ∨ ((∀ h rate base, ¬ r.swaps l h rate base) ∧ ((s.applyAmendment r).link l).slots = (s.link l).slots) := by
  unfold State.applyAmendment
  by_cases ha : r.lifecycle = .active ∨ r.lifecycle = .suspended
  · rw [if_pos ha]
    by_cases hl : r.link = l
    · subst hl
      have e : ((s.updLink r.link (Link.swapPending r)).updRecord r.handle (SiteRecord.applyPending s.clock.boundaries)).link r.link
          = Link.swapPending r (s.link r.link) := State.updLink_link_same s r.link _
      rw [e]
      unfold Link.swapPending
      cases h1 : r.pending.rate with
      | none => right; exact ⟨fun _ _ _ q => Option.some_ne_none _ (q.2.2.2.1.symm.trans h1), rfl⟩
      | some rate =>
        cases h2 : r.pending.slotBase with
        | none => right; exact ⟨fun _ _ _ q => Option.some_ne_none _ (q.2.2.2.2.symm.trans h2), rfl⟩
        | some base => left; exact ⟨rate, base, ⟨rfl, ha, rfl, h1, h2⟩, rfl⟩
    · right
      exact ⟨fun _ _ _ q => hl q.1, congrArg Link.slots (State.updLink_link_other s _ (fun e => hl e.symm))⟩
  · rw [if_neg ha]; right; exact ⟨fun _ _ _ q => ha q.2.1, rfl⟩

/-- The slots after the applications of several records, each with its own handle. -/
theorem State.applyAmendments_slotAt (l : LinkId) (k : Nat) : ∀ (rs : List SiteRecord) (s : State),
    (rs.map SiteRecord.handle).Nodup →
    let u := rs.foldl State.applyAmendment s
    ((u.link l).slots.length = (s.link l).slots.length)
    ∧ (slotAt (s.link l).slots k = .free → slotAt (u.link l).slots k = .free)
    ∧ (∀ h, slotAt (s.link l).slots k = .reserved h →
        ((∃ r ∈ rs, ∃ rate base, r.swaps l h rate base) → slotAt (u.link l).slots k = .held h)
        ∧ ((∀ r ∈ rs, ∀ rate base, ¬ r.swaps l h rate base) → slotAt (u.link l).slots k = .reserved h))
    ∧ (∀ h, slotAt (s.link l).slots k = .held h →
        (∀ r ∈ rs, ∀ rate base, r.swaps l h rate base →
          slotAt (u.link l).slots k = if inBlock base rate k then .held h else .free)
        ∧ ((∀ r ∈ rs, ∀ rate base, ¬ r.swaps l h rate base) → slotAt (u.link l).slots k = .held h))
  | [], s, _ => by simp
  | r :: rs, s, n => by
    rw [List.map_cons, List.nodup_cons] at n
    obtain ⟨hL, hF, hR, hH⟩ := State.applyAmendments_slotAt l k rs (s.applyAmendment r) n.2
    have other : ∀ q ∈ rs, ∀ rate base, ¬ q.swaps l r.handle rate base :=
      fun q m rate base w => n.1 (List.mem_map.mpr ⟨q, m, w.2.2.1⟩)
    rcases State.applyAmendment_slots s r l with ⟨rate, base, w, e⟩ | ⟨w, e⟩
    · rw [e] at hL hF hR hH
      rw [slotAt_swapSlots] at hF hR hH
      have len : (swapSlots r.handle base rate (s.link l).slots).length = (s.link l).slots.length := mapSlots_length _ _ _
      refine ⟨hL.trans len, fun h => hF (by rw [h]; simp), fun h hs => ?_, fun h hs => ?_⟩
      · by_cases hh : h = r.handle
        · subst hh
          have := hH r.handle (by rw [if_pos hs])
          exact ⟨fun _ => this.2 other, fun c => absurd w (c r List.mem_cons_self rate base)⟩
        · have := hR h (by rw [hs, if_neg (by simpa using hh)]; simp)
          refine ⟨fun ⟨q, m, a, b, x⟩ => this.1 ?_, fun c => this.2 (fun q m => c q (List.mem_cons_of_mem _ m))⟩
          rcases List.mem_cons.mp m with rfl | m
          · exact absurd x.2.2.1.symm hh
          · exact ⟨q, m, a, b, x⟩
      · by_cases hh : h = r.handle
        · subst hh
          refine ⟨fun q m a b x => ?_, fun c => absurd w (c r List.mem_cons_self rate base)⟩
          have hq : q = r := by
            rcases List.mem_cons.mp m with rfl | m
            · rfl
            · exact absurd x (other q m a b)
          subst hq
          obtain rfl : rate = a := Option.some.inj (w.2.2.2.1.symm.trans x.2.2.2.1)
          obtain rfl : base = b := Option.some.inj (w.2.2.2.2.symm.trans x.2.2.2.2)
          by_cases hb : inBlock base rate k = true
          · rw [if_pos hb]
            exact (hH q.handle (by rw [hs]; simp [hb])).2 other
          · rw [if_neg hb]
            exact hF (by rw [hs]; simp [hb])
        · have := hH h (by rw [hs, if_neg (by simp), if_neg (by simp [hh])])
          refine ⟨fun q m a b x => ?_, fun c => this.2 (fun q m => c q (List.mem_cons_of_mem _ m))⟩
          rcases List.mem_cons.mp m with rfl | m
          · exact absurd x.2.2.1.symm hh
          · exact this.1 q m a b x
    · rw [e] at hL hF hR hH
      have up : ∀ h, (∀ q ∈ r :: rs, ∀ rate base, ¬ q.swaps l h rate base) → ∀ q ∈ rs, ∀ rate base, ¬ q.swaps l h rate base :=
        fun h c q m => c q (List.mem_cons_of_mem _ m)
      refine ⟨hL, hF, fun h hs => ⟨fun ⟨q, m, a, b, x⟩ => (hR h hs).1 ?_, fun c => (hR h hs).2 (up h c)⟩,
        fun h hs => ⟨fun q m a b x => ?_, fun c => (hH h hs).2 (up h c)⟩⟩
      · rcases List.mem_cons.mp m with rfl | m
        · exact absurd x (w _ _ _)
        · exact ⟨q, m, a, b, x⟩
      · rcases List.mem_cons.mp m with rfl | m
        · exact absurd x (w _ _ _)
        · exact (hH h hs).1 q m a b x

end Machine

end Sys2Proof
end

