-- ==== Sys2Proof/Tests/Slice0.lean ====
section
/-! SUPPORT. The model's own tests: ill-formed terms the check refuses, and steps of the manual's worked examples. -/

namespace Sys2Proof.Tests

open Sys2Proof Sys2Proof.Machine

set_option maxRecDepth 20000

/-! ### Well-formedness: one ill-formed term for each check -/

def noHub : HubSetReq := { identity := none, tTurn := none, parentDrop := none, timeout := none }

def noTbSet : TbSetReq :=
  { learningPeriod := none, lockThreshold := none, lockCount := none, unlockThreshold := none, slewLimit := none,
    ceiling := none, g0 := none, agingInterval := none, ga := none }

def noGeneral : RefGeneralReq :=
  { wtr := none, revertive := none, enabled := none, priority := none, hysteresis := none, window := none, floor := none,
    qualifyPeriod := none, gateWidth := none, acceptLevel := none, maxDepth := none, baseUncertainty := none,
    allowance := none }

def noThresholds : RefThresholdReq :=
  { t1 := none, t2 := none, t3 := none, t4 := none, t5 := none, t6 := none, t7 := none }

def anAdmit : AdmitReq :=
  { handle := 10, protectedFlag := false, squelch := false, autoComp := true, cls := 2, budget := 300, rate := 4,
    slotBase := .any, ackMode := 0, window := 1, compensation := 0, groups := 1 }

def noAmend (h : Nat) : AmendReq :=
  { handle := h, budget := none, groups := none, protectedFlag := none, autoComp := none, cls := none, rate := none,
    slotBase := none, ackMode := none, window := none, compensation := none, squelch := none }

def noGroup (m : BitVec 8) : AmendGroupReq :=
  { mask := m, budget := none, window := none, squelch := none, autoComp := none, delta := none }

def aTime : TimeFrame :=
  { addr := 5, seconds := 1000, slot := 16, index := 0, offset := 62500000, quality := 0, depth := 0, appliedStep := 0,
    senderU := 40, replyRequested := true }

def illFormedHub : List Instr :=
  [.hubSet 256 noHub, .hubSet 0 { noHub with identity := some 4294967296 }, .hubSet 0 { noHub with tTurn := some 4294967296 },
    .hubSet 0 { noHub with parentDrop := some 256 }, .hubSet 0 { noHub with timeout := some 256 }, .deviceIdentify 256,
    .deviceWarmReset 256, .tbLookup 256, .tbSetTime 256 0]

def illFormedTb : List Instr :=
  [.tbSet 256 noTbSet, .tbSet 0 { noTbSet with learningPeriod := some 65536 },
    .tbSet 0 { noTbSet with lockThreshold := some 65536 }, .tbSet 0 { noTbSet with lockCount := some 256 },
    .tbSet 0 { noTbSet with unlockThreshold := some 65536 }, .tbSet 0 { noTbSet with slewLimit := some 65536 },
    .tbSet 0 { noTbSet with ceiling := some 4294967296 }, .tbSet 0 { noTbSet with g0 := some 65536 },
    .tbSet 0 { noTbSet with agingInterval := some 65536 }, .tbSet 0 { noTbSet with ga := some 65536 }]

def illFormedRef : List Instr :=
  [.refLookup 256 0 0, .refLookup 0 256 0, .refLookup 0 0 256, .refSet 256 0 (.general noGeneral),
    .refSet 0 256 (.general noGeneral), .refSet 0 0 (.other 1), .refSet 0 0 (.other 256), .refForce 256 0, .refForce 0 256,
    .refRelease 256, .refSet 0 0 (.thresholds { noThresholds with t1 := some 4294967296 }),
    .refSet 0 0 (.thresholds { noThresholds with t2 := some 4294967296 }),
    .refSet 0 0 (.thresholds { noThresholds with t3 := some 4294967296 }),
    .refSet 0 0 (.thresholds { noThresholds with t4 := some 4294967296 }),
    .refSet 0 0 (.thresholds { noThresholds with t5 := some 4294967296 }),
    .refSet 0 0 (.thresholds { noThresholds with t6 := some 4294967296 }),
    .refSet 0 0 (.thresholds { noThresholds with t7 := some 4294967296 })]

def illFormedGeneral : List Instr :=
  [{ noGeneral with wtr := some 65536 }, { noGeneral with priority := some 256 }, { noGeneral with hysteresis := some 256 },
    { noGeneral with window := some 256 }, { noGeneral with floor := some 256 }, { noGeneral with qualifyPeriod := some 256 },
    { noGeneral with gateWidth := some 4294967296 }, { noGeneral with acceptLevel := some 256 },
    { noGeneral with maxDepth := some 256 }, { noGeneral with baseUncertainty := some 65536 },
    { noGeneral with allowance := some 65536 }].map (fun g => .refSet 0 0 (.general g))

def illFormedSite : List Instr :=
  [.siteCreate 256 1 0 1, .siteCreate 0 4294967296 0 1, .siteCreate 0 1 256 1, .siteCreate 0 1 0 256, .siteAdmit 256 anAdmit,
    .siteAdmit 0 { anAdmit with handle := 256 }, .siteAdmit 0 { anAdmit with cls := 256 },
    .siteAdmit 0 { anAdmit with budget := 65536 }, .siteAdmit 0 { anAdmit with rate := 256 },
    .siteAdmit 0 { anAdmit with slotBase := .explicit 256 }, .siteAdmit 0 { anAdmit with ackMode := 256 },
    .siteAdmit 0 { anAdmit with window := 256 }, .siteAdmit 0 { anAdmit with compensation := 2147483648 },
    .siteSuspend 256 0, .siteSuspend 0 256, .siteResume 256 0, .siteResume 0 256, .siteRetire 256 0 true,
    .siteRetire 0 256 true, .siteLookup 256 (.byHandle 0), .siteLookup 0 (.byHandle 256),
    .siteLookup 0 (.bySiteId 4294967296), .siteLookup 0 (.byLinkDrop 256 0), .siteLookup 0 (.byLinkDrop 0 256),
    .siteLookup 0 (.other 2), .siteNext 256 0, .siteNext 0 4294967296, .siteTakeCounts 256 0, .siteTakeCounts 0 256]

def illFormedAmend : List Instr :=
  [.siteAmend 256 (noAmend 0), .siteAmend 0 (noAmend 256), .siteAmend 0 { noAmend 0 with budget := some 65536 },
    .siteAmend 0 { noAmend 0 with cls := some 256 }, .siteAmend 0 { noAmend 0 with rate := some 256 },
    .siteAmend 0 { noAmend 0 with slotBase := some (.explicit 256) }, .siteAmend 0 { noAmend 0 with ackMode := some 256 },
    .siteAmend 0 { noAmend 0 with window := some 256 }, .siteAmend 0 { noAmend 0 with compensation := some (-2147483649) },
    .siteAmendGroup 256 (noGroup 1), .siteAmendGroup 0 { noGroup 1 with budget := some 65536 },
    .siteAmendGroup 0 { noGroup 1 with window := some 256 }, .siteAmendGroup 0 { noGroup 1 with delta := some 2147483648 }]

def illFormedLink : List Instr :=
  [.enrolOpen 256 0 1, .enrolOpen 0 256 1, .enrolOpen 0 0 256, .enrolClose 256 0, .enrolClose 0 256,
    .linkSet 256 0 none none, .linkSet 0 256 none none, .linkSet 0 0 (some 256) none, .linkSet 0 0 none (some 256),
    .linkRestart 256 0, .linkRestart 0 256, .linkLookup 256 0 true, .linkLookup 0 256 true]

def illFormedAlarm : List Instr :=
  [.alarmLookup 256 (.byIndex 0), .alarmLookup 0 (.byIndex 256), .alarmLookup 0 (.bySource 256 0 0),
    .alarmLookup 0 (.bySource 0 256 0), .alarmLookup 0 (.bySource 0 0 256), .alarmLookup 0 (.other 1), .alarmNext 256 0,
    .alarmNext 0 281474976710656, .alarmAck 256 0, .alarmAck 0 256, .alarmAckSeverity 256 1, .notifyArm 256, .notifyAck 256,
    .notifySet 256 0, .notifySet 0 256]

def illFormedEvent : List Instr :=
  [.ppsEdge .a (-1), .lineClockEdge .a (-1), .deliverySlotStart .l0 256 false, .farewellSlot .l0 256,
    .exchangeWindowEnd .l0 64 0 0 none, .exchangeWindowEnd .l0 0 256 0 none, .exchangeWindowEnd .l0 0 0 16 none,
    .exchangeWindowEnd .l0 0 0 0 (some { instant := -1, bytes := [1] }),
    .exchangeWindowEnd .l0 0 0 0 (some { instant := 0, bytes := [] }),
    .exchangeWindowEnd .l0 0 0 0 (some { instant := 0, bytes := List.replicate 25 1 }), .replyFrame .l0 (-1) 1 0 0,
    .replyFrame .l0 0 256 0 0, .replyFrame .l0 0 1 256 0, .replyFrame .l0 0 1 0 256, .enrolFrame .l0 (-1) 1 1 0,
    .enrolFrame .l0 0 256 1 0, .enrolFrame .l0 0 1 4294967296 0, .linkFrameDiscarded .l0 (-1) [],
    .parentCallFrame .l0 (-1) 0 0 0 0, .parentCallFrame .l0 0 256 0 0 0, .parentCallFrame .l0 0 0 4294967296 0 0,
    .parentCallFrame .l0 0 0 0 256 0, .parentFarewellFrame .l0 (-1) 1 1 1, .parentFarewellFrame .l0 0 256 1 1,
    .parentFarewellFrame .l0 0 1 4294967296 1, .parentFarewellFrame .l0 0 1 1 4294967296]

def illFormedTime : List Instr :=
  (.parentTimeFrame .l0 (-1) aTime) :: [{ aTime with addr := 256 }, { aTime with slot := 256 }, { aTime with index := 256 },
    { aTime with offset := 2147483648 }, { aTime with quality := 16 }, { aTime with depth := 16 },
    { aTime with appliedStep := -2147483649 }, { aTime with senderU := 4294967296 }].map (fun f => .parentTimeFrame .l0 0 f)

def allRefused (is : List Instr) : Bool := is.all (fun i => !i.wf)

theorem test_wf_hub : allRefused illFormedHub = true := by decide
theorem test_wf_tb : allRefused illFormedTb = true := by decide
theorem test_wf_ref : allRefused illFormedRef = true := by decide
theorem test_wf_general : allRefused illFormedGeneral = true := by decide
theorem test_wf_site : allRefused illFormedSite = true := by decide
theorem test_wf_amend : allRefused illFormedAmend = true := by decide
theorem test_wf_link : allRefused illFormedLink = true := by decide
theorem test_wf_alarm : allRefused illFormedAlarm = true := by decide
theorem test_wf_event : allRefused illFormedEvent = true := by decide
theorem test_wf_time : allRefused illFormedTime = true := by decide
theorem test_wf_accepts : (Instr.siteAdmit 7 anAdmit).wf = true ∧ (Instr.parentTimeFrame .l0 0 aTime).wf = true := by decide

/-! ### States of the tests -/

/-- The state that a command answers, for a projection. -/
def after (i : Instr) (s : State) : State :=
  match exec i s with
  | .next t => t
  | .fault _ => s
  | .refused _ => s

/-- The result code and the payload of the waiting response. -/
def answer (s : State) : Nat × List Byte := (byteAt s.port.response 2, (s.port.response.drop 4).dropLast)

def withTb (f : Timebase → Timebase) (s : State) : State := { s with tb := f s.tb }

/-- SAT-A QUALIFIED with a last sample, and selected by both. -/
def onSatA (last : Int) (s : State) : State :=
  (({ s with sel := { s.sel with selected := some .satA } }).updEntry .satA (fun e =>
    { e with state := .qualified, lastSample := some last, lastDeclared := some 5000, ageRuns := true, missRun := 0,
             qualify := 20, q := 7, worstQ := 7, windowEpochs := some 3, base := some { value := last, boundary := 0 } }))

/-- The timebase in a state on SAT-A, learning complete, time valid. -/
def tbOn (st : TbState) (u : Nat) (tb : Timebase) : Timebase :=
  { tb with state := st, timeValid := true, selected := some .satA, steered := true, learning := 900, u := u, e := some 350 }

def acquiring : State :=
  (withTb (fun tb => { tbOn .acquire 390000 tb with settings := { tb.settings with lockCount := 3 } })
    (onSatA 350 State.reset)).updEntry .satA (fun e => { e with offer := some 236 })

def locked : State := withTb (tbOn .locked 40000) (onSatA 350 State.reset)

def holding (u g aging : Nat) : State :=
  withTb (fun tb => { tbOn .holdover u tb with selected := none, steered := false, g := g, aging := aging }) State.reset

/-- The state with an aging count that a boundary has raised and that is still to be compared. -/
def raised (s : State) : State := withTb (fun tb => { tb with agingDue := true }) s

/-! ### Timebase (sections 1.6 and 1.9) -/

/-- Sample 1 of section 1.9: e, the clamped step, f, the in-lock run, and the next boundary 100 ns later. -/
theorem test_acquire_sample :
    let t := after .acquireSample acquiring
    (t.tb.e, t.tb.stepSum, t.tb.f, t.tb.inLock, t.tb.state, t.clock.nextAt)
      = (some 236, 100, 14750, 0, .acquire, 1000000100000) := by decide

/-- Sample 6 of section 1.9: the run reaches the lock count of 3. -/
theorem test_acquire_locks :
    let s := (withTb (fun tb => { tb with inLock := 2, f := 24874 }) acquiring).updEntry .satA
      (fun e => { e with offer := some 4 })
    let t := after .acquireSample s
    (t.tb.stepSum, t.tb.f, t.tb.inLock, t.tb.state) = (2, 25124, 3, .locked) := by decide

/-- The seventh sample of section 1.9. -/
theorem test_locked_sample :
    let t := after .lockedSample (locked.updEntry .satA (fun e => { e with offer := some 10 }))
    (t.tb.stepSum, t.tb.f, t.tb.state) = (5, 156, .locked) := by decide

theorem test_unlock :
    let t := after .lockedSample (locked.updEntry .satA (fun e => { e with offer := some 201 }))
    (t.tb.stepSum, t.tb.inLock, t.tb.state, t.tb.learning) = (100, 0, .acquire, 900) := by decide

/-- Boundary 600 of section 1.6: 20 ps are added first, and g then rises. -/
theorem test_boundary_ages :
    let t := after .epochBoundary (holding 51980 20 599)
    (t.tb.u, t.tb.g, t.tb.aging, t.published.uNs, t.clock.boundaries) = (52000, 21, 0, 52, 1) := by decide

theorem test_boundary_locked :
    let t := after .epochBoundary (withTb (fun tb => { tb with stepSum := 7, seconds := 0xFFFFFFFFFFFF }) locked)
    (t.tb.u, t.tb.learning, t.tb.seconds, t.published.appliedStep, t.tb.stepSum) = (40000, 901, 0, 7, 0) := by decide

/-- A boundary at the ceiling enters FREERUN, and the publication shows it (R22). -/
theorem test_boundary_ceiling :
    let t := after .epochBoundary (holding 99999990 20 0)
    (t.tb.state, t.published.state, t.published.uNs, t.tb.learning, t.tb.timeValid)
      = (.freerun, .freerun, 999999, 0, true) := by decide

/-- A count that a boundary has raised is compared once; a TB_SET that lowers A to it gives nothing before the next boundary
(R21). -/
theorem test_holdover_aging :
    let t := after .holdoverAging (raised (holding 40000 20 600))
    let u := after .holdoverAging (after (.tbSet 9 { noTbSet with agingInterval := some 5 }) (holding 40000 20 9))
    (t.tb.g, t.tb.aging, t.tb.agingDue, t.tb.u) = (21, 0, false, 40000) ∧ (u.tb.g, u.tb.aging) = (20, 9)
      ∧ (after .epochBoundary u).tb.g = 21 := by decide

theorem test_holdover_ceiling :
    let t := after .holdoverCeiling (holding 100000000 20 0)
    (t.tb.state, t.published.state, t.tb.u) = (.freerun, .freerun, 999999000) := by decide

/-- A time load with one boundary made since the sample (R13). -/
theorem test_time_load :
    let s := ({ onSatA (-40) State.reset with sel := { Selector.reset with toTbu := [some .satA] } }).updEntry .satA
      (fun e => { e with lastAge := 1 })
    let t := after .phaseReferencePublication s
    (t.tb.seconds, t.tb.timeValid, t.tb.stepSum, t.clock.nextAt) = (5001, true, -40, 999999960000)
      ∧ (t.tb.state, t.sel.toTbu) = (.acquire, []) := by decide

/-- The next boundary moved into the past is made at once (R3). -/
theorem test_boundary_at_once :
    let s := { onSatA (-2000) State.reset with
      sel := { Selector.reset with toTbu := [some .satA] }, clock := { Clock.reset with now := 999999000000 } }
    let t := after .phaseReferencePublication s
    (t.clock.boundaries, t.clock.boundaryAt, t.clock.nextAt, t.tb.seconds, t.tb.appliedStep)
      = (1, 999999000000, 1999999000000, 5001, -2000) := by decide

theorem test_line_publication :
    let s := { locked with sel := { locked.sel with toTbu := [some .lineA, none] } }
    let t := after .lineReferencePublication s
    (t.tb.state, t.tb.selected, t.tb.u, t.sel.toTbu) = (.freqHold, some .lineA, 40000, [none]) := by decide

/-- A sample taken before the publication of its entry is ignored, and the same sample taken after it is used (R18). -/
theorem test_sample_and_publication :
    let s := ({ onSatA 350 State.reset with sel := { Selector.reset with toTbu := [some .satA] } }).updEntry .satA
      (fun e => { e with offer := some 350 })
    (after .acquireSample (after .phaseReferencePublication (after .acquireSample s))).tb.stepSum = 350
      ∧ (after .acquireSample (after .phaseReferencePublication s)).tb.stepSum = 450 := by decide

theorem test_line_sample :
    let s := (withTb (fun tb => { tb with selected := some .lineA }) State.reset).updEntry .lineA
      (fun e => { e with offer := some 2 })
    let t := after .lineSample s
    (t.tb.f, t.tb.stepSum, (t.entry .lineA).offer) = (125, 0, none) := by decide

theorem test_selection_lost :
    let s := { locked with sel := { locked.sel with toTbu := [none] } }
    let t := after .selectionLostPublication s
    (t.tb.state, t.tb.g, t.tb.u, t.tb.selected, t.tb.steered) = (.holdover, 20, 40000, none, false) := by decide

theorem test_tb_set :
    let t := after (.tbSet 9 { noTbSet with ceiling := some 1000 }) (holding 2000000 20 0)
    (t.tb.state, t.tb.settings.ceiling, answer t) = (.freerun, 1000, (0, [])) := by decide

theorem test_tb_set_range :
    let t := after (.tbSet 9 { noTbSet with lockThreshold := some 201 }) State.reset
    (t.tb.settings, answer t) = (TbSettings.defaults, (11, [])) := by decide

theorem test_tb_set_time :
    let t := after (.tbSetTime 1 0) State.reset
    (t.tb.seconds, t.tb.timeValid, answer t) = (0xFFFFFFFFFFFF, true, (0, [])) := by decide

theorem test_tb_lookup :
    (after (.tbLookup 3) State.reset).port.response.length = 59
      ∧ (after (.tbLookup 3) State.reset).port.response.take 8 = [59, 3, 0, 4, 0, 0, 0, 0] := by decide

/-! ### Reference Monitor (chapter 2) -/

/-- SAT-B of section 2.9: 120 against 72 with a step of 50 taken out. -/
theorem test_difference_sat : difference .satB 72 120 50 = 2 ∧ squared 2 = 4 := by decide

/-- LINE-A of section 2.9: 487 to 1 wraps to 2 ns. -/
theorem test_difference_line : difference .lineA 1 487 0 = 2 := by decide

/-- The five windows of section 2.11. -/
theorem test_quality_index :
    let q := newQuality (RefSettings.defaults 1) 8
    (q 3500 4, q 3200 4, q 14000 5, q 20000 4, q 10000 3) = (4, 5, 4, 3, 4) := by decide

theorem test_quality_skip : newQuality (RefSettings.defaults 1) 15 150 0 = 7
    ∧ newQuality (RefSettings.defaults 1) 7 0 5 = 0 := by decide

/-- A satellite message of twelve bytes for second 1000, tracking valid, accuracy 30 (R195). -/
def aMessage : List Byte := withCheck [0xA5, 12, 0, 0, 0, 0, 0x03, 0xE8, 1, 0, 30]

theorem test_sat_message :
    let t := after (.satMessage .a ([0x11] ++ aMessage)) State.reset
    (t.rm.inputA.waiting, t.rm.inputA.part)
      = (some { seconds := 1000, tracking := true, accuracy := 30, boundaries := 0 }, []) := by decide

theorem test_sat_message_bad :
    (after (.satMessage .a (withCheck [0xA5, 11, 0, 0, 0, 0, 0x03, 0xE8, 1, 0, 30])) State.reset).rm.inputA.waiting = none := by
  decide

theorem test_sat_message_lapse :
    let s := after (.satMessage .a aMessage) State.reset
    (after (.satMessageLapse .a) s).rm.inputA.waiting.isSome = true
      ∧ (after (.satMessageLapse .a) (after .epochBoundary (after .epochBoundary s))).rm.inputA.waiting = none := by decide

theorem test_message_idle :
    (after (.messageIdleTimeout (.line .b)) (after (.lineQualityMessage .b [0x5A]) State.reset)).rm.clockB.part = []
      ∧ (after (.lineQualityMessage .b [0x5A]) State.reset).rm.clockB.part = [0x5A] := by decide

/-- A first pulse: paired, measured toward zero, and out of ABSENT with verdict ACCEPTABLE (time not valid). -/
theorem test_pps_edge :
    let t := after (.ppsEdge .a 1999) (after (.satMessage .a aMessage) State.reset)
    let e := t.entry .satA
    (e.state, e.lastSample, e.lastDeclared, e.missRun, e.windowEpochs, e.offer) =
        (.qualifying, some 1, some 1000, 0, some 0, some 1)
      ∧ (t.rm.inputA.waiting, e.declared.message, e.declared.accuracy) = (none, some true, some 30) := by decide

/-- A pulse without a message: DECLARED, through QUALIFYING to DISQUALIFIED (R48, R49). -/
theorem test_pps_no_message :
    let e := (after (.ppsEdge .b 1000) State.reset).entry .satB
    (e.state, e.cause, e.lastSample, e.declared.message) = (.disqualified, some .declared, none, some false) := by decide

/-- A pulse more than half an epoch after the boundary waits for the next one (R30), and a later one of that boundary is a
second pulse though one of the boundary before has come between (R29). -/
theorem test_pps_deferred :
    let s := after (.ppsEdge .a 999999000000) (after (.satMessage .a aMessage) State.reset)
    let t := after (.deferredEdgeSample .satA) (after .epochBoundary s)
    let u := after (.ppsEdge .a 999999500000) (after (.ppsEdge .a 400000000000) s)
    ((s.entry .satA).state, (t.entry .satA).lastSample, (t.entry .satA).waiting) = (.absent, some (-1000), none)
      ∧ (u.entry .satA).waiting = (s.entry .satA).waiting ∧ (u.entry .satA).edges = [0, 1] := by decide

/-- The third outlier on the selected entry of a LOCKED timebase (R36, R50, R58). -/
theorem test_outlier :
    let s := (locked.updEntry .satA (fun e => { e with outlierRun := 2 }))
    let t := s.formSample .satA 1001 { declared := some 0, tracking := some true, quality := 0, depth := 0 }
    ((t.entry .satA).state, (t.entry .satA).cause, (t.entry .satA).outlierRun, t.sel.selected, t.sel.toTbu)
      = (.disqualified, some .outlier, 0, none, [none]) := by decide

theorem test_line_edge :
    let t := after (.lineClockEdge .a 1000000487999) (after .epochBoundary (after (.lineQualityMessage .a (withCheck [0x5A, 4])) State.reset))
    let e := t.entry .lineA
    (e.lastSample, e.state, e.offer, e.declared.level, t.rm.clockA.edgeWait) = (some 487, .qualifying, none, some 4, false) := by
  decide

/-- Three misses make an entry ABSENT, and the SEL publishes none (R52, R58); the last sample age goes on (R37). -/
theorem test_accounting_absent :
    let s := locked.updEntry .satA (fun e => { e with missRun := 2, lastAge := 3 })
    let t := after .rmEpochAccounting s
    ((t.entry .satA).state, (t.entry .satA).missRun, (t.entry .satA).lostLatch, t.sel.toTbu) = (.absent, 3, true, [none])
      ∧ ((after .epochBoundary t).entry .satA).lastAge = 4 := by decide

/-- The twentieth good epoch qualifies the entry, and with nothing selected the SEL selects it (R51, R59). -/
theorem test_accounting_qualifies :
    let s := State.reset.updEntry .satB (fun e =>
      { e with state := .qualifying, qualify := 19, q := 4, windowEpochs := some 2,
               thisEpoch := some { verdict := .acceptable, outlier := false } })
    let t := after .rmEpochAccounting s
    ((t.entry .satB).state, (t.entry .satB).qualify, t.sel.selected, t.sel.toTbu) = (.qualified, 20, some .satB, [some .satB]) := by
  decide

theorem test_accounting_window :
    let s := State.reset.updEntry .satB (fun e =>
      { e with state := .disqualified, cause := some .quality, windowEpochs := some 15, windowSum := 2250, windowCount := 15,
               thisEpoch := some { verdict := .acceptable, outlier := false } })
    let e := (after .rmEpochAccounting s).entry .satB
    (e.wf, e.q, e.state, e.cause, e.qualify, e.windowEpochs) = (150, 7, .qualifying, none, 0, some 0) := by decide

theorem test_window_end :
    let s := locked.updEntry .satA (fun e => { e with windowEpochs := some 16, windowSum := 16000000, windowCount := 8 })
    let t := after (.windowEnd .satA) s
    ((t.entry .satA).q, (t.entry .satA).state, (t.entry .satA).cause, t.sel.selected)
      = (0, .disqualified, some .quality, none) := by decide

theorem test_reference_absent :
    let t := after (.referenceAbsent .satA) (locked.updEntry .satA (fun e => { e with missRun := 3 }))
    ((t.entry .satA).state, (t.entry .satA).lastSample, t.sel.selected) = (.absent, none, none) := by decide

/-- A TIME frame taken in PARENT role, and what the RM makes of it (R31, R147). -/
def parentUp : State :=
  { State.reset with port := { Port.reset with hubIdentity := 0xA101 } }.updLink .l2 (fun l =>
    { l with role := .parent, state := .up, sense := true, ownDrop := some 5 })

theorem test_parent_time :
    let t := after (.parentTimeFrame .l2 62500040000 aTime) parentUp
    let l := t.link .l2
    (l.parentState, l.toRm.length, l.dueReplies) =
      (.enrolled, 2, [{ due := 62540040000, slot := 16, index := 0 }]) := by decide

theorem test_parent_measure :
    let s := after (.parentEnrolledReport .l2) (after (.parentTimeFrame .l2 62500040000 aTime) parentUp)
    let t := after (.parentFrameMeasure .l2) s
    (s.rm.parentPresent, (t.entry .parent).lastSample, (t.entry .parent).lastDeclared, (t.entry .parent).recentParentU)
      = (true, some 40, some 1000, some 40) := by decide

def handedLost (s : State) : State := s.updLink .l2 (fun l => { l with toRm := [.lost] })

/-- The declared fields end absent, of an entry that no sample has taken out of ABSENT too (R57). -/
theorem test_parent_lost :
    let s := after (.parentFrameMeasure .l2) (after (.parentEnrolledReport .l2)
      (after (.parentTimeFrame .l2 62500040000 aTime) parentUp))
    let t := after (.parentLostReport .l2) (after (.parentFarewellFrame .l2 70000000000 5 0xA101 1) s)
    ((t.link .l2).parentState, t.rm.parentPresent, (t.entry .parent).state, (t.entry .parent).declared)
      = (.unenrolled, false, .absent, Declared.absent)
      ∧ ((after (.parentLostReport .l2) (handedLost (after (.parentFrameMeasure .l2) (after (.parentEnrolledReport .l2)
          (after (.parentTimeFrame .l2 62500040000 { aTime with index := 1 }) parentUp))))).entry .parent).declared
        = Declared.absent := by decide

theorem test_ref_lookup :
    let s := locked.updEntry .satA (fun e => { e with worstQ := 3, lostLatch := true })
    let t := after (.refLookup 1 0 0) s
    ((t.entry .satA).worstQ, (t.entry .satA).lostLatch, (answer t).1, t.port.response.length) = (7, false, 0, 43) := by decide

theorem test_ref_set :
    let t := after (.refSet 1 0 (.general { noGeneral with enabled := some false, wtr := some 10 })) locked
    (t.sel.selected, t.sel.toTbu, t.sel.wtr, (answer t).1) = (none, [none], 10, 0) := by decide

theorem test_ref_set_range :
    (answer (after (.refSet 1 0 (.general { noGeneral with acceptLevel := some 3 })) locked)).1 = 11
      ∧ (answer (after (.refSet 1 0 (.thresholds { noThresholds with t2 := some 1000000 })) locked)).1 = 11
      ∧ (answer (after (.refSet 1 5 (.other 2)) locked)).1 = 2 := by decide

/-! ### Selector (chapter 3) -/

/-- SAT-B selected and forced off, SAT-A better and waiting with a count. -/
def waiting (count : Nat) : State :=
  let s := onSatA 5 (State.reset.updEntry .satB (fun e => { e with state := .qualified }))
  { s with sel := { s.sel with selected := some .satB, wtrCand := some .satA, wtrCount := count } }

theorem test_sel_boundary :
    let t := after .selBoundary (waiting 59)
    let u := after .selBoundary (waiting 58)
    (t.sel.selected, t.sel.toTbu, t.sel.wtrCand, t.sel.wtrCount) = (some .satA, [some .satA], none, 0)
      ∧ (u.sel.selected, u.sel.wtrCount) = (some .satB, 59) := by decide

/-- An increment to be judged; a WTR lowered to the counter switches at the next boundary and not before (R61). -/
theorem test_wtr_switch :
    let s := { waiting 60 with sel := { (waiting 60).sel with wtrDue := true } }
    let u := after (.refSet 1 0 (.general { noGeneral with wtr := some 5 })) (waiting 5)
    (after .wtrSwitch s).sel.selected = some .satA ∧ (after .wtrSwitch u).sel.selected = some .satB
      ∧ (after .selBoundary u).sel.selected = some .satA := by decide

theorem test_ref_force :
    let t := after (.refForce 1 0) (waiting 5)
    (t.sel.selected, t.sel.forced, t.sel.wtrCand, (answer t).1) = (some .satA, some .satA, none, 0)
      ∧ (answer (after (.refForce 1 3) (waiting 5))).1 = 10 := by decide

theorem test_ref_release :
    let s := after (.readSelect 5) (after (.refForce 1 1) (waiting 5))
    let t := after (.refRelease 1) s
    (s.sel.forced, t.sel.forced, t.sel.wtrCand, t.sel.wtrCount) = (some .satB, none, some .satA, 0) := by decide

/-! ### Sites and plan (chapters 4 to 6) -/

/-- A record as the tests make it: ACTIVE on L2 at a drop, CONFIRMED, in service. -/
def aRecord (h drop rate base : Nat) (c : SiteClass) (b : Nat) : SiteRecord :=
  { SiteRecord.new h (0x51000000 + h) .l2 drop none 30 with
    lifecycle := .active, expiry := none, cls := some c, budget := some b, rate := some rate, slotBase := some base,
    ackMode := some .confirmed, window := some 1, serviceStarted := true, condition := .inService }

/-- The table with a record, its slots HELD. -/
def withRecord (r : SiteRecord) (s : State) : State :=
  { s with stu := s.stu.addRecord r }.updLink r.link (fun l =>
    { l with slots := claimSlots r.handle (r.slotBase.getD 0) (r.rate.getD 0) l.slots })

/-- L2 UP and serving. -/
def up (s : State) : State := s.updLink .l2 (fun l => { l with state := .up, sense := true })

/-- L4 of section 6.5 on L2: records 20, 21 and 22. -/
def plan : State :=
  withRecord { aRecord 20 2 2 10 .phaseStd 3000 with
      capability := some { phase := true, tight := true, highest := 8 }, compensation := 120, groups := 4, autoComp := true }
    (withRecord (aRecord 21 3 8 0 .freq 0) (withRecord (aRecord 22 4 16 16 .phaseStd 2000) (up State.reset)))

def rec20 (s : State) : SiteRecord := (s.record? 20).getD (aRecord 0 1 1 0 .freq 0)

/-- Amendment A of section 6.5. -/
def amendA : Instr := .siteAmend 1 { noAmend 20 with rate := some 8, compensation := some 150 }

theorem test_site_create :
    let t := after (.siteCreate 1 0x3A000105 2 3) State.reset
    (answer t, t.stu.index, t.stu.freeHandles.head?, (t.stu.dropMaps.get .l2).take 3)
      = ((0, [0]), [(0x3A000105, 0)], some 1, [none, none, some 0]) := by decide

theorem test_site_create_refused :
    let s := after (.readSelect 6) (after (.siteCreate 1 7 2 3) State.reset)
    ((answer (after (.siteCreate 1 7 2 4) s)).1, (answer (after (.siteCreate 1 8 2 3) s)).1,
      (answer (after (.siteCreate 1 0 2 4) s)).1, (answer (after (.siteCreate 1 8 6 3) s)).1) = (3, 8, 11, 11) := by decide

/-- Event 6 of section 4.11: the lowest aligned free block. -/
theorem test_site_admit :
    let s := after (.readSelect 6) (after (.siteCreate 1 7 2 9) plan)
    let t := after (.siteAdmit 1 { anAdmit with handle := 0 }) s
    (answer t, ((t.record? 0).map SiteRecord.lifecycle), slotAt (t.link .l2).slots 12, slotAt (t.link .l2).slots 16)
      = ((0, [12]), some .active, .held 0, .held 22) := by decide

theorem test_claims :
    let l := plan.link .l2
    (l.placeBlock (fun e => e == .free) 4 (.explicit 6) |>.toOption, l.placeBlock (fun e => e == .free) 16 .any |>.toOption)
      = (none, some 32) := by decide

theorem test_site_amend_a :
    let t := after amendA plan
    ((answer t).1, (rec20 t).pending.slotBase, (rec20 t).pending.rate, ((t.link .l2).slots.drop 8).take 4)
      = (1, some 8, some 8, [.reserved 20, .reserved 20, .held 20, .held 20]) := by decide

/-- Amendments B, C, D and E of section 6.5. -/
theorem test_site_amend_rest :
    let s := after (.readSelect 64) (after amendA plan)
    let b := after (.readSelect 64) (after (.siteAmend 1 { noAmend 20 with cls := some 2, budget := some 900 }) s)
    let e := after (.siteAmend 1 { noAmend 20 with budget := some 1200 }) b
    ((answer (after (.siteAmend 1 { noAmend 20 with rate := some 16 }) b)).1,
      (answer (after (.siteAmend 1 { noAmend 20 with budget := some 2000 }) b)).1, (answer e).1, (rec20 e).pending.budget,
      (rec20 e).budget) = (12, 11, 1, some 1200, some 3000) := by decide

theorem test_amendment_application :
    let t := after .amendmentApplication (after amendA plan)
    ((rec20 t).rate, (rec20 t).slotBase, (rec20 t).compensation, slotAt (t.link .l2).slots 8, slotAt (t.link .l2).slots 15)
      = (some 8, some 8, 150, .held 20, .held 20) := by decide

theorem test_amend_group :
    let t := after (.siteAmendGroup 1 { noGroup 4 with squelch := some true, window := some 4, delta := some (-40) }) plan
    (answer t, (rec20 t).pending.compensation, (rec20 t).pending.squelch) = ((0, [1, 0]), some 80, some true) := by decide

theorem test_amend_group_range :
    let t := after (.siteAmendGroup 1 { noGroup 4 with budget := some 100 }) plan
    (answer t, (rec20 t).budget) = ((11, [20]), some 3000) := by decide

theorem test_suspend_resume :
    let t := after (.siteSuspend 1 20) plan
    let u := after (.siteResume 1 20) (after (.readSelect 5) t)
    ((rec20 t).lifecycle, (rec20 t).condition, (rec20 u).lifecycle, (answer u).1)
      = (.suspended, .none, .active, 0) := by decide

theorem test_retire :
    let t := after (.siteRetire 1 20 false) plan
    ((answer t).1, (rec20 t).lifecycle, (t.link .l2).retireQueue, slotAt (t.link .l2).slots 10)
      = (1, .retiring, [20], .held 20) := by decide

theorem test_retire_now :
    let t := after (.siteRetire 1 20 true) plan
    ((answer t).1, (t.record? 20).isNone, t.stu.index.length, slotAt (t.link .l2).slots 10, t.stu.freeHandles.length)
      = (0, true, 2, .free, 62) := by decide

theorem test_farewell_slot :
    let s := after (.siteRetire 1 20 false) plan
    let t := after (.farewellSlot .l2 225) s
    ((t.record? 20).isNone, (t.link .l2).retireQueue, ((t.link .l2).tx.map (fun f => f.bytes.take 2)))
      = (true, [], some [2, 0x33]) := by decide

theorem test_site_lookups :
    ((answer (after (.siteLookup 1 (.byLinkDrop 2 2)) plan)).2.drop 4).head? = some 20
      ∧ (answer (after (.siteNext 1 0x51000014) plan)).1 = 0 ∧ (answer (after (.siteNext 1 0x51000016) plan)).1 = 2
      ∧ (after (.siteLookup 1 (.bySiteId 0x51000014)) plan).port.response.length = 58 := by decide

theorem test_take_counts :
    let t := after (.siteTakeCounts 1 20) (plan.updRecord 20 (fun r => { r with sent := 258, missed := 1 }))
    ((answer t).1, (answer t).2, (rec20 t).sent, (rec20 t).missed)
      = (0, (answer (after (.siteLookup 1 (.byHandle 20))
          (plan.updRecord 20 (fun r => { r with sent := 258, missed := 1 })))).2, 0, 0) := by decide

theorem test_provisional_expiry :
    let s := after (.siteCreate 1 7 2 9) plan
    let t := after .provisionalExpiry s
    let u := after .provisionalExpiry (s.updRecord 0 (fun r => { r with expiry := some 1 }))
    ((t.record? 0).map SiteRecord.expiry, (u.record? 0).isNone, u.stu.index.length) = (some (some 29), true, 3) := by decide

/-- Boundary 53 of section 8.7: U 370 from UNUSABLE, DEGRADED and for FREQ. -/
def published370 : Published :=
  { state := .acquire, timeValid := true, seconds := 0, uNs := 370, selected := some .satA, appliedStep := 0 }

theorem test_conditions :
    (phaseCondition published370 400 .unusable, phaseCondition published370 3000 .degraded, freqCondition published370)
      = (.degraded, .inService, .inService) := by decide

theorem test_service_evaluation :
    let s := { plan with published := published370 }
    let t := after (.serviceEvaluation false) (s.updRecord 20 (fun r => { r with condition := .unusable }))
    ((rec20 t).condition, (rec20 (after (.serviceEvaluation true) s)).condition) = (.inService, .unusable) := by decide

/-! ### Links (chapters 5 and 7) -/

/-- Section 7.9 on L2: record 7, rate 1, base 239, window code 7, split 240. -/
def edgeOfEpoch : State :=
  withRecord { aRecord 7 2 1 239 .freq 0 with window := some 7, autoComp := true }
    ((up State.reset).updLink .l2 (fun l => { l with split := 240 }))

def rec7 (s : State) : SiteRecord := (s.record? 7).getD (aRecord 0 1 1 0 .freq 0)

def sent7 : State := after (.deliverySlotStart .l2 239 false) edgeOfEpoch

theorem test_delivery_slot :
    ((rec7 sent7).sent, (rec7 sent7).exchanges) =
        (1, [{ slot := 239, index := 0, sendTime := 933593750000, windowEnd := 255, held := false }])
      ∧ ((sent7.link .l2).tx.bind (fun f => decodeLinkFrame f.bytes)) = some (.time
          { addr := 2, seconds := 0, slot := 239, index := 0, offset := 933593750, quality := 5, depth := 15, appliedStep := 0,
            senderU := 999999, replyRequested := true }) := by decide

theorem test_reply_on_time :
    let t := after (.replyFrame .l2 933634986000 2 239 0) sent7
    ((rec7 t).onTime, (rec7 t).lastRoundTrip, (rec7 t).exchanges, (rec7 t).onTimeSince) = (1, some 41236, [], true) := by decide

theorem test_auto_compensation :
    let t := after (.linkEpochBoundary .l2) (after (.replyFrame .l2 933634986000 2 239 0) sent7)
    ((rec7 t).compensation, (rec7 t).onTimeSince, autoCompensation 39999 40000) = (618, false, 0) := by decide

/-- The late reply of section 7.9: its window ends while its frame is received. Another frame in its place cuts it off, and is a
stray (R136, R143). -/
theorem test_reply_late :
    let s := after (.exchangeWindowEnd .l2 7 239 0 (some { instant := 999980000000, bytes := [2] })) sent7
    let t := after (.replyFrame .l2 999980000000 2 239 0) s
    let u := after (.replyFrame .l2 999985000000 2 239 0) s
    ((rec7 s).missed, (rec7 s).exchanges.length, (rec7 t).late, (rec7 t).missed, (rec7 t).exchanges) = (0, 1, 1, 0, [])
      ∧ ((rec7 u).late, (rec7 u).missed, (u.link .l2).badFrames, (u.link .l2).strayReplies) = (0, 1, 1, 1) := by decide

theorem test_window_missed :
    let t := after (.exchangeWindowEnd .l2 7 239 0 none) sent7
    ((rec7 t).missed, (rec7 t).missRun, (rec7 t).exchanges) = (1, 1, []) := by decide

theorem test_frame_gap :
    let s := after (.exchangeWindowEnd .l2 7 239 0 (some { instant := 999980000000, bytes := [2] })) sent7
    let t := after (.frameGapTimeout .l2) s
    ((t.link .l2).badFrames, (t.link .l2).rx, (rec7 t).missed) = (1, none, 1) := by decide

theorem test_call_and_enrol :
    let s := after (.callSlot .l2 false) ((up State.reset).updLink .l2 (fun l => { l with window := 10 }))
    let t := after (.enrolFrame .l2 880000000000 7 0x51000027 0x09) s
    let u := after (.enrolResult .l2) t
    ((s.link .l2).calling, (t.link .l2).toStu.length, (t.link .l2).badFrames)
        = (some { boundary := 0, instant := 875000000000 }, 1, 0)
      ∧ (u.record? 0).map (fun r => (r.drop, r.capability, r.expiry))
        = some (7, some { phase := true, tight := false, highest := 4 }, some 30) := by decide

theorem test_enrol_outside :
    ((after (.enrolFrame .l2 880000000000 7 1 0) (up State.reset)).link .l2).badFrames = 1 := by decide

theorem test_enrol_conflict :
    let s := plan.updLink .l2 (fun l => { l with toStu := [{ drop := 2, siteId := 9, capability :=
      { phase := true, tight := false, highest := 4 } }] })
    let t := after (.enrolResult .l2) s
    ((t.link .l2).enrolConflicts, (t.link .l2).toStu) = (1, []) := by decide

/-- A TIME frame in SERVE role, an unknown type, and a mark within a frame (R136). -/
theorem test_frames_discarded :
    let chars := fun bs : List Byte => (bs.take 1).map (fun b => ({ mark := true, byte := b } : LinkChar))
      ++ (bs.drop 1).map (fun b => ({ mark := false, byte := b } : LinkChar))
    let bad := fun bs => ((after (.linkFrameDiscarded .l2 0 bs) (up State.reset)).link .l2).badFrames
    (bad (chars (encodeLinkFrame (.time aTime))), bad (chars [1, 0x36]), bad (chars [1] ++ chars [2, 0x34]),
      bad (chars [2, 0x34, 0, 0, 0])) = (1, 1, 1, 1) := by decide

theorem test_line_sense :
    let s := after (.lineSenseReturn .l1) State.reset
    let t := after (.linkEpochBoundary .l1) (after (.linkEpochBoundary .l1) s)
    let u := after (.lineSenseLost .l1) t
    ((s.link .l1).state, (t.link .l1).state, (t.link .l1).trainingCount, (u.link .l1).state, (u.link .l1).downLatch)
      = (.training, .up, 2, .down, true) := by decide

/-- UP from the boundary on: a frame whose address character came before it is not taken (R129, R136). -/
theorem test_training_complete :
    let s := (after .epochBoundary State.reset).updLink .l1 (fun l => { l with state := .training, trainingCount := 2 })
    let t := after (.trainingComplete .l1) s
    (t.link .l1).state = .up ∧ ((after (.replyFrame .l1 999999999999 2 0 0) t).link .l1).strayReplies = 0
      ∧ ((after (.replyFrame .l1 1000000000000 2 0 0) t).link .l1).strayReplies = 1 := by decide

theorem test_enrol_window_expiry :
    let s := State.reset.updLink .l1 (fun l => { l with window := 2 })
    let t := after (.enrolWindowExpiry .l1) (after (.linkEpochBoundary .l1) s)
    ((t.link .l1).window, ((after (.enrolWindowExpiry .l1) (after (.linkEpochBoundary .l1) t)).link .l1).window) = (1, 0) := by
  decide

theorem test_parent_silence :
    let s := parentUp.updLink .l2 (fun l => { l with parentState := .enrolled, parentSilence := 7 })
    let t := after (.linkEpochBoundary .l2) s
    let u := after (.parentSilenceExpiry .l2) (s.updLink .l2 (fun l => { l with parentSilence := 8 }))
    ((t.link .l2).parentState, (t.link .l2).toRm, (u.link .l2).toRm, (u.link .l2).parentSilence)
      = (.unenrolled, [.lost], [.lost], 0) := by decide

theorem test_parent_call_enrol :
    let s := after (.parentCallFrame .l2 875000000000 0 1 0 1000) parentUp
    let t := after (.parentEnrolSend .l2) s
    ((s.link .l2).dueEnrols, (t.link .l2).dueEnrols, (t.link .l2).tx.bind (fun f => decodeLinkFrame f.bytes))
      = ([875040000000], [], some (.enrol 5 0xA101 0x13)) := by decide

theorem test_parent_reply_send :
    let t := after (.parentReplySend .l2) (after (.parentTimeFrame .l2 62500040000 aTime) parentUp)
    ((t.link .l2).tx) = some { instant := 62540040000, bytes := encodeLinkFrame (.reply 5 16 0) } := by decide

theorem test_enrol_requests :
    let s := after (.enrolOpen 1 2 10) State.reset
    let t := after (.enrolClose 1 2) (after (.readSelect 5) s)
    ((s.link .l2).window, (t.link .l2).window, (answer (after (.enrolOpen 1 6 1) State.reset)).1) = (10, 0, 2) := by decide

theorem test_link_set_split :
    let s := after (.linkSet 1 2 none (some 208)) plan
    let t := after (.linkEpochBoundary .l2) s
    ((answer s).1, (s.link .l2).pendingSplit, (t.link .l2).split, (answer (after (.linkSet 1 2 none (some 200)) plan)).1)
      = (1, some 208, 208, 11) := by decide

theorem test_link_set_role :
    let t := after (.linkSet 1 3 (some 1) none) State.reset
    ((t.link .l3).role, (t.link .l3).ownDrop, (answer (after (.linkSet 1 2 (some 1) none) plan)).1) = (.parent, some 1, 13) := by
  decide

theorem test_link_restart :
    let t := after (.linkRestart 1 2) (parentUp.updLink .l2 (fun l => { l with parentState := .enrolled }))
    ((t.link .l2).state, (t.link .l2).trainingCount, (t.link .l2).parentState, (t.link .l2).toRm)
      = (.training, 0, .unenrolled, [.lost]) := by decide

theorem test_link_lookup :
    let t := after (.linkLookup 1 2 true) (plan.updLink .l2 (fun l => { l with badFrames := 3 }))
    ((t.link .l2).badFrames, (t.link .l2).downLatch, (answer t).1, (answer t).2.length) = (0, false, 0, 23) := by decide

/-! ### Alarms (chapter 9) -/

/-- Section 9.9 before boundary 1: only SAT-A enabled, links OFF, armed. -/
def quiet : State :=
  let s := { State.reset with
    links := State.reset.links.map (fun l => { l with role := .off }), atu := { AlarmTable.reset with armed := true },
    published := { Published.reset with state := .holdover } }
  { s with rm := { s.rm with entries := s.rm.entries.map (fun e => { e with settings := { e.settings with enabled := false } }) } }.updEntry
    .satA (fun e => { e with state := .disqualified, settings := { e.settings with enabled := true } })

theorem test_alarm_scan :
    let t := after (.alarmScan false) quiet
    (t.atu.entries.map (fun e => (e.index, e.serial, e.kind, e.severity)), t.atu.asserted, t.atu.armed)
      = ([(0, 1, .tbHoldover, .major), (1, 2, .refDisqualified, .minor)], true, false) := by decide

/-- A DEGRADED record is marked against TB_HOLDOVER; at FREERUN the mark comes off and the escalated entry qualifies. -/
theorem test_alarm_marks :
    let s := after (.alarmScan false) (withRecord { aRecord 5 1 1 0 .phaseStd 3000 with condition := .degraded } quiet)
    let f := { s with published := { s.published with state := .freerun }, atu := { s.atu with asserted := false, armed := true } }
    let t := after (.alarmScan false) (f.updRecord 5 (fun r => { r with condition := .unusable }))
    (s.atu.entries.map AlarmEntry.root) = [none, none, some 0]
      ∧ (t.atu.entries.map (fun e => (e.index, e.kind, e.condition, e.root)), t.atu.asserted)
        = ([(0, .tbHoldover, .cleared, none), (1, .refDisqualified, .active, none), (2, .siteService, .active, none),
            (3, .tbFreerun, .active, none)], true) := by decide

theorem test_alarm_ack :
    let s := after (.alarmScan false) quiet
    let t := after (.alarmAck 1 0) s
    ((answer t).1, t.atu.asserted, t.atu.entries.map AlarmEntry.acknowledged, (answer (after (.alarmAck 1 9) s)).1)
      = (0, false, [true, false], 2) := by decide

theorem test_alarm_ack_severity :
    let s := after (.alarmScan false) quiet
    let t := after (.alarmAckSeverity 1 6) s
    ((answer t).1, ((answer t).2.drop 1).take 4, (answer (after (.alarmAckSeverity 1 0xF0) s)).1) = (0, [2, 0, 2, 0], 11) := by
  decide

theorem test_alarm_lookups :
    let s := after (.alarmScan false) quiet
    ((answer (after (.alarmLookup 1 (.bySource 1 0 4)) s)).1, (answer (after (.alarmLookup 1 (.byIndex 2)) s)).1,
      (answer (after (.alarmNext 1 1) s)).1, (answer (after (.alarmNext 1 2) s)).1) = (0, 2, 0, 2) := by decide

theorem test_notify :
    let s := after (.alarmScan false) quiet
    let a := after (.readSelect 64) (after (.notifyAck 1) s)
    let b := after (.notifyArm 1) a
    let c := after (.notifySet 1 0) (after (.readSelect 64) b)
    (a.atu.asserted, b.atu.asserted, b.atu.armed, c.atu.asserted, c.atu.threshold) = (false, true, false, false, .critical) := by
  decide

/-! ### Port and resets (chapter 10) -/

theorem test_cold_reset :
    let t := after (.coldReset { noSense with l3 := true }) locked
    (t.tb, (t.link .l3).state, (t.link .l0).state, t.port) = (Timebase.reset, .training, .down, Port.reset) := by decide

theorem test_warm_reset :
    let t := after (.deviceWarmReset 1) (after (.readSelect 5) (after (.siteRetire 1 21 false) (after (.readSelect 64) (after amendA plan))))
    (answer t, t.stu.records.map SiteRecord.handle, (rec20 t).pending, slotAt (t.link .l2).slots 8, slotAt (t.link .l2).slots 10)
      = ((0, []), [20, 22], Pending.empty, .free, .held 20) := by decide

/-- A frame being received at a warm reset is discarded uncounted, also where its row comes after it (R127). -/
theorem test_warm_reset_receiving :
    let s := after (.exchangeWindowEnd .l2 7 239 0 (some { instant := 999980000000, bytes := [2] })) sent7
    let t := after (.deviceWarmReset 1) s
    let u := after (.replyFrame .l2 999980000000 2 239 0) t
    let v := after (.replyFrame .l2 999985000000 2 239 0) t
    ((u.link .l2).badFrames, (u.link .l2).strayReplies, (rec7 u).missed, (v.link .l2).strayReplies) = (0, 0, 0, 1) := by decide

theorem test_hub_set :
    let t := after (.hubSet 4 { noHub with tTurn := some 50000 }) State.reset
    (t.port.tTurn, t.port.response) = (50000, withCheck [15, 4, 0, 4, 0, 0, 0, 0, 0, 0, 0xC3, 0x50, 1, 30]) := by decide

theorem test_identify :
    (after (.deviceIdentify 0xA1) State.reset).port.response = withCheck [9, 0xA1, 0, 4, 0x5B, 0x1C, 0x48, 1] := by decide

/-- A raw DEVICE_IDENTIFY: EXECUTING, answered in the step on an empty queue, and read back (R181 to R184). -/
theorem test_write_select :
    let s := after (.writeSelect [1, 2, 4, 7, 0xF3]) State.reset
    let o := after (.writeSelect [1, 2, 4, 7, 0xF3]) s
    (s.port.state, s.inHand.map Prod.fst, o.port.overrun) = (.executing, some (.deviceIdentify 7), true) := by decide

theorem test_write_refused :
    (answer (after (.writeSelect [1, 2, 4, 7, 0xF2]) State.reset)).1 = 14
      ∧ (answer (after (.writeSelect (1 :: withCheck [0x77, 4, 7])) State.reset)).1 = 15
      ∧ (answer (after (.writeSelect (1 :: withCheck [0x24, 4, 7])) State.reset)).1 = 14
      ∧ (after (.writeSelect [1]) State.reset).port = Port.reset ∧ (after (.writeSelect [3, 1]) State.reset).port = Port.reset := by
  decide

theorem test_read_select :
    let s := after (.deviceIdentify 1) State.reset
    ((after (.readSelect 8) s).port.state, (after (.readSelect 10) s).port.state, (after (.readSelect 10) s).port.miso.length,
      (after (.readSelect 5) State.reset).port.miso) = (.responseReady, .idle, 10, [5, 0, 0xFF, 8, 0xF4]) := by decide

/-! ### Frames of the port (R192, R193) -/

/-- The five link frames, written out byte by byte from R194, the bytes of each adding up to 0 (R191). -/
theorem test_link_frames :
    (let f := { aTime with offset := -2, quality := 2, depth := 3, appliedStep := -1 }
      let bytes : List Byte := [5, 0x31, 0, 0, 0, 0, 0x03, 0xE8, 16, 0, 0xFF, 0xFF, 0xFF, 0xFE, 0x23, 0xFF, 0xFF, 0xFF, 0xFF,
        0, 0, 0, 40, 1, 0x8C]
      encodeLinkFrame (.time f) = bytes ∧ decodeLinkFrame bytes = some (.time f))
      ∧ encodeLinkFrame (.call 0 0xA101 1 1000) = [0, 0x32, 0, 0, 0xA1, 0x01, 1, 0, 0, 0, 0, 0x03, 0xE8, 0x40]
      ∧ encodeLinkFrame (.farewell 5 0xA101 7) = [5, 0x33, 0, 0, 0xA1, 0x01, 0, 0, 0, 7, 0x1F]
      ∧ encodeLinkFrame (.reply 2 239 0) = [2, 0x34, 239, 0, 0xDB]
      ∧ encodeLinkFrame (.enrol 3 0x3A000105 0x13) = [3, 0x35, 0x3A, 0x00, 0x01, 0x05, 0x13, 0x75] := by decide

/-- TB_SET with the lock count alone, the third value (log 51), written out byte by byte, its bytes adding up to 0 (R191). -/
theorem test_decode_tb_set :
    let frame : List Byte := [0x11, 25, 9, 4, 0, 0, 0, 0, 0, 3, 0, 0, 0, 0, 0, 0, 0, 0, 0, 0, 0, 0, 0, 0, 0xC6]
    decodeRequest frame = some (.tbSet 9 { noTbSet with lockCount := some 3 }) ∧ frameSound frame = true := by decide

/-- SITE_CREATE of site 0x3A000105 on L1, drop 3, written out byte by byte, its bytes adding up to 0 (R191). -/
theorem test_decode_create :
    let frame : List Byte := [0x20, 10, 1, 0x3A, 0x00, 0x01, 0x05, 1, 3, 0x91]
    decodeRequest frame = some (.siteCreate 1 0x3A000105 1 3) ∧ frameSound frame = true := by decide

theorem test_encode_lengths :
    ([encodeRequest (.hubSet 0 noHub), encodeRequest (.tbSet 0 noTbSet), encodeRequest (.refSet 0 0 (.general noGeneral)),
      encodeRequest (.refSet 0 0 (.thresholds noThresholds)), encodeRequest (.siteAdmit 0 anAdmit),
      encodeRequest (.siteAmend 0 (noAmend 0)), encodeRequest (.siteAmendGroup 0 (noGroup 1)),
      encodeRequest (.linkSet 0 0 none none)].map (fun f => (f.map List.length).getD 0)) = [15, 25, 26, 35, 18, 20, 14, 8] := by decide

theorem test_round_trip :
    (encodeRequest (.siteAmend 3 { noAmend 7 with slotBase := some .any, compensation := some (-5), squelch := some true })).bind
        decodeRequest
      = some (.siteAmend 3 { noAmend 7 with slotBase := some .any, compensation := some (-5), squelch := some true }) := by decide

end Sys2Proof.Tests
end

