-- ==== Sys2Proof/Tests/Witnesses.lean ====
section
/-! SUPPORT. Witnesses: for every statement with hypotheses, small states and operands that meet them, clause by clause, at the ends of their ranges. -/

namespace Sys2Proof.Tests

open Sys2Proof Sys2Proof.Machine

set_option maxRecDepth 20000

/-! ### The machine and the management port -/

/-- A response of three bytes waits. -/
def ready : State := { State.reset with port := { Port.reset with state := .responseReady, response := [1, 2, 3] } }

/-- A request is in hand. -/
def inHand (frame : List Byte) : State :=
  { State.reset with port := { Port.reset with state := .executing, request := frame } }

theorem witness_StepTakesFrontCommand :
    ({ State.reset with pending := [.epochBoundary, .wtrSwitch] } : State).pending = .epochBoundary :: [.wtrSwitch] := by decide

theorem witness_StepOnEmptyQueue :
    State.reset.pending = [] ∧ State.reset.port.state ≠ .executing
      ∧ ((inHand []).pending = [] ∧ (inHand []).port.state = .executing ∧ decodeRequest (inHand []).port.request = none)
      ∧ (inHand (withCheck [0x10, 4, 255])).port.state = .executing
      ∧ decodeRequest (inHand (withCheck [0x10, 4, 255])).port.request = some (.tbLookup 255) := by decide

theorem witness_ResponseFrameLayout :
    255 < 256 ∧ (packItems [.val (List.replicate 59 7)]).length ≤ 59 ∧ (packItems []).length ≤ 59
      ∧ (let presence := [Item.optFlag none, Item.opt 2 none, Item.flag true].flatMap Item.presence
        0 < 8 * ((presence.length + 7) / 8) ∧ [Item.flag true].flatMap Item.flags ≠ [] ∧ [Item.val [7]].flatMap Item.flags = [])
      := by decide

/-- The four answers of a write select in IDLE, and the three of a read select. -/
theorem witness_SelectOutcome :
    (encodeRequest (.tbLookup 255) = some (withCheck [0x10, 4, 255]) ∧ ready.port.state ≠ .idle)
      ∧ (0x00 : Byte) ≠ 0x01 ∧ (0x00 : Byte) ≠ 0x02
      ∧ (State.reset.port.state = .idle
        ∧ ¬ (4 ≤ [(2 : Byte), 3, 7].length)
        ∧ (let f := withCheck [0x7F, 4, 0]
          4 ≤ f.length ∧ f.length ≤ 40 ∧ byteAt f 1 = f.length ∧ byteSum f = 0 ∧ requestLengths (byteAt f 0) (byteAt f 4) = [])
        ∧ (let f := withCheck ([0x10, 40, 0] ++ List.replicate 36 0)
          4 ≤ f.length ∧ f.length ≤ 40 ∧ byteAt f 1 = f.length ∧ byteSum f = 0
            ∧ requestLengths (byteAt f 0) (byteAt f 4) ≠ [] ∧ f.length ∉ requestLengths (byteAt f 0) (byteAt f 4))
        ∧ (let f := withCheck [0x10, 4, 0]
          4 ≤ f.length ∧ f.length ≤ 40 ∧ byteAt f 1 = f.length ∧ byteSum f = 0
            ∧ f.length ∈ requestLengths (byteAt f 0) (byteAt f 4)))
      ∧ (ready.port.state = .responseReady ∧ ready.port.response.length ≤ 3 ∧ 2 < ready.port.response.length)
      ∧ State.reset.port.state ≠ .responseReady := by decide

theorem witness_HubRequestsOutcome :
    State.reset.port.state = .idle
      ∧ (let p : HubSetReq := { identity := some 4294967295, tTurn := some 10000, parentDrop := some 15, timeout := some 5 }
        (∀ v ∈ p.identity, v ≤ 4294967295) ∧ (∀ v ∈ p.tTurn, 10000 ≤ v ∧ v ≤ 200000)
          ∧ (∀ v ∈ p.parentDrop, 1 ≤ v ∧ v ≤ 15) ∧ (∀ v ∈ p.timeout, 5 ≤ v ∧ v ≤ 255))
      ∧ ¬ (∀ v ∈ ({ noHub with tTurn := some 200001 } : HubSetReq).tTurn, 10000 ≤ v ∧ v ≤ 200000) := by decide

theorem witness_WarmResetOutcome :
    plan.port.state = .idle ∧ (plan.stu.records.map SiteRecord.handle).Nodup ∧ plan.stu.records ≠ []
      ∧ (∀ r ∈ plan.stu.records, 1 ≤ r.drop)
      ∧ (∃ r ∈ (plan.updRecord 20 SiteRecord.retire).stu.records, r.lifecycle = .retiring ∧ r.link = .l2 ∧ r.drop = 2) := by decide

/-! ### The timebase -/

theorem witness_TimebaseRequests :
    State.reset.port.state = .idle
      ∧ ¬ (∀ v ∈ ({ noTbSet with ceiling := some 999999 } : TbSetReq).ceiling, 1000 ≤ v ∧ v ≤ 999998)
      ∧ (let p : TbSetReq := { noTbSet with lockThreshold := some 200, ceiling := some 1000 }
        (∀ v ∈ p.lockThreshold, 5 ≤ v ∧ v ≤ 1000) ∧ (∀ v ∈ p.ceiling, 1000 ≤ v ∧ v ≤ 999998)
          ∧ p.lockThreshold.getD 20 ≤ State.reset.tb.settings.unlockThreshold
          ∧ (holding 999999 20 0).tb.state = .holdover ∧ ¬ (1000 ≤ (holding 999999 20 0).tb.u / 1000)
          ∧ 1000 ≤ (holding 1000000 20 0).tb.u / 1000) := by decide

theorem witness_TbSetTimeOutcome :
    (State.reset.port.state = .idle ∧ State.reset.tb.state = .freerun) ∧ locked.port.state = .idle ∧ locked.tb.state ≠ .freerun := by
  decide

theorem witness_EpochBoundaryOutcome :
    locked.tb.state = .locked ∧ State.reset.tb.state ≠ .locked
      ∧ ({ Clock.reset with now := 1000000000000 } : Clock).now ≤ Clock.reset.nextAt := by decide

/-- A timebase in a state, on a reference. -/
def tbAt (st : TbState) (r : Option RefId) (u : Nat) : State :=
  withTb (fun tb => { tbOn st u tb with selected := r, steered := r.isSome, g := 20 }) State.reset

theorem witness_UncertaintyOutcome :
    (locked.tb.selected = some .satA ∧ locked.tb.state = .locked)
      ∧ ((tbAt .acquire (some .satB) 1).tb.state = .acquire ∧ (tbAt .acquire (some .satB) 1).tb.e = some 350)
      ∧ (let s := (tbAt .locked (some .parent) 1).updEntry .parent (fun e => { e with recentParentU := some 999999 })
        s.tb.selected = some .parent ∧ (s.entry .parent).recentParentU = some 999999 ∧ s.tb.state = .locked)
      ∧ (let s := (tbAt .acquire (some .parent) 1).updEntry .parent (fun e => { e with recentParentU := some 0 })
        (s.entry .parent).recentParentU = some 0 ∧ s.tb.state = .acquire ∧ s.tb.e = some 350)
      ∧ State.reset.tb.state = .freerun
      ∧ (let s := tbAt .freqHold (some .lineA) 99999994
        s.tb.state = .freqHold ∧ min (s.tb.u + s.tb.settings.ga) 999999000 / 1000 < s.tb.settings.ceiling)
      ∧ (let s := tbAt .freqHold (some .lineA) 99999995
        s.tb.settings.ceiling ≤ min (s.tb.u + s.tb.settings.ga) 999999000 / 1000)
      ∧ (let s := holding 99999979 20 599
        s.tb.state = .holdover ∧ s.tb.settings.agingInterval ≠ 0 ∧ s.tb.settings.agingInterval ≤ min (s.tb.aging + 1) 65535
          ∧ min (s.tb.u + s.tb.g) 999999000 / 1000 < s.tb.settings.ceiling)
      ∧ (let s := holding 99999980 20 598
        ¬ (s.tb.settings.agingInterval ≤ min (s.tb.aging + 1) 65535)
          ∧ s.tb.settings.ceiling ≤ min (s.tb.u + s.tb.g) 999999000 / 1000) := by decide

theorem witness_ThresholdRows :
    (let s := raised (holding 100000000 20 600);
      s.tb.state = .holdover ∧ s.tb.agingDue = true ∧ s.tb.settings.agingInterval ≠ 0 ∧ s.tb.settings.agingInterval ≤ s.tb.aging
        ∧ s.tb.settings.ceiling ≤ s.tb.u / 1000)
      ∧ (let s := raised (holding 99999999 20 599)
        s.tb.state = .holdover ∧ s.tb.agingDue = true ∧ ¬ (s.tb.settings.agingInterval ≤ s.tb.aging)
          ∧ ¬ ((holding 99999999 20 599).tb.agingDue = true) ∧ ¬ (s.tb.settings.ceiling ≤ s.tb.u / 1000)) := by decide

theorem witness_SampleOutcome :
    (acquiring.tb.state = .acquire ∧ acquiring.tb.selected = some .satA ∧ RefId.satA.isPhase = true
        ∧ (acquiring.entry .satA).offer = some 236 ∧ acquiring.clock.now ≤ acquiring.clock.nextAt + 100 * 1000)
      ∧ (let s := { locked.updEntry .satA (fun e => { e with offer := some (-2) }) with
              clock := { Clock.reset with now := 1000000000000 } }
        s.tb.state = .locked ∧ s.tb.selected = some .satA ∧ (s.entry .satA).offer = some (-2)
          ∧ s.clock.nextAt + -1 * 1000 < s.clock.now)
      ∧ State.reset.tb.state ≠ .acquire ∧ State.reset.tb.state ≠ .locked
      ∧ (let s := (withTb (fun tb => { tb with selected := some .lineA }) State.reset).updEntry .lineA
              (fun e => { e with offer := some 7 })
        s.tb.state = .freerun ∧ s.tb.selected = some .lineA ∧ RefId.lineA.isPhase = false ∧ (s.entry .lineA).offer = some 7)
      ∧ locked.tb.state ≠ .freerun ∧ locked.tb.state ≠ .freqHold := by decide

/-- A state with a publication at the head. -/
def publishing (x : Option RefId) (s : State) : State := { s with sel := { s.sel with toTbu := [x] } }

theorem witness_PublicationOutcome :
    ((publishing (some .satA) State.reset).sel.toTbu = [some .satA] ∧ (State.reset.entry .satA).lastSample = none)
      ∧ (((publishing (some .satA) locked).entry .satA).lastSample = some 350 ∧ (publishing (some .satA) locked).tb.timeValid = true)
      ∧ (let s := publishing (some .satA) (onSatA (-5) State.reset)
        s.tb.timeValid = false ∧ (s.entry .satA).lastSample = some (-5) ∧ (s.entry .satA).lastDeclared = some 5000
          ∧ s.clock.now ≤ s.clock.nextAt + -5 * 1000)
      ∧ (let s := { publishing (some .satA) (onSatA (-5) State.reset) with
              clock := { Clock.reset with now := 999999995001 } }
        s.clock.nextAt + -5 * 1000 < s.clock.now)
      ∧ ((publishing (some .lineA) locked).sel.toTbu = [some .lineA] ∧ RefId.lineA.isPhase = false
        ∧ ¬ (locked.tb.settings.ceiling ≤ locked.tb.u / 1000) ∧ locked.tb.settings.learningPeriod ≤ locked.tb.learning)
      ∧ (let s := publishing none (withTb (tbOn .acquire 100000000) State.reset)
        s.sel.toTbu = [none] ∧ s.tb.state = .acquire ∧ s.tb.settings.ceiling ≤ s.tb.u / 1000)
      ∧ ¬ (State.reset.tb.settings.learningPeriod ≤ State.reset.tb.learning) := by decide

/-! ### Reference inputs and entries -/

theorem witness_ReferenceMessages :
    (State.reset.rm.inputA.part = [] ∧ ∀ b ∈ [(0x11 : Byte)], b ≠ 0xA5)
      ∧ ((aMessage.take 11).head? = some 0xA5 ∧ (aMessage.take 11).length < 12)
      ∧ (aMessage.head? = some 0xA5 ∧ aMessage.length = 12 ∧ byteAt aMessage 1 = 12 ∧ byteSum aMessage = 0)
      ∧ (let m : List Byte := 0xA5 :: List.replicate 11 12
        m.head? = some 0xA5 ∧ m.length = 12 ∧ ¬ (byteAt m 1 = 12 ∧ byteSum m = 0))
      ∧ (let m : List Byte := withCheck [0x5A, 15]
        m.head? = some 0x5A ∧ m.length = 3 ∧ byteAt m 1 < 16 ∧ byteSum m = 0)
      ∧ ¬ (byteAt (withCheck [0x5A, 16]) 1 < 16)
      ∧ (let s := after (.satMessage .a aMessage) State.reset
        s.rm.inputA.waiting = some { seconds := 1000, tracking := true, accuracy := 30, boundaries := 0 } ∧ 0 < 2)
      ∧ (after .epochBoundary (after .epochBoundary (after (.satMessage .a aMessage) State.reset))).rm.inputA.waiting
          = some { seconds := 1000, tracking := true, accuracy := 30, boundaries := 2 } := by decide

/-- A pulse at each end of the half epoch, one in the next epoch's half, and a late one; a deferred edge before, at and
after its boundary. -/
theorem witness_EdgeOutcomes :
    (let off := fun edge : Int => edge - State.reset.clock.boundaryAt;
      (-500000000000 < off (-499999999999) ∧ off 500000000000 ≤ 500000000000 ∧ 500000000000 < off 500000000001
        ∧ off (-500000000000) ≤ -500000000000))
      ∧ (State.reset.entry .satA).edges = []
      ∧ (let s := after (.ppsEdge .a 500000000001) State.reset
        (s.entry .satA).edges = [s.clock.boundaries + 1]
          ∧ (s.entry .satA).waiting.map WaitingEdge.boundary = some 1 ∧ s.clock.boundaries < 1
          ∧ (after .epochBoundary s).clock.boundaries = 1 ∧ 1 < (after .epochBoundary (after .epochBoundary s)).clock.boundaries)
      ∧ ((after (.ppsEdge .a 0) (after (.ppsEdge .a 500000000001) State.reset)).entry .satA).edges = [0, 1]
      ∧ (let s := after .epochBoundary State.reset
        s.rm.clockA.edgeWait = true ∧ s.clock.boundaryAt ≤ 1000000000000)
      ∧ State.reset.rm.clockA.edgeWait = false := by decide

theorem witness_SampleVerdicts :
    (let info := fun (t : Option Bool) (d : Option Seconds) (q n : Nat) =>
        ({ declared := d, tracking := t, quality := q, depth := n } : EdgeInfo)
      let e := State.reset.entry .parent
      (info none none 0 0).tracking ≠ some true
        ∧ (¬ (locked.tb.timeValid = false ∨ (info (some true) none 0 0).declared = some locked.tb.seconds))
        ∧ State.reset.tb.timeValid = false ∧ (info (some true) (some 0) 0 0).declared = some locked.tb.seconds
        ∧ e.settings.acceptLevel < (info none none 5 0).quality ∧ (info none none 4 4).quality ≤ e.settings.acceptLevel
        ∧ e.settings.maxDepth ≤ (info none none 4 4).depth ∧ (info none none 4 3).depth < e.settings.maxDepth)
      ∧ (State.reset.entry .lineA).declared.level = none
      ∧ (let s := State.reset.updEntry .lineA (fun e => { e with declared := { e.declared with level := some 4 } })
        (s.entry .lineA).declared.level = some 4 ∧ 4 ≤ (s.entry .lineA).settings.acceptLevel
          ∧ (s.entry .lineA).settings.acceptLevel < 5) := by decide

/-- The gate at its width, an outlier, the third outlier, a DISQUALIFIED entry on either side of it, a first sample, and a
sample with a base in a running window. -/
theorem witness_SampleDisposal :
    (locked.tb.state = .locked ∧ locked.tb.selected = some .satA ∧ (locked.entry .satA).state ≠ .absent
        ∧ (locked.entry .satA).settings.gateWidth < (1001 : Int).natAbs
        ∧ ¬ ((locked.entry .satA).settings.gateWidth < (1000 : Int).natAbs)
        ∧ ¬ (2 ≤ (locked.entry .satA).outlierRun)
        ∧ 2 ≤ ((locked.updEntry .satA (fun e => { e with outlierRun := 2 })).entry .satA).outlierRun)
      ∧ (let e := fun n => (locked.updEntry .satA (fun e => { e with state := .disqualified, outlierRun := n })).entry .satA
        (e 1).state = .disqualified ∧ ¬ (2 ≤ (e 1).outlierRun) ∧ (e 2).state = .disqualified ∧ 2 ≤ (e 2).outlierRun
          ∧ (locked.entry .satA).state ≠ .disqualified)
      ∧ (State.reset.entry .lineA).state = .absent
      ∧ ((locked.entry .satA).base = some { value := 350, boundary := 0 } ∧ (locked.entry .satA).windowEpochs = some 3
        ∧ ¬ (locked.rm.accounted < locked.clock.boundaries)
        ∧ (let s := after .epochBoundary locked
          s.rm.accounted < s.clock.boundaries ∧ (s.entry .satA).base.isSome = true))
      ∧ (let ok : EdgeInfo := { declared := some 0, tracking := some true, quality := 0, depth := 0 }
        verdictOf .satA locked.tb (locked.entry .satA) ok = .acceptable
          ∧ verdictOf .satA locked.tb (locked.entry .satA) { ok with tracking := none } = .declared
          ∧ verdictOf .satA locked.tb (locked.entry .satA) { ok with declared := some 9 } = .time
          ∧ verdictOf .parent locked.tb (locked.entry .parent) { ok with depth := 4 } = .chain) := by decide

theorem witness_QualityIndexUpdate :
    (let t := RefSettings.defaults 1
      let level := fun wf : Nat => (t.thresholds.filter (fun x => decide (wf ≤ x))).length
      (7 < t.window / 2 ∧ t.window / 2 ≤ 8)
        ∧ level 3906 = 5 ∧ level 3907 = 4 ∧ 5 ≤ level 3906 ∧ 4 < level 3500
        ∧ ¬ (3500 ≤ (t.thresholds[5 - 1]?).getD 0 * (8 - t.hysteresis) / 8)
        ∧ 3200 ≤ (t.thresholds[5 - 1]?).getD 0 * (8 - t.hysteresis) / 8)
      ∧ (let e := (locked.updEntry .satA (fun e => { e with windowEpochs := some 16 })).entry .satA
        e.windowEpochs = some 16 ∧ e.settings.window ≤ 16 ∧ e.windowRestart = false) := by decide

/-- A window at its end, in each state of the entry. -/
theorem witness_WindowEndOutcome :
    (let e := (locked.updEntry .satA (fun e => { e with windowEpochs := some 16, windowCount := 8 })).entry .satA;
      e.windowEpochs = some 16 ∧ e.settings.window ≤ 16 ∧ e.windowRestart = false ∧ e.state = .qualified ∧ 0 < e.windowCount)
      ∧ ¬ (16 ≤ 15)
      ∧ (let s := locked.updEntry .satA (fun e => { e with windowEpochs := some 16, windowCount := 7 })
        ((after (.windowEnd .satA) s).entry .satA).q < (s.entry .satA).settings.floor)
      ∧ (let s := State.reset.updEntry .satB (fun e =>
            { e with state := .disqualified, windowEpochs := some 16, windowCount := 8, epochAcceptable := true })
        (s.entry .satB).settings.floor ≤ ((after (.windowEnd .satB) s).entry .satB).q ∧ (s.entry .satB).epochAcceptable = true)
      ∧ (State.reset.entry .satA).state = .absent := by decide

/-- Of an entry's accounting: lost at the third miss, kept at the second; a good epoch; a window that goes on, ends in each
state of the entry, and is asked to start again. -/
theorem witness_EpochAccounting :
    (let e := (locked.updEntry .satA (fun e => { e with missRun := 2 })).entry .satA;
      e.state ≠ .absent ∧ e.thisEpoch = none ∧ 2 ≤ e.missRun)
      ∧ ((locked.entry .satA).thisEpoch = none ∧ ¬ (2 ≤ (locked.entry .satA).missRun))
      ∧ (let rec' : SampleRec := { verdict := .acceptable, outlier := false }
        let e := (State.reset.updEntry .satB (fun e => { e with state := .qualifying, q := 4, thisEpoch := some rec' })).entry .satB
        e.state = .qualifying ∧ e.thisEpoch = some rec' ∧ rec'.verdict = .acceptable ∧ rec'.outlier = false
          ∧ e.settings.floor ≤ e.q)
      ∧ (let e := fun n => (locked.updEntry .satA (fun e => { e with windowEpochs := some n })).entry .satA
        (e 14).windowEpochs = some 14 ∧ (e 14).windowRestart = false ∧ (e 14).windowAhead = false
          ∧ 14 + 1 < (e 14).settings.window ∧ (e 15).settings.window ≤ 15 + 1)
      ∧ (let e := fun (st : RefState) (had : Option SampleRec) (n : Nat) => (State.reset.updEntry .satB (fun e =>
            { e with state := st, missRun := 0, q := 3, thisEpoch := had, windowEpochs := some 15, windowCount := n })).entry .satB
        let q := fun x : RefEntry =>
          newQuality x.settings x.windowCount (if x.windowCount = 0 then x.wf else x.windowSum / x.windowCount) x.q
        let bad : SampleRec := { verdict := .acceptable, outlier := true }
        (e .qualifying none 8).settings.window ≤ 15 + 1 ∧ (e .qualifying (some bad) 8).settings.floor ≤ q (e .qualifying (some bad) 8)
          ∧ q (e .qualified none 7) < (e .qualified none 7).settings.floor ∧ (e .qualifying none 8).thisEpoch = none
          ∧ bad.outlier ≠ false ∧ (e .disqualified (some bad) 8).thisEpoch = some bad ∧ bad.verdict = .acceptable
          ∧ ¬ (2 ≤ (e .disqualified none 7).missRun))
      ∧ (let e := (locked.updEntry .satA (fun e => { e with windowRestart := true })).entry .satA
        e.windowRestart = true ∧ e.windowEpochs.isSome = true)
      ∧ (State.reset.entry .satA).state = .absent := by decide

/-- The parent's reports and frames handed over. -/
def handed (xs : List ParentEvent) (s : State) : State := s.updLink .l2 (fun l => { l with toRm := xs })

theorem witness_AbsenceAndParent :
    (let e := (locked.updEntry .satA (fun e => { e with missRun := 3 })).entry .satA;
      e.state ≠ .absent ∧ 3 ≤ e.missRun)
      ∧ ¬ (3 ≤ (locked.entry .satA).missRun)
      ∧ ((handed [.enrolled] parentUp).link .l2).toRm = [.enrolled]
      ∧ ((handed [.frame 5 aTime, .lost, .enrolled] parentUp).link .l2).toRm = [.frame 5 aTime] ++ .lost :: [.enrolled]
      ∧ (handed [.frame 62500040000 aTime] parentUp).rm.parentPresent = false
      ∧ (let s := { handed [.frame 62500040000 aTime] parentUp with rm := { parentUp.rm with parentPresent := true } }
        s.rm.parentPresent = true ∧ aTime.index = 0
          ∧ -500000000000 < 62500040000 - aTime.offset * 1000 - s.clock.boundaryAt
          ∧ 62500040000 - aTime.offset * 1000 - s.clock.boundaryAt ≤ 500000000000
          ∧ s.clock.boundaries ∉ (s.entry .parent).edges
          ∧ 500000000000 < 562500000001 - aTime.offset * 1000 - s.clock.boundaryAt)
      ∧ ({ aTime with index := 15 } : TimeFrame).index ≠ 0
      ∧ ((State.reset.entry .parent).state = .absent ∧ (locked.entry .satA).state ≠ .absent) := by decide

/-! ### Reference requests and the selector -/

theorem witness_ReferenceRequests :
    State.reset.port.state = .idle ∧ RefId.lineB.index = 4 ∧ 5 ≤ 5
      ∧ (let p : RefThresholdReq := { noThresholds with t7 := some 1 }
        let ts := (RefSettings.defaults 1).thresholds
        (∀ v ∈ [p.t1, p.t2, p.t3, p.t4, p.t5, p.t6, p.t7], ∀ x ∈ v, 1 ≤ x ∧ x ≤ 4294967295)
          ∧ (List.zipWith (fun v t => v.getD t) [p.t1, p.t2, p.t3, p.t4, p.t5, p.t6, p.t7] ts).Pairwise (fun a b => b < a)
          ∧ ¬ (List.zipWith (fun v t => v.getD t) [none, some 1000000] ts).Pairwise (fun a b => b < a))
      ∧ (let g : RefGeneralReq := { noGeneral with wtr := some 1023, priority := some 15, window := some 64 }
        (∀ v ∈ g.wtr, v ≤ 1023) ∧ (∀ v ∈ g.priority, 1 ≤ v ∧ v ≤ 15) ∧ g.wtr.isSome = true
          ∧ (∀ v ∈ g.window, v = 8 ∨ v = 16 ∨ v = 32 ∨ v = 64)
          ∧ (RefSettings.defaults 1).thresholds.Pairwise (fun a b => b < a))
      ∧ ¬ (∀ v ∈ ({ noGeneral with hysteresis := some 5 } : RefGeneralReq).hysteresis, v ≤ 4)
      ∧ (let g : RefGeneralReq := { noGeneral with floor := some 7 }
        (∀ v ∈ g.floor, v ≤ 7)
          ∧ ¬ (g.enabled.isSome = true ∨ g.priority.isSome = true ∨ g.wtr.isSome = true ∨ g.revertive.isSome = true)) := by
  decide

theorem witness_SelectorReaction :
    (State.reset.sel.selected = none ∧ State.reset.best = none)
      ∧ (let s := State.reset.updEntry .satB (fun e => { e with state := .qualified })
        s.sel.selected = none ∧ s.best = some .satB)
      ∧ (let s := { State.reset with sel := { Selector.reset with selected := some .satA, forced := some .satA } }
        s.sel.selected = some .satA ∧ ¬ ((s.entry .satA).state = .qualified))
      ∧ (let s := waiting 5
        s.sel.selected = some .satB ∧ (s.entry .satB).settings.enabled = true ∧ (s.entry .satB).state = .qualified
          ∧ s.sel.forced = none ∧ s.sel.revertive = true ∧ s.best = some .satA
          ∧ (s.entry .satA).settings.priority < (s.entry .satB).settings.priority ∧ s.sel.wtr ≠ 0
          ∧ s.sel.wtrCand = some .satA)
      ∧ (let s := { waiting 5 with sel := { (waiting 5).sel with forced := some .satB, wtrCand := none } }
        s.sel.forced.isSome = true ∧ s.sel.wtrCand ≠ some .satA)
      ∧ ({ waiting 5 with sel := { (waiting 5).sel with revertive := false } } : State).sel.revertive = false
      ∧ ({ waiting 5 with sel := { (waiting 5).sel with wtr := 0 } } : State).sel.wtr = 0
      ∧ (locked.sel.selected = some .satA ∧ locked.best = some .satA) := by decide

theorem witness_ForceAndRelease :
    (waiting 5).port.state = .idle ∧ RefId.satA.index = 0
      ∧ (((waiting 5).entry .satA).settings.enabled = true ∧ ((waiting 5).entry .satA).state = .qualified
        ∧ (waiting 5).sel.forced ≠ some .satA ∧ (waiting 5).sel.selected ≠ some .satA ∧ (waiting 5).sel.selected = some .satB)
      ∧ ((waiting 5).entry .lineA).state ≠ .qualified
      ∧ (let s := ((waiting 5).force .satB)
        s.sel.forced = some .satB ∧ s.sel.forced.isSome = true ∧ s.sel.revertive = true) := by decide

/-- The selector's invariant with a force on the selected reference. -/
theorem witness_ForcedInvariant : SelectorInv ((waiting 5).force .satB) where
  selectedIs := by intro c h; cases h; decide
  noneOnly := by intro h; cases h
  forcedIs := by intro c h; cases h; decide
  waiting := by intro c h; cases h
  idleCount := by decide
  noWait := by decide
  countWithin := by decide
  countCompared := rfl

theorem witness_WaitToRestore :
    State.reset.sel.wtrCand = none
      ∧ ((waiting 58).sel.wtrCand = some .satA ∧ min ((waiting 58).sel.wtrCount + 1) 1023 < (waiting 58).sel.wtr)
      ∧ (waiting 59).sel.wtr ≤ min ((waiting 59).sel.wtrCount + 1) 1023
      ∧ (waiting 59).sel.wtrDue = false
      ∧ (let s := fun n => ({ waiting n with sel := { (waiting n).sel with wtrDue := true } } : State)
        (s 59).sel.wtrDue = true ∧ (s 59).sel.wtrCount < (s 59).sel.wtr ∧ (s 60).sel.wtr ≤ (s 60).sel.wtrCount) := by decide

/-! ### Sites and plan -/

/-- No handle is left. -/
def noHandle (s : State) : State := { s with stu := { s.stu with freeHandles := [] } }

theorem witness_SiteCreateOutcome :
    plan.port.state = .idle ∧ (0x3A000105 ≠ 0 ∧ 2 ≤ 5 ∧ 1 ≤ 1 ∧ 15 ≤ 15) ∧ ¬ (6 ≤ 5) ∧ LinkId.l2.index = 2
      ∧ (parentUp.link .l2).role ≠ .serve ∧ (plan.link .l2).role = .serve
      ∧ (plan.stu.handleOf 0x51000014).isSome = true ∧ plan.stu.handleOf 7 = none
      ∧ (plan.stu.dropEntry .l2 2).isSome = true ∧ plan.stu.dropEntry .l2 15 = none
      ∧ (noHandle plan).stu.freeHandles = []
      ∧ plan.stu.freeHandles = 0 :: plan.stu.freeHandles.tail ∧ (plan.stu.dropMaps.get .l2).length = 15 := by decide

/-- An ENROL result handed over. -/
def enrolled (drop siteId : Nat) : EnrolResult :=
  { drop := drop, siteId := siteId, capability := { phase := true, tight := false, highest := 16 } }

def withEnrol (e : EnrolResult) (s : State) : State := s.updLink .l2 (fun l => { l with toStu := [e] })

theorem witness_EnrolResultOutcome :
    (State.reset.link .l2).toStu = [] ∧ ((withEnrol (enrolled 9 7) plan).link .l2).toStu = [enrolled 9 7]
      ∧ ((withEnrol (enrolled 9 7) parentUp).link .l2).role ≠ .serve ∧ (plan.link .l2).role = .serve
      ∧ ((plan.stu.handleOf 0x51000014).bind plan.record? = some (rec20 plan) ∧ (rec20 plan).link = .l2 ∧ (rec20 plan).drop = 2)
      ∧ (plan.stu.handleOf 7).bind plan.record? = none ∧ (plan.stu.dropEntry .l2 2).isSome = true
      ∧ plan.stu.dropEntry .l2 9 = none ∧ (noHandle plan).stu.freeHandles = []
      ∧ plan.stu.freeHandles = 0 :: plan.stu.freeHandles.tail := by decide

theorem witness_BlockPlacement :
    (let l := plan.link .l2
      let passes := fun b rate : Nat => ((l.slots.drop b).take rate).all (fun e => e == .free)
      l.slots.length = 256 ∧ l.effectiveSplit ≤ 256 ∧ 0 < 16
        ∧ 12 % 8 ≠ 0 ∧ (216 % 16 ≠ 0 ∧ 224 % 16 = 0 ∧ l.effectiveSplit < 224 + 16) ∧ (208 % 16 = 0 ∧ 208 + 16 ≤ l.effectiveSplit)
        ∧ passes 208 16 = true ∧ passes 16 16 = false ∧ passes 32 16 = true)
      ∧ (let slots := (plan.link .l2).slots
        slotAt slots 10 = .held 20 ∧ slotAt slots 9 ≠ .held 20
          ∧ slotAt (reserveSlots 20 8 8 slots) 8 = .reserved 20 ∧ slotAt slots 0 ≠ .reserved 20) := by decide

/-- A PROVISIONAL record at handle 0, with a capability. -/
def provisional : State :=
  (after (.readSelect 6) (after (.siteCreate 1 7 2 9) plan)).updRecord 0 (fun r =>
    { r with capability := some { phase := true, tight := true, highest := 4 } })

theorem witness_SiteAdmitOutcome :
    provisional.port.state = .idle ∧ plan.record? 0 = none
      ∧ (plan.record? 20).map SiteRecord.lifecycle = some .active
      ∧ (provisional.record? 0).map SiteRecord.lifecycle = some .provisional
      ∧ (let p := { anAdmit with handle := 0, budget := 1500, compensation := -100000 }
        p.cls = 2 ∧ 100 ≤ p.budget ∧ p.budget ≤ 1500 ∧ p.rate = 4 ∧ p.window ≤ 7 ∧ -100000 ≤ p.compensation ∧ p.ackMode = 0)
      ∧ ¬ (1501 ≤ 1500) ∧ ¬ (8 ≤ 4)
      ∧ ((provisional.link .l2).placeBlock (fun e => e == .free) 4 (.explicit 8)).toOption = none
      ∧ ((provisional.link .l2).placeBlock (fun e => e == .free) 4 .any).toOption = some 12 := by decide

theorem witness_SiteLifecycleOutcome :
    plan.port.state = .idle ∧ plan.record? 0 = none ∧ plan.record? 20 = some (rec20 plan) ∧ (rec20 plan).lifecycle = .active
      ∧ (rec20 plan).protectedFlag = false
      ∧ (rec20 (plan.updRecord 20 (fun r => { r with protectedFlag := true }))).protectedFlag = true
      ∧ (rec20 (plan.updRecord 20 SiteRecord.suspend)).lifecycle = .suspended
      ∧ (rec20 (plan.updRecord 20 SiteRecord.retire)).lifecycle = .retiring
      ∧ (provisional.record? 0).map SiteRecord.lifecycle = some .provisional := by decide

theorem witness_RemovalOutcome :
    rec20 plan ∈ plan.stu.records ∧ 1 ≤ (rec20 plan).drop ∧ (rec20 plan).drop ≤ (plan.stu.dropMaps.get (rec20 plan).link).length := by
  decide

theorem witness_SiteReadsOutcome :
    plan.port.state = .idle ∧ 6 ≤ 6 ∧ 1 ≤ 1 ∧ (∀ p ∈ plan.stu.index, p.1 ≤ 0x51000016)
      ∧ (plan.stu.index = [(0x51000014, 20)] ++ (0x51000015, 21) :: [(0x51000016, 22)]
        ∧ (∀ q ∈ [(0x51000014, 20)], q.1 ≤ 0x51000014) ∧ 0x51000014 < 0x51000015)
      ∧ plan.record? 63 = none ∧ plan.record? 20 = some (rec20 plan) := by decide

/-- Two records of one link at their last boundary, one with an alarm entry that holds the line. -/
def expiring : State :=
  let last := fun r : SiteRecord => { r with lifecycle := .provisional, expiry := some 1 }
  { (plan.updRecord 20 last).updRecord 21 last with
    atu := { AlarmTable.reset with entries := [AlarmEntry.new 0 1 (.site 20 7) .siteService .major none 0 0],
                                   nextSerial := 2, asserted := true } }

theorem witness_ProvisionalExpiryOutcome :
    (provisional.stu.records.map SiteRecord.handle).Nodup
      ∧ (∀ r ∈ plan.stu.records, ¬ (r.lifecycle = .provisional ∧ (r.expiry = some 0 ∨ r.expiry = some 1)))
      ∧ (let s := provisional.updRecord 0 (fun r => { r with expiry := some 1 })
        (s.stu.records.filter (fun q => decide (q.lifecycle = .provisional ∧ (q.expiry = some 0 ∨ q.expiry = some 1)))).length = 1)
      ∧ (expiring.stu.records.map SiteRecord.handle).Nodup ∧ (∀ r ∈ expiring.stu.records, 1 ≤ r.drop)
      ∧ (expiring.stu.records.filter (fun q => decide (q.lifecycle = .provisional
          ∧ (q.expiry = some 0 ∨ q.expiry = some 1)))).length = 2
      ∧ (∀ e ∈ expiring.atu.entries, e.root = none) ∧ expiring.atu.asserted = true := by
  decide

/-- Both go at the boundary, with their slots, their drops, their entries and the line that one of them held. -/
theorem test_two_expire :
    let t := after .provisionalExpiry expiring
    t.stu.records.map SiteRecord.handle = [22] ∧ [2, 3, 4].map (t.stu.dropEntry .l2) = [none, none, some 22]
      ∧ [10, 0, 16].map (slotAt (t.link .l2).slots) = [.free, .free, .held 22] ∧ t.atu.entries = []
      ∧ t.atu.asserted = false := by decide

/-! ### Amendments and conditions -/

theorem witness_SiteAmendOutcome :
    plan.port.state = .idle ∧ plan.record? (noAmend 0).handle = none ∧ plan.record? (noAmend 20).handle = some (rec20 plan)
      ∧ (plan.stu.records.map SiteRecord.handle).Nodup
      ∧ ((provisional.record? 0).map SiteRecord.lifecycle = some .provisional
        ∧ ({ noAmend 0 with budget := some 0 } : AmendReq).budget ≠ none)
      ∧ (rec20 (plan.updRecord 20 (fun r => { r with protectedFlag := true }))).protectedFlag = true
      ∧ ¬ (∀ v ∈ ({ noAmend 20 with window := some 8 } : AmendReq).window, v ≤ 7)
      ∧ ((rec20 plan).capability = some { phase := true, tight := true, highest := 8 } ∧ ¬ (16 ≤ 8))
      ∧ ({ noAmend 20 with budget := some 65535 } : AmendReq).rate = none ∧ (rec20 plan).cls = some .phaseStd
      ∧ ((plan.link .l2).placeBlock (usableBy 20) 8 (.explicit 12)).toOption = none
      ∧ ((plan.link .l2).placeBlock (usableBy 20) 8 .any).toOption = some 8 := by decide

theorem witness_GroupAmendOutcome :
    plan.port.state = .idle ∧ (noGroup 0).mask = 0
      ∧ ((noGroup 4).mask ≠ 0 ∧ (∀ v ∈ ({ noGroup 4 with window := some 7 } : AmendGroupReq).window, v ≤ 7)
        ∧ (∀ v ∈ ({ noGroup 4 with delta := some 200000 } : AmendGroupReq).delta, -200000 ≤ v ∧ v ≤ 200000))
      ∧ ((rec20 plan).lifecycle = .active ∧ (rec20 plan).groups &&& 4 ≠ 0)
      ∧ plan.stu.records = [] ++ rec20 plan :: plan.stu.records.tail
      ∧ ¬ ((rec20 plan).compensation + 200000 ≤ 100000) ∧ (rec20 plan).compensation + 99880 ≤ 100000 := by decide

/-- Two records of one link with a block reserved. -/
def swapping : State :=
  after (.siteAmend 2 { noAmend 21 with rate := some 8, slotBase := some (.explicit 32) }) (after (.readSelect 64) (after amendA plan))

theorem witness_AmendmentApplicationOutcome :
    (let s := after amendA plan;
      (s.stu.records.map SiteRecord.handle).Nodup ∧ (rec20 s).lifecycle = .active
        ∧ s.stu.records.filter (fun q => q.link == .l2 && q.pending.rate.isSome) = [rec20 s]
        ∧ (rec20 s).pending.rate = some 8 ∧ (rec20 s).pending.slotBase = some 8)
      ∧ (∀ r ∈ plan.stu.records, r.pending.rate = none)
      ∧ (swapping.stu.records.map SiteRecord.handle).Nodup
      ∧ (swapping.stu.records.filter (fun r => r.link == .l2 && r.lifecycle == .active
          && r.pending.rate.isSome && r.pending.slotBase.isSome)).map SiteRecord.handle = [20, 21]
      ∧ slotAt (swapping.link .l2).slots 12 = .reserved 20 ∧ slotAt (swapping.link .l2).slots 32 = .reserved 21
      ∧ slotAt (swapping.link .l2).slots 0 = .held 21 ∧ slotAt (swapping.link .l2).slots 16 = .held 22 := by decide

/-- Each swap works over its own record's slots. -/
theorem test_two_swaps :
    let t := after .amendmentApplication swapping
    ([9, 10, 15, 32, 39, 0, 16].map (slotAt (t.link .l2).slots))
      = [.held 20, .held 20, .held 20, .held 21, .held 21, .free, .held 22] := by decide

theorem witness_ServiceEvaluationOutcome :
    (aRecord 21 3 8 0 .freq 0).cls = some .freq ∧ Published.reset.state = .freerun ∧ published370.state ≠ .freerun := by decide

/-- At 3000 ns, margin 375: U at each limit of the table. -/
theorem witness_PhaseConditionRule :
    (let r := aRecord 20 2 2 10 .phaseStd 3000;
      r.cls = some .phaseStd ∧ r.budget = some 3000)
      ∧ Published.reset.timeValid = false ∧ published370.timeValid = true
      ∧ 3000 / 8 = 375 ∧ (3000 ≤ 3000 ∧ 3000 < 3001 ∧ 6000 ≤ 2 * 3000 ∧ 2 * 3000 < 6001)
      ∧ (2625 ≤ 3000 - 375 ∧ 3000 - 375 < 2626 ∧ 5625 ≤ 2 * 3000 - 375 ∧ 2 * 3000 - 375 < 5626) := by decide

/-! ### Site links -/

theorem witness_LineStateOutcome :
    (State.reset.link .l1).state = .down
      ∧ ((after (.lineSenseReturn .l1) State.reset).link .l1).state = .training
      ∧ (plan.link .l2).state = .up ∧ (plan.link .l2).sense = true ∧ (State.reset.link .l1).sense = false
      ∧ (parentUp.link .l2).role = .parent
      ∧ ((sent7.record? 7).map (fun r => r.exchanges.length) = some 1)
      ∧ (let r : SiteRecord := { rec7 sent7 with exchanges := (rec7 sent7).exchanges.map (fun x => { x with held := true }) }
        0 < (r.exchanges.filter Exchange.held).length)
      ∧ ((rec7 sent7).exchanges.filter Exchange.held).length = 0 := by decide

theorem witness_LinkRequestsOutcome :
    plan.port.state = .idle ∧ 6 ≤ 6 ∧ 255 < 256 ∧ 1 ≤ 255
      ∧ (parentUp.link .l2).role ≠ .serve ∧ (plan.link .l2).role = .serve
      ∧ ¬ (3 ≤ 2) ∧ ((1 : Nat) ≤ 2 ∧ plan.stu.dropEntry .l2 2 = some 20)
      ∧ (LinkId.all.all (fun m => (State.reset.link m).role != .parent)) = true
      ∧ slotAt (plan.link .l2).slots 208 = .free
      ∧ slotAt ((withRecord (aRecord 8 5 1 223 .freq 0) plan).link .l2).slots 223 = .held 8
      ∧ (plan.link .l2).split = 224 ∧ 208 ≠ (plan.link .l2).split := by decide

theorem witness_LinkBoundaryOutcome :
    ¬ ((State.reset.link .l2).role = .parent)
      ∧ (let s := fun n => parentUp.updLink .l2 (fun l => { l with parentState := .enrolled, parentSilence := n })
        ((s 6).link .l2).role = .parent ∧ ((s 6).link .l2).parentState = .enrolled
          ∧ min (((s 6).link .l2).parentSilence + 1) 8 < 8 ∧ min (((s 7).link .l2).parentSilence + 1) 8 = 8
          ∧ 8 ≤ ((s 8).link .l2).parentSilence)
      ∧ (State.reset.link .l1).window ≤ 1 ∧ 1 < ((State.reset.updLink .l1 (fun l => { l with window := 2 })).link .l1).window
      ∧ (let l := (State.reset.updLink .l1 (fun l => { l with state := .training, trainingCount := 2 })).link .l1
        l.state = .training ∧ 2 ≤ l.trainingCount) := by decide

/-- A record served in slot 239 on an UP link, on a link that is not UP, and withheld. -/
theorem witness_DeliverySlotOutcome :
    (let s := edgeOfEpoch;
      (s.link .l2).role = .serve ∧ 239 < (s.link .l2).split ∧ (rec7 s).lifecycle = .active ∧ (rec7 s).serviceStarted = true
        ∧ slotAt (s.link .l2).slots 239 = .held 7 ∧ s.record? 7 = some (rec7 s) ∧ (s.link .l2).state = .up
        ∧ ¬ ((rec7 s).squelch = true))
      ∧ (let s := edgeOfEpoch.updRecord 7 (fun r => { r with squelch := true, condition := .unusable })
        (rec7 s).squelch = true ∧ (rec7 s).condition = .unusable)
      ∧ (let s := edgeOfEpoch.updLink .l2 (fun l => { l with state := .training })
        (s.link .l2).state ≠ .up ∧ (rec7 s).ackMode = some .confirmed)
      ∧ (rec7 (edgeOfEpoch.updRecord 7 (fun r => { r with ackMode := some .unconfirmed }))).ackMode ≠ some .confirmed
      ∧ slotAt (edgeOfEpoch.link .l2).slots 238 = .free := by decide

theorem witness_FrameQuality :
    (let c := fun (p : Published) (r : SiteRecord) => if r.condition = .none then judge p r .none else r.condition
      let r := aRecord 20 2 2 10 .phaseStd 3000
      c published370 r = .inService ∧ c published370 { r with condition := .degraded } = .degraded
        ∧ c Published.reset { r with condition := .none } = .unusable)
      ∧ published370.state = .acquire ∧ published370.selected = some .satA ∧ Published.reset.selected = none
      ∧ min (14 + 1) 15 = 15 := by decide

/-- The two slots; and of each link frame the values at the ends of its ranges, and a run of bytes that is one. -/
theorem witness_CallAndFarewell :
    ((let f : TimeFrame := { aTime with addr := 255, slot := 255, index := 255, offset := -2147483648, quality := 15, depth := 15,
                                        appliedStep := 2147483647, senderU := 4294967295 }
      f.addr < 256 ∧ f.slot < 256 ∧ f.index < 256 ∧ -2147483648 ≤ f.offset ∧ f.offset < 2147483648 ∧ f.quality < 16
        ∧ f.depth < 16 ∧ -2147483648 ≤ f.appliedStep ∧ f.appliedStep < 2147483648 ∧ f.senderU < 4294967296
        ∧ decodeLinkFrame (encodeLinkFrame (.time f)) = some (.time f))
      ∧ [LinkFrame.time aTime, .call 255 4294967295 255 1, .farewell 255 4294967295 0, .reply 255 255 255,
          .enrol 255 4294967295 0x13].all (fun f =>
            let bs := encodeLinkFrame f
            linkFrameLength ((bs[1]?.getD 0).toNat) == some bs.length && (bs.map BitVec.toNat).sum % 256 == 0) = true
      ∧ ([(2 : Byte), 0x34, 0, 0, 0].map BitVec.toNat).sum % 256 ≠ 0 ∧ linkFrameLength 0x34 ≠ some 4)
      ∧ (let s := (up State.reset).updLink .l2 (fun l => { l with window := 1 });
      (s.link .l2).role = .serve ∧ (s.link .l2).state = .up ∧ 0 < (s.link .l2).window)
      ∧ ¬ (0 < ((up State.reset).link .l2).window)
      ∧ (let s := after (.siteRetire 1 20 false) plan
        (s.link .l2).split < 225 ∧ 225 ≤ 255 ∧ (s.link .l2).state = .up ∧ (s.link .l2).retireQueue = [20]
          ∧ (s.record? 20).isSome = true)
      ∧ (plan.link .l2).retireQueue = [] ∧ ¬ ((plan.link .l2).split < 224) := by decide

theorem witness_ExchangeEnds :
    sent7.record? 6 = none ∧ sent7.record? 7 = some (rec7 sent7) ∧ (rec7 sent7).link = .l2
      ∧ (∃ x ∈ (rec7 sent7).exchanges, x.slot = 239 ∧ x.index = 0) ∧ ¬ (∃ x ∈ (rec7 sent7).exchanges, x.slot = 238 ∧ x.index = 0)
      ∧ ((sent7.link .l2).state = .up ∧ (sent7.link .l2).role ≠ .off)
      ∧ byteAt [(2 : Byte)] 0 = (rec7 sent7).drop ∧ byteAt [(3 : Byte)] 0 ≠ (rec7 sent7).drop
      ∧ (sent7.link .l2).hearsFrom ≤ 0 ∧ (sent7.link .l2).rx = none
      ∧ ((sent7.updLink .l2 (fun l => { l with rx := some { instant := 0, bytes := [2] } })).link .l2).rx
          = some { instant := 0, bytes := [2] } ∧ (0 : Int) ≠ 1
      ∧ ¬ ((State.reset.link .l2).state = .up) := by decide

/-- The exchange open in sent7. -/
def sentExchange : Exchange := { slot := 239, index := 0, sendTime := 933593750000, windowEnd := 255, held := false }

/-- The first and the last instant on time, the first late, and the last before the slot; the link heard from 0 on. -/
theorem witness_ReplyOutcome :
    (sent7.link .l2).state = .up ∧ (sent7.link .l2).role = .serve ∧ ¬ ((State.reset.link .l2).state = .up)
      ∧ (1 ≤ 2 ∧ 15 ≤ 15 ∧ 15 < 16) ∧ (sent7.stu.dropEntry .l2 2).bind sent7.record? = some (rec7 sent7)
      ∧ (sent7.stu.dropEntry .l2 15).bind sent7.record? = none ∧ (rec7 sent7).lifecycle = .active
      ∧ (rec7 sent7).exchanges = [] ++ sentExchange :: []
      ∧ (∀ x ∈ (rec7 sent7).exchanges, ¬ (x.slot = 239 ∧ x.index = 1))
      ∧ (933593750000 + 3906249999 < sentExchange.sendTime + 3906250000
        ∧ sentExchange.sendTime ≤ 933593750000 ∧ 933593750000 - 1 < sentExchange.sendTime
        ∧ sentExchange.sendTime + 3906250000 ≤ 933593750000 + 3906250000)
      ∧ (sent7.link .l2).hearsFrom ≤ 933593750000 ∧ sent7.beginFrame .l2 0 = sent7
      ∧ (rec7 sent7).ackMode = some .confirmed ∧ (parentUp.link .l2).role = .parent := by decide

/-- A link in a calling epoch that began at 875,000,000,000 ps. -/
def calling : State := after (.callSlot .l2 false) ((up State.reset).updLink .l2 (fun l => { l with window := 10 }))

theorem witness_EnrolAndDiscards :
    (calling.link .l2).state = .up ∧ (calling.link .l2).role = .serve
      ∧ (calling.link .l2).calling = some { boundary := 0, instant := 875000000000 }
      ∧ (875000000000 ≤ 906249999999 ∧ 906249999999 < 875000000000 + 31250000000 ∧ calling.clock.boundaries = 0)
      ∧ ¬ (906250000000 < 875000000000 + 31250000000)
      ∧ ((1 : Nat) ≠ 0 ∧ 1 ≤ 15 ∧ 15 ≤ 15 ∧ (0x13 : Byte).toNat / 4 % 8 ≤ 4) ∧ ¬ ((0x14 : Byte).toNat / 4 % 8 ≤ 4)
      ∧ (calling.link .l2).rx = none ∧ (calling.link .l2).hearsFrom ≤ 0
      ∧ (-1 : Int) < (calling.link .l2).hearsFrom
      ∧ ((calling.updLink .l2 (fun l => { l with rx := some { instant := 0, bytes := [2] } })).link .l2).rx
          = some { instant := 0, bytes := [2] }
      ∧ linkFrameLength (byteAt ([2] ++ [0x36]) 1) = none ∧ linkFrameLength (byteAt ([2] ++ [0x34]) 1) = some 5
      ∧ ([2] ++ [(0x34 : Byte)]).length < 5
      ∧ (let f := encodeLinkFrame (.reply 2 239 0)
        5 ≤ f.length ∧ decodeLinkFrame f = some (.reply 2 239 0) ∧ (0 : Int) + 5 * 5500000 = 22000000 + 5500000)
      ∧ decodeLinkFrame [2, 0x34, 0, 0, 0] = none := by decide

theorem witness_ParentRoleOutcome :
    (parentUp.link .l2).state = .up ∧ (parentUp.link .l2).role = .parent ∧ (parentUp.link .l2).parentState = .unenrolled
      ∧ (parentUp.link .l2).hearsFrom ≤ 0 ∧ some 5 = (parentUp.link .l2).ownDrop ∧ some 6 ≠ (parentUp.link .l2).ownDrop ∧ (plan.link .l2).role = .serve
      ∧ ((parentUp.updLink .l2 (fun l => { l with parentState := .enrolled })).link .l2).parentState = .enrolled
      ∧ (some aTime.addr = (parentUp.link .l2).ownDrop ∧ ¬ (239 < aTime.slot) ∧ ¬ (15 < aTime.index) ∧ aTime.replyRequested = true)
      ∧ 239 < ({ aTime with slot := 240 } : TimeFrame).slot
      ∧ ({ aTime with replyRequested := false } : TimeFrame).replyRequested = false
      ∧ 0xA101 = parentUp.port.hubIdentity ∧ ¬ ((State.reset.link .l2).state = .up)
      ∧ ((after (.parentCallFrame .l2 0 0 1 0 1000) parentUp).link .l2).dueEnrols = 40000000 :: []
      ∧ (parentUp.link .l2).dueEnrols = [] ∧ (parentUp.link .l2).dueReplies = []
      ∧ ((after (.parentTimeFrame .l2 0 aTime) parentUp).link .l2).dueReplies.length = 1 := by decide

/-! ### Alarms -/

/-- Two entries, asserted. -/
def alarmed : State := after (.alarmScan false) quiet

/-- The second of them. -/
def lastEntry : AlarmEntry := AlarmEntry.new 1 2 (.ref .satA) .refDisqualified .minor none 0 0

theorem witness_AlarmRequestsOutcome :
    alarmed.port.state = .idle ∧ (∀ e ∈ alarmed.atu.entries, e.index ≠ 2)
      ∧ (alarmed.atu.entries = alarmed.atu.entries.take 1 ++ lastEntry :: []
        ∧ lastEntry.index = 1 ∧ (∀ x ∈ alarmed.atu.entries.take 1, x.index ≠ 1)
        ∧ lastEntry.source.typeCode = 1 ∧ lastEntry.source.number = 0
        ∧ lastEntry.kind.code = 4)
      ∧ (∀ e ∈ alarmed.atu.entries, e.serial ≤ 2) ∧ (∀ x ∈ alarmed.atu.entries.take 1, x.serial ≤ 1)
      ∧ 1 < lastEntry.serial
      ∧ (∀ e ∈ alarmed.atu.entries, ¬ (e.source.typeCode = 4))
      ∧ (∀ v ∈ [Severity.critical, .major, .minor, .warning], (0xF0 : BitVec 8).getLsbD v.code = false)
      ∧ (0x08 : BitVec 8).getLsbD Severity.warning.code = true := by decide

theorem witness_NotifyOutcome :
    alarmed.port.state = .idle ∧ (∃ e ∈ alarmed.atu.entries, e.qualifies alarmed.atu.threshold = true)
      ∧ ¬ (∃ e ∈ alarmed.atu.entries, e.qualifies .critical = true)
      ∧ ¬ (∃ e ∈ State.reset.atu.entries, e.qualifies State.reset.atu.threshold = true) ∧ 4 ≤ 4 := by decide

theorem witness_AlarmConditions :
    timebaseFound Published.reset = [{ kind := .tbFreerun, severity := .critical, rootSource := none }]
      ∧ (refFound State.reset .satA).length = 1 ∧ refFound State.reset .parent = [] ∧ (refFound parentUp .parent).length = 1
      ∧ (linkFound (State.reset.link .l0)).length = 1 ∧ linkFound (quiet.link .l0) = []
      ∧ (siteFound { aRecord 5 1 1 0 .freq 0 with condition := .degraded, silence := .long }).length = 2 := by decide

/-- An armed table that a scan makes call; one that stays asserted; and one that lets go. -/
theorem witness_AlarmScanOutcome :
    (quiet.atu.armed = true ∧ alarmed.atu.asserted = true)
      ∧ (after (.alarmScan false) alarmed).atu.asserted = true
      ∧ (after (.alarmScan false) { alarmed with
            published := { alarmed.published with state := .locked },
            rm := State.reset.rm, links := alarmed.links }).atu.armed = false
      ∧ (after (.alarmScan false) { quiet with atu := { AlarmTable.reset with asserted := true, threshold := .critical } }).atu.asserted
          = false := by decide

/-- A general table filled to its last index. -/
def fullTable : AlarmTable :=
  { AlarmTable.reset with
    entries := (List.range 47).map (fun k => AlarmEntry.new k (k + 1) (.site k k) .siteService .minor none 0 0),
    nextSerial := 48 }

theorem witness_AlarmRaiseAndClear :
    (∃ e ∈ alarmed.atu.entries, e.source = .timebase ∧ e.kind = .tbHoldover)
      ∧ ((∀ e ∈ alarmed.atu.entries, ¬ (e.source = .link .l0 ∧ e.kind = .linkDown)) ∧ 2 ≤ 46
        ∧ (∀ e ∈ alarmed.atu.entries, e.index ≠ 2) ∧ (∀ j < 2, ∃ e ∈ alarmed.atu.entries, e.index = j))
      ∧ ((∀ e ∈ fullTable.entries, ¬ (e.source = .timebase ∧ e.kind = .tbHoldover))
        ∧ (∀ j < 47, ∃ e ∈ fullTable.entries, e.index = j))
      ∧ (fullTable.rootOf (some .timebase) = none ∧ alarmed.atu.rootOf (some .timebase) = some 0)
      ∧ (let t := fullTable.settleFull 1 0
        0 < 1 ∧ (∀ e ∈ fullTable.entries, e.kind ≠ .tableFull) ∧ (∃ e ∈ t.entries, e.kind = .tableFull)
          ∧ (∀ e ∈ t.entries, e.kind = .tableFull → e.condition = .active ∧ e.acknowledged = false)
          ∧ (∀ e ∈ (t.settleFull 0 0).entries, e.kind = .tableFull → e.condition = .cleared)
          ∧ (∀ e ∈ (t.ackWhere (fun x => x.index == 47) 0).entries, e.kind = .tableFull →
            e.condition = .active ∧ e.acknowledged = true)) := by decide

/-! ### Headline statements -/

theorem witness_RequestsReadBack :
    (Instr.siteAdmit 255 { anAdmit with slotBase := .explicit 255 }).wf = true
      ∧ (encodeRequest (.siteAdmit 255 { anAdmit with slotBase := .explicit 255 })).isSome = true
      ∧ State.reset.pending = [] ∧ State.reset.port.state = .idle ∧ State.reset.port.request = [] := by decide

/-- A queue that makes the step do something. -/
def queued (i : Instr) (s : State) : State := { s with pending := [i] }

theorem witness_StepKeepsTimebase :
    TimebaseInv (queued .epochBoundary locked) ∧ ∃ t, step (queued .epochBoundary locked) = .next t := by
  refine ⟨⟨by decide, by decide, by decide, by decide, by decide, by decide, ⟨.satA, rfl, rfl⟩, by decide, fun _ => rfl, ?_, ?_, rfl⟩,
    _, rfl⟩
  · rintro (h | h) <;> cases h
  · intro r; cases r <;> decide

theorem witness_StepKeepsSelector :
    SelectorInv (queued .selBoundary (waiting 5)) ∧ ∃ t, step (queued .selBoundary (waiting 5)) = .next t := by
  refine ⟨⟨?_, ?_, ?_, ?_, ?_, ?_, by decide, rfl⟩, _, rfl⟩
  · intro c h; cases h; decide
  · intro h; cases h
  · intro c h; cases h
  · intro c h; cases h; exact ⟨rfl, rfl, .satB, rfl, by decide, by decide⟩
  · intro h; cases h
  · intro h; cases h

/-- One record, at the last handle and the last drop. -/
def oneSite : State := queued .provisionalExpiry (withRecord (aRecord 63 15 2 10 .phaseStd 3000) State.reset)

theorem oneSite_drops (l : LinkId) (k : Nat) :
    ((oneSite.stu.dropMaps.get l)[k]?).join = if l = .l2 ∧ k = 14 then some 63 else none := by
  by_cases h : k < 15
  · have all : ∀ m ∈ LinkId.all, ∀ j < 15, ((oneSite.stu.dropMaps.get m)[j]?).join = if m = .l2 ∧ j = 14 then some 63 else none := by
      decide
    exact all l (by cases l <;> decide) k h
  · have size : (oneSite.stu.dropMaps.get l).length = 15 := by cases l <;> rfl
    rw [List.getElem?_eq_none (by omega), if_neg (by omega)]; rfl

theorem witness_StepKeepsSites : SitesInv oneSite ∧ ∃ t, step oneSite = .next t := by
  have one : oneSite.stu.records = [aRecord 63 15 2 10 .phaseStd 3000] := rfl
  have idx : oneSite.stu.index = [(0x5100003F, 63)] := rfl
  refine ⟨⟨⟨by decide, by decide, ?_, by decide, by decide, ?_, by decide, by decide, ?_, ?_⟩, ?_⟩, _, rfl⟩
  · intro h
    by_cases k : h < 64
    · have all : ∀ j < 64, (j ∈ oneSite.stu.freeHandles ↔ j < Config.maxSites ∧ ∀ r ∈ oneSite.stu.records, r.handle ≠ j) := by
        decide
      exact all h k
    · have all : ∀ j ∈ oneSite.stu.freeHandles, j < 64 := by decide
      exact ⟨fun m => absurd (all h m) k, fun m => absurd m.1 k⟩
  · intro i h
    rw [idx, one]
    simp [aRecord, SiteRecord.new, eq_comm]
  · intro l; cases l <;> rfl
  · intro l d h
    simp only [SiteTable.names, SiteTable.dropEntry, oneSite_drops, one]
    simp only [aRecord, SiteRecord.new, List.mem_singleton, exists_eq_left]
    constructor
    · rintro ⟨a, b⟩
      by_cases c : l = .l2 ∧ d - 1 = 14
      · rw [if_pos c] at b; cases b; exact ⟨c.1.symm, by omega, rfl⟩
      · rw [if_neg c] at b; cases b
    · rintro ⟨rfl, rfl, rfl⟩; exact ⟨by omega, rfl⟩
  · intro l e m
    have none' : (oneSite.link l).toStu = [] := by cases l <;> rfl
    rw [none'] at m; cases m

theorem witness_StepKeepsAlarms :
    AlarmInv (queued (.alarmScan false) alarmed).atu ∧ ∃ t, step (queued (.alarmScan false) alarmed) = .next t := by
  refine ⟨⟨by decide, by decide, by decide, by decide, ?_, by decide, by decide, by decide, by decide, ?_, by decide⟩, _, rfl⟩
  · have two : (queued (.alarmScan false) alarmed).atu.entries
        = [AlarmEntry.new 0 1 .timebase .tbHoldover .major none 0 0, lastEntry] := by decide
    rw [two]; intro e m
    rcases List.mem_cons.mp m with rfl | m
    · exact Or.inr (Or.inl rfl)
    · rcases List.mem_cons.mp m with rfl | m
      · exact Or.inr rfl
      · cases m
  · have unmarked : ∀ e ∈ (queued (.alarmScan false) alarmed).atu.entries, e.root = none := by decide
    intro e m k h; rw [unmarked e m] at h; cases h

end Sys2Proof.Tests
end

section
/-! PROOF. TB_SET_TIME (R26): taken in FREERUN, refused in every other timebase state. -/

namespace Sys2Proof.Machine

open Sys2Proof

/-! ### What the request runs -/

/-- The dispatch of TB_SET_TIME. -/
theorem exec_tbSetTime (tag : Nat) (v : Seconds) (s : State) : exec (.tbSetTime tag v) s = execTbSetTime tag v s := rfl

/-- The port IDLE and the timebase in FREERUN: the next boundary's increment will give the value named (R4, R26). -/
theorem execTbSetTime_freerun (tag : Nat) (v : Seconds) {s : State} (idle : s.port.state = .idle)
    (free : s.tb.state = .freerun) :
    execTbSetTime tag v s
      = .next (({ s with tb := { s.tb with seconds := v - 1, timeValid := true } }).respond tag .ok []) := by
  rw [execTbSetTime, request_idle idle, if_pos free]

/-- The port IDLE and the timebase in another state: the answer is all that changes (R26). -/
theorem execTbSetTime_refused (tag : Nat) (v : Seconds) {s : State} (idle : s.port.state = .idle)
    (notFree : s.tb.state ≠ .freerun) : execTbSetTime tag v s = .next (s.respond tag .badState []) := by
  rw [execTbSetTime, request_idle idle, if_neg notFree]

/-! ### The statement -/

/-- Settles O10, by the two states of the timebase that R26 tells apart: FREERUN and any other. -/
theorem tbSetTimeOutcome : Obligations.TbSetTimeOutcome := by
  intro tag v s idle
  rw [exec_tbSetTime]
  constructor
  · intro free
    exact execTbSetTime_freerun tag v idle free
  · intro notFree
    exact execTbSetTime_refused tag v idle notFree

end Sys2Proof.Machine
end

section
/-! PROOF. The verdict of a sample (R34, R35): the first failing test of the entry's kind. -/

namespace Sys2Proof.Machine

open Sys2Proof

/-! ### The time check (R35) -/

/-- The edge passes the time check: there is no time to compare with, or the declared count is the boundary's count. -/
theorem timeCheck_iff (tb : Timebase) (count : Option Seconds) :
    timeCheck tb count = true ↔ tb.timeValid = false ∨ count = some tb.seconds := by
  simp [timeCheck]

/-! ### A satellite sample (R34) -/

theorem satVerdict_declared (tb : Timebase) {info : EdgeInfo} (untracked : info.tracking ≠ some true) :
    satVerdict tb info = .declared := by
  rw [satVerdict, if_pos (by simpa using untracked)]

/-- With tracking valid the time check is all that is left. -/
theorem satVerdict_tracked (tb : Timebase) {info : EdgeInfo} (tracked : info.tracking = some true) :
    satVerdict tb info = if timeCheck tb info.declared then .acceptable else .time := by
  rw [satVerdict, if_neg (by simpa using tracked)]

theorem satVerdict_time {tb : Timebase} {info : EdgeInfo} (tracked : info.tracking = some true)
    (untimely : ¬ (tb.timeValid = false ∨ info.declared = some tb.seconds)) : satVerdict tb info = .time := by
  rw [satVerdict_tracked tb tracked, if_neg (mt (timeCheck_iff tb info.declared).mp untimely)]

theorem satVerdict_acceptable {tb : Timebase} {info : EdgeInfo} (tracked : info.tracking = some true)
    (timely : tb.timeValid = false ∨ info.declared = some tb.seconds) : satVerdict tb info = .acceptable := by
  rw [satVerdict_tracked tb tracked, if_pos ((timeCheck_iff tb info.declared).mpr timely)]

/-! ### A line sample (R34) -/

/-- A line with no level declared fails its first test. -/
theorem lineVerdict_none (set : RefSettings) : lineVerdict set none = .declared := rfl

theorem lineVerdict_declared {set : RefSettings} {l : Nat} (above : set.acceptLevel < l) :
    lineVerdict set (some l) = .declared := if_pos above

theorem lineVerdict_acceptable {set : RefSettings} {l : Nat} (within : l ≤ set.acceptLevel) :
    lineVerdict set (some l) = .acceptable := if_neg (not_lt.mpr within)

/-! ### A parent sample (R34) -/

theorem parentVerdict_declared {set : RefSettings} {info : EdgeInfo} (above : set.acceptLevel < info.quality) :
    parentVerdict set info = .declared := if_pos above

theorem parentVerdict_chain {set : RefSettings} {info : EdgeInfo} (within : info.quality ≤ set.acceptLevel)
    (deep : set.maxDepth ≤ info.depth) : parentVerdict set info = .chain := by
  rw [parentVerdict, if_neg (not_lt.mpr within), if_pos deep]

theorem parentVerdict_acceptable {set : RefSettings} {info : EdgeInfo} (within : info.quality ≤ set.acceptLevel)
    (shallow : info.depth < set.maxDepth) : parentVerdict set info = .acceptable := by
  rw [parentVerdict, if_neg (not_lt.mpr within), if_neg (not_le.mpr shallow)]

/-! ### The verdict by kind -/

/-- The two satellite inputs are judged alike. -/
theorem verdictOf_sat {r : RefId} (sat : r = .satA ∨ r = .satB) (tb : Timebase) (e : RefEntry) (info : EdgeInfo) :
    verdictOf r tb e info = satVerdict tb info := by
  rcases sat with rfl | rfl <;> rfl

/-- The two line inputs are judged alike, by the level in force. -/
theorem verdictOf_line {r : RefId} (line : r = .lineA ∨ r = .lineB) (tb : Timebase) (e : RefEntry) (info : EdgeInfo) :
    verdictOf r tb e info = lineVerdict e.settings e.declared.level := by
  rcases line with rfl | rfl <;> rfl

theorem verdictOf_parent (tb : Timebase) (e : RefEntry) (info : EdgeInfo) :
    verdictOf .parent tb e info = parentVerdict e.settings info := rfl

/-- A sample is judged against the timebase record and the entry as they stand when it is formed (R34). -/
theorem State.formed_verdict (s : State) (r : RefId) (value : Int) (info : EdgeInfo) :
    (s.formed r value info).verdict = verdictOf r s.tb (s.entry r) info := rfl

/-! ### The statement -/

/-- Settles O17, kind by kind, each test of R34 in its order. -/
theorem sampleVerdicts : Obligations.SampleVerdicts := by
  refine ⟨fun tb e info => ⟨?sat, ?line, ?parent⟩, State.formed_verdict⟩
  case sat =>
    intro r sat
    rw [verdictOf_sat sat]
    exact ⟨satVerdict_declared tb, satVerdict_time, satVerdict_acceptable⟩
  case line =>
    intro r line
    rw [verdictOf_line line]
    refine ⟨fun absent => ?_, fun l level above => ?_, fun l level within => ?_⟩
    · rw [absent, lineVerdict_none]
    · rw [level, lineVerdict_declared above]
    · rw [level, lineVerdict_acceptable within]
  case parent =>
    rw [verdictOf_parent]
    exact ⟨parentVerdict_declared, parentVerdict_chain, parentVerdict_acceptable⟩

end Sys2Proof.Machine
end

section
/-! PROOF. The quality index at a window end (R42), and WINDOW_END's use of it (R41). -/

namespace Sys2Proof.Machine

open Sys2Proof

/-! ### The rise to a higher level -/

section Rise

variable {ts : List Nat} {hy wf q : Nat}

/-- No level above q, up to n, clears its threshold: q stays. -/
theorem raisedLevel_eq_self {n : Nat} (short : ∀ k, q < k → k ≤ n → ¬ wf ≤ raisedThreshold ts hy k) :
    raisedLevel ts hy wf q n = q := by
  induction n with
  | zero => rfl
  | succ n ih =>
    have topShort : ¬ (q < n + 1 ∧ wf ≤ raisedThreshold ts hy (n + 1)) := fun ⟨above, clears⟩ =>
      short (n + 1) above le_rfl clears
    rw [raisedLevel, if_neg (by simpa using topShort)]
    exact ih fun k above upTo => short k above (upTo.trans n.le_succ)

/-- The largest level above q, up to n, that clears its threshold is the one taken. -/
theorem raisedLevel_eq_of_largest {k n : Nat} (above : q < k) (upTo : k ≤ n)
    (clears : wf ≤ raisedThreshold ts hy k) (largest : ∀ j, k < j → j ≤ n → ¬ wf ≤ raisedThreshold ts hy j) :
    raisedLevel ts hy wf q n = k := by
  induction n with
  | zero => omega
  | succ n ih =>
    rcases upTo.eq_or_lt with rfl | below
    · rw [raisedLevel, if_pos (by simp only [above, clears, decide_true, Bool.and_self])]
    · have topShort : ¬ wf ≤ raisedThreshold ts hy (n + 1) := largest (n + 1) below le_rfl
      rw [raisedLevel, if_neg (by simp [topShort])]
      exact ih (Nat.lt_succ_iff.mp below) fun j higher upTo => largest j higher (upTo.trans n.le_succ)

end Rise

/-! ### The new index -/

section Index

variable {set : RefSettings} {count wf q : Nat}

/-- A window with fewer than half of W differences has no grade. -/
theorem newQuality_few (few : count < set.window / 2) : newQuality set count wf q = 0 := if_pos few

/-- A grade falls at once to the plain level. -/
theorem newQuality_fall (enough : set.window / 2 ≤ count) (fall : plainLevel set.thresholds wf ≤ q) :
    newQuality set count wf q = plainLevel set.thresholds wf := by
  simp only [newQuality, if_neg (not_lt.mpr enough), if_pos fall]

/-- A grade rises as far as the hysteresis margin allows. -/
theorem newQuality_rise (enough : set.window / 2 ≤ count) (rise : q < plainLevel set.thresholds wf) :
    newQuality set count wf q
      = raisedLevel set.thresholds set.hysteresis wf q (plainLevel set.thresholds wf) := by
  simp only [newQuality, if_neg (not_lt.mpr enough), if_neg (not_le.mpr rise)]

end Index

/-! ### The end of a window -/

/-- A window report leaves the entry, disqualifies it for its quality, or has it qualify again (R53). -/
theorem RefEntry.windowReport_cases (e : RefEntry) :
    e.windowReport = e ∨ e.windowReport = e.disqualify .quality ∨ e.windowReport = e.qualifying := by
  cases state : e.state with
  | absent => left; simp only [RefEntry.windowReport, state]
  | qualifying => simp only [RefEntry.windowReport, state]; split <;> simp
  | qualified => simp only [RefEntry.windowReport, state]; split <;> simp
  | disqualified =>
    simp only [RefEntry.windowReport, state]
    split
    · simp
    · split <;> simp

@[simp] theorem RefEntry.windowReport_q (e : RefEntry) : e.windowReport.q = e.q := by
  rcases e.windowReport_cases with h | h | h <;> rw [h] <;> rfl

@[simp] theorem RefEntry.windowReport_wf (e : RefEntry) : e.windowReport.wf = e.wf := by
  rcases e.windowReport_cases with h | h | h <;> rw [h] <;> rfl

/-- The index after a window end is graded from the window's count, its figure and the index before (R42). -/
theorem RefEntry.endWindow_q (e : RefEntry) :
    e.endWindow.q = newQuality e.settings e.windowCount e.endWindow.wf e.q := by
  simp only [RefEntry.endWindow, RefEntry.windowReport_q, RefEntry.windowReport_wf]
  rfl

/-- The dispatch of WINDOW_END. -/
theorem exec_windowEnd (r : RefId) (s : State) : exec (.windowEnd r) s = execWindowEnd r s := rfl

/-- At W epochs, with no restart asked for, the window ends (R41). -/
theorem execWindowEnd_ends {r : RefId} {s : State} {n : Nat} (running : (s.entry r).windowEpochs = some n)
    (full : (s.entry r).settings.window ≤ n) (noRestart : (s.entry r).windowRestart = false) :
    execWindowEnd r s = .next (s.changeEntry r RefEntry.endWindow) := by
  simp only [execWindowEnd, running, if_pos (And.intro full noRestart)]

/-! ### The statement -/

/-- Settles O19, by the cases of R42: too few differences, a fall to the plain level, no rise, and a rise. -/
theorem qualityIndexUpdate : Obligations.QualityIndexUpdate := by
  refine ⟨fun set count wf q => ⟨newQuality_few, newQuality_fall, ?noRise, ?rise⟩, ?windowEnd⟩
  case noRise =>
    intro enough below none
    exact (newQuality_rise enough below).trans (raisedLevel_eq_self none)
  case rise =>
    intro k enough above upTo clears largest
    exact (newQuality_rise enough (above.trans_le upTo)).trans (raisedLevel_eq_of_largest above upTo clears largest)
  case windowEnd =>
    intro r s n running full noRestart
    refine ⟨s.changeEntry r RefEntry.endWindow, ?_, ?_⟩
    · rw [exec_windowEnd, execWindowEnd_ends running full noRestart]
    · rw [State.changeEntry_entry_same, RefEntry.endWindow_q]

end Sys2Proof.Machine
end

section
/-! PROOF. The service evaluation (R151), and the condition of a FREQ record (R152). -/

namespace Sys2Proof.Machine

open Sys2Proof

/-! ### The condition of a FREQ record (R152) -/

/-- The class sends a FREQ record to R152, whatever its budget and its previous condition. -/
theorem judge_freq (p : Published) {r : SiteRecord} (freq : r.cls = some .freq) (before : Condition) :
    judge p r before = freqCondition p := by
  rw [judge, freq]

theorem freqCondition_freerun {p : Published} (free : p.state = .freerun) : freqCondition p = .degraded :=
  if_pos (beq_iff_eq.mpr free)

theorem freqCondition_notFreerun {p : Published} (notFree : p.state ≠ .freerun) : freqCondition p = .inService :=
  if_neg (mt beq_iff_eq.mp notFree)

/-! ### The evaluation (R151) -/

/-- The dispatch of SERVICE_EVALUATION. -/
theorem exec_serviceEvaluation (older : Bool) (s : State) :
    exec (.serviceEvaluation older) s = execServiceEvaluation older s := rfl

/-- The state after an evaluation: the records are all it writes. -/
def State.evaluated (s : State) (older : Bool) : State :=
  { s with stu := { s.stu with records := s.stu.records.map (SiteRecord.evaluate (s.copyHeld older)) } }

/-- The evaluation has no refusal. -/
theorem execServiceEvaluation_next (older : Bool) (s : State) :
    execServiceEvaluation older s = .next (s.evaluated older) := rfl

/-- One copy for every record: the older or the newer of the two published (R7), as the reader holds it. -/
theorem State.copyHeld_eq (s : State) (older : Bool) :
    s.copyHeld older = if older then s.older else s.published := rfl

/-- An ACTIVE record takes the condition judged from the one it has. -/
theorem SiteRecord.evaluate_active (p : Published) {r : SiteRecord} (active : r.lifecycle = .active) :
    r.evaluate p = { r with condition := judge p r r.condition } := if_pos active

/-- A record that is not ACTIVE is not evaluated. -/
theorem SiteRecord.evaluate_notActive (p : Published) {r : SiteRecord} (notActive : r.lifecycle ≠ .active) :
    r.evaluate p = r := if_neg notActive

/-! ### The statement -/

/-- Settles O38: the evaluation record by record (R151), and R152 by the state in the copy. -/
theorem serviceEvaluationOutcome : Obligations.ServiceEvaluationOutcome := by
  refine ⟨fun older s => ⟨s.evaluated older, ?runs, rfl, ?records⟩, fun p r before => ⟨?freerun, ?other⟩⟩
  case runs =>
    rw [exec_serviceEvaluation, execServiceEvaluation_next]
  case records =>
    refine List.map_congr_left fun r _ => ?_
    by_cases active : r.lifecycle = .active
    · rw [SiteRecord.evaluate_active _ active, State.copyHeld_eq, if_pos active]
    · rw [SiteRecord.evaluate_notActive _ active, if_neg active]
  case freerun =>
    intro freq free
    rw [judge_freq p freq, freqCondition_freerun free]
  case other =>
    intro freq notFree
    rw [judge_freq p freq, freqCondition_notFreerun notFree]

end Sys2Proof.Machine
end

section
/-! PROOF. The condition of a phase record (R153): two limits, which the previous condition picks. -/

namespace Sys2Proof.Machine

open Sys2Proof

/-! ### The three bands of U -/

/-- The condition by two limits of U: IN_SERVICE up to the inner one, DEGRADED up to the outer one, UNUSABLE beyond. Every
row of R153's table has this form (the `phaseCondition` lemmas below). -/
def bandCondition (inner outer u : Nat) : Condition :=
  if u ≤ inner then .inService else if u ≤ outer then .degraded else .unusable

section Band

variable {inner outer u : Nat}

theorem bandCondition_inService (within : u ≤ inner) : bandCondition inner outer u = .inService := if_pos within

theorem bandCondition_degraded (beyond : inner < u) (within : u ≤ outer) :
    bandCondition inner outer u = .degraded := by
  rw [bandCondition, if_neg (not_le.mpr beyond), if_pos within]

theorem bandCondition_unusable (ordered : inner ≤ outer) (beyond : outer < u) :
    bandCondition inner outer u = .unusable := by
  rw [bandCondition, if_neg (not_le.mpr (ordered.trans_lt beyond)), if_neg (not_le.mpr beyond)]

/-- The three bands at once, in the form of a row of R153. -/
theorem bandCondition_row (ordered : inner ≤ outer) :
    (u ≤ inner → bandCondition inner outer u = .inService)
    ∧ (inner < u → u ≤ outer → bandCondition inner outer u = .degraded)
    ∧ (outer < u → bandCondition inner outer u = .unusable) :=
  ⟨bandCondition_inService, bandCondition_degraded, bandCondition_unusable ordered⟩

end Band

/-! ### The limits that each previous condition picks (R153) -/

section Limits

variable {p : Published} (b : Nat)

theorem phaseCondition_noTime (invalid : p.timeValid = false) (before : Condition) :
    phaseCondition p b before = .unusable := if_pos (beq_iff_eq.mpr invalid)

/-- No margin for a record that is in service or not yet judged. -/
theorem phaseCondition_noneOrInService (valid : p.timeValid = true) {before : Condition}
    (good : before = .none ∨ before = .inService) :
    phaseCondition p b before = bandCondition b (2 * b) p.uNs := by
  rcases good with rfl | rfl <;> simp [phaseCondition, bandCondition, valid]

/-- The margin on the inner limit only; the model asks for the fall beyond 2B before it grants DEGRADED. -/
theorem phaseCondition_degraded (valid : p.timeValid = true) :
    phaseCondition p b .degraded = bandCondition (b - b / 8) (2 * b) p.uNs := by
  have swapped : (if 2 * b < p.uNs then Condition.unusable else .degraded)
      = if p.uNs ≤ 2 * b then .degraded else .unusable := by
    simp only [← not_le, ite_not]
  simp [phaseCondition, bandCondition, valid, swapped]

/-- The margin on both limits. -/
theorem phaseCondition_unusable (valid : p.timeValid = true) :
    phaseCondition p b .unusable = bandCondition (b - b / 8) (2 * b - b / 8) p.uNs := by
  simp [phaseCondition, bandCondition, valid]

end Limits

/-! ### The statement -/

/-- Both phase classes are judged by R153, against the budget of the record. -/
theorem judge_phase (p : Published) {r : SiteRecord} {b : Nat} (phase : r.cls = some .phaseStd ∨ r.cls = some .phaseTight)
    (budget : r.budget = some b) (before : Condition) : judge p r before = phaseCondition p b before := by
  rcases phase with cls | cls <;> rw [judge, cls, budget] <;> rfl

/-- Settles O39, by time valid and then by the previous condition, each row of R153 as two limits of U. -/
theorem phaseConditionRule : Obligations.PhaseConditionRule := by
  intro p r b before phase budget
  dsimp only
  rw [judge_phase p phase budget]
  refine ⟨?noTime, ?noneOrInService, ?degraded, ?unusable⟩
  case noTime =>
    intro invalid
    exact phaseCondition_noTime b invalid before
  case noneOrInService =>
    intro valid good
    rw [phaseCondition_noneOrInService b valid good]
    exact bandCondition_row (by omega)
  case degraded =>
    rintro valid rfl
    rw [phaseCondition_degraded b valid]
    exact bandCondition_row (by omega)
  case unusable =>
    rintro valid rfl
    rw [phaseCondition_unusable b valid]
    exact bandCondition_row (by omega)

end Sys2Proof.Machine
end

section
/-! PROOF. What a command can write: every command answers a next state, keeps the queue, and leaves the blocks it does not name. -/

namespace Sys2Proof.Machine

open Sys2Proof

/-! ### The state a command leaves -/

/-- The state after a command. -/
def State.after (i : Instr) (s : State) : State :=
  match exec i s with
  | .next t => t
  | .fault _ => s
  | .refused _ => s

/-- No command stops the part or is refused (00_scope.md, Conventions). -/
theorem exec_next (i : Instr) (s : State) : exec i s = .next (s.after i) := by cases i <;> rfl

/-- What a command answers is the state after it. -/
theorem after_eq_of_exec {i : Instr} {s t : State} (h : exec i s = .next t) : s.after i = t :=
  Host.Outcome.next.inj ((exec_next i s).symm.trans h)

/-! ### The blocks -/

/-- The records of the part that a command may write. -/
inductive Block where
  | tb | rm | sel | stu | links | atu
  deriving DecidableEq

/-- The queue stays, and so does every block that is not among those named. -/
structure Frame (bs : List Block) (s t : State) : Prop where
  pending : t.pending = s.pending
  tb : .tb ∉ bs → t.tb = s.tb
  rm : .rm ∉ bs → t.rm = s.rm
  sel : .sel ∉ bs → t.sel = s.sel
  stu : .stu ∉ bs → t.stu = s.stu
  links : .links ∉ bs → t.links = s.links
  atu : .atu ∉ bs → t.atu = s.atu

theorem Frame.refl (bs : List Block) (s : State) : Frame bs s s :=
  ⟨rfl, fun _ => rfl, fun _ => rfl, fun _ => rfl, fun _ => rfl, fun _ => rfl, fun _ => rfl⟩

/-- A request writes what its act writes, and the port (R182, R183). -/
theorem Frame.request {bs : List Block} {act : State → State × Result × List Item} {s : State} (tag : Nat)
    (h : Frame bs s (act s).1) : Frame bs s (request tag act s) := by
  unfold Machine.request
  split
  · exact ⟨h.pending, h.tb, h.rm, h.sel, h.stu, h.links, h.atu⟩
  · exact ⟨rfl, fun _ => rfl, fun _ => rfl, fun _ => rfl, fun _ => rfl, fun _ => rfl, fun _ => rfl⟩
  · exact ⟨rfl, fun _ => rfl, fun _ => rfl, fun _ => rfl, fun _ => rfl, fun _ => rfl, fun _ => rfl⟩

/-- A request that names a link writes what its act on the link writes. -/
theorem Frame.onLink {bs : List Block} {act : LinkId → State → State × Result × List Item} {s : State} (link : Nat)
    (h : ∀ l, Frame bs s (act l s).1) : Frame bs s (onLink link act s).1 := by
  unfold Machine.onLink
  split
  · exact h _
  · exact Frame.refl _ _

/-- What a fold of an operation can write, when the operation writes no more. -/
theorem Frame.foldl {α : Type} {bs : List Block} {op : State → α → State} (h : ∀ s a, Frame bs s (op s a)) :
    ∀ (as : List α) (s : State), Frame bs s (as.foldl op s) := fun as s =>
  ⟨foldl_keeps State.pending op (fun s a => (h s a).pending) as s,
    fun k => foldl_keeps State.tb op (fun s a => (h s a).tb k) as s,
    fun k => foldl_keeps State.rm op (fun s a => (h s a).rm k) as s,
    fun k => foldl_keeps State.sel op (fun s a => (h s a).sel k) as s,
    fun k => foldl_keeps State.stu op (fun s a => (h s a).stu k) as s,
    fun k => foldl_keeps State.links op (fun s a => (h s a).links k) as s,
    fun k => foldl_keeps State.atu op (fun s a => (h s a).atu k) as s⟩

end Sys2Proof.Machine

namespace Sys2Proof

/-- The blocks that a command may write. -/
def Instr.writes : Instr → List Machine.Block
  | .coldReset _ => [.tb, .rm, .sel, .stu, .links, .atu]
  | .tbSet _ _ | .tbSetTime _ _ | .holdoverAging | .holdoverCeiling => [.tb]
  | .epochBoundary | .acquireSample | .lockedSample | .lineSample => [.tb, .rm]
  | .phaseReferencePublication => [.tb, .rm, .sel]
  | .lineReferencePublication | .selectionLostPublication => [.tb, .sel]
  | .refLookup _ _ _ | .satMessage _ _ | .satMessageLapse _ | .messageIdleTimeout _ | .lineQualityMessage _ _ => [.rm]
  | .refSet _ _ _ | .ppsEdge _ _ | .deferredEdgeSample _ | .lineClockEdge _ _ | .rmEpochAccounting | .referenceAbsent _
  | .windowEnd _ => [.rm, .sel]
  | .refForce _ _ | .refRelease _ | .selBoundary | .wtrSwitch => [.sel]
  | .parentEnrolledReport _ => [.rm, .links]
  | .parentLostReport _ | .parentFrameMeasure _ => [.rm, .sel, .links]
  | .hubSet _ _ | .siteCreate _ _ _ _ | .siteAmendGroup _ _ | .siteSuspend _ _ | .siteResume _ _ | .siteTakeCounts _ _
  | .serviceEvaluation _ => [.stu]
  | .siteAdmit _ _ | .siteAmend _ _ | .linkSet _ _ _ _ | .linkRestart _ _ | .amendmentApplication | .linkEpochBoundary _
  | .lineSenseLost _ | .deliverySlotStart _ _ _ | .exchangeWindowEnd _ _ _ _ _ | .frameGapTimeout _ | .replyFrame _ _ _ _ _
  | .enrolFrame _ _ _ _ _ | .enrolResult _ | .linkFrameDiscarded _ _ _ | .parentCallFrame _ _ _ _ _ _
  | .parentTimeFrame _ _ _ | .parentFarewellFrame _ _ _ _ _ => [.stu, .links]
  | .enrolOpen _ _ _ | .enrolClose _ _ | .linkLookup _ _ _ | .enrolWindowExpiry _ | .trainingComplete _
  | .parentSilenceExpiry _ | .lineSenseReturn _ | .callSlot _ _ | .parentEnrolSend _ | .parentReplySend _ => [.links]
  | .deviceWarmReset _ | .siteRetire _ _ _ | .provisionalExpiry | .farewellSlot _ _ => [.stu, .links, .atu]
  | .alarmAck _ _ | .alarmAckSeverity _ _ | .notifyArm _ | .notifyAck _ | .notifySet _ _ | .alarmScan _ => [.atu]
  | .writeSelect _ | .readSelect _ | .deviceIdentify _ | .tbLookup _ | .siteLookup _ _ | .siteNext _ _ | .alarmLookup _ _
  | .alarmNext _ _ => []

/-- The rows that stand for a whole request on the management port (section 10.1, log 18). -/
def Instr.isRequest : Instr → Bool
  | .hubSet .. | .deviceIdentify .. | .deviceWarmReset .. | .tbLookup .. | .tbSet .. | .tbSetTime .. | .refLookup .. | .refSet ..
  | .refForce .. | .refRelease .. | .siteCreate .. | .siteAdmit .. | .siteAmend .. | .siteAmendGroup .. | .siteSuspend ..
  | .siteResume .. | .siteRetire .. | .siteLookup .. | .siteNext .. | .siteTakeCounts .. | .enrolOpen .. | .enrolClose ..
  | .linkSet .. | .linkRestart .. | .linkLookup .. | .alarmLookup .. | .alarmNext .. | .alarmAck .. | .alarmAckSeverity ..
  | .notifyArm .. | .notifyAck .. | .notifySet .. => true
  | _ => false

end Sys2Proof

namespace Sys2Proof.Machine

open Sys2Proof

/-! ### What each command writes -/

/-- A request row writes no block beyond its own. -/
theorem request_frame {i : Instr} (s : State) (h : i.isRequest = true) : Frame i.writes s (s.after i) := by
  cases i with
  | hubSet | deviceIdentify | deviceWarmReset | tbLookup | tbSet | tbSetTime | refForce | refRelease =>
    dsimp only [State.after, exec, execHubSet, execDeviceIdentify, execDeviceWarmReset, execTbLookup, execTbSet,
      execTbSetTime, execRefForce, execRefRelease]
    refine Frame.request _ ?_
    (repeat' split) <;> constructor <;> simp [Instr.writes, State.setHub]
  | refLookup | refSet =>
    dsimp only [State.after, exec, execRefLookup, execRefSet]
    refine Frame.request _ ?_
    dsimp only [lookupPage, setReference]
    (repeat' split) <;> constructor <;> simp [Instr.writes]
  | siteSuspend | siteResume | siteTakeCounts =>
    dsimp only [State.after, exec, execSiteSuspend, execSiteResume, execSiteTakeCounts]
    refine Frame.request _ ?_
    (repeat' split) <;> constructor <;> simp [Instr.writes]
  | siteCreate | siteAmendGroup =>
    dsimp only [State.after, exec, execSiteCreate, execSiteAmendGroup]
    refine Frame.request _ ?_
    dsimp only [createSite, amendGroupRecords]
    (repeat' split) <;> constructor <;> simp [Instr.writes]
  | siteLookup | siteNext =>
    dsimp only [State.after, exec, execSiteLookup, execSiteNext, bodyOf]
    refine Frame.request _ ?_
    (repeat' split) <;> exact Frame.refl _ _
  | siteAdmit | siteAmend =>
    dsimp only [State.after, exec, execSiteAdmit, execSiteAmend]
    refine Frame.request _ ?_
    dsimp only [admitRecord, admitClaim, amendRecord, amendAct]
    (repeat' split) <;> constructor <;> simp [Instr.writes]
  | siteRetire =>
    dsimp only [State.after, exec, execSiteRetire]
    refine Frame.request _ ?_
    dsimp only [retireRecord]
    (repeat' split) <;> constructor <;> simp [Instr.writes]
  | enrolOpen | enrolClose | linkRestart | linkLookup =>
    dsimp only [State.after, exec, execEnrolOpen, execEnrolClose, execLinkRestart, execLinkLookup]
    refine Frame.request _ (Frame.onLink _ fun l => ?_)
    (repeat' split) <;> constructor <;> simp [Instr.writes]
  | linkSet =>
    dsimp only [State.after, exec, execLinkSet]
    refine Frame.request _ (Frame.onLink _ fun l => ?_)
    dsimp only [setLink]
    (repeat' split) <;> constructor <;> simp [Instr.writes]
  | alarmLookup | alarmNext | alarmAck | alarmAckSeverity | notifyArm | notifyAck | notifySet =>
    dsimp only [State.after, exec, execAlarmLookup, execAlarmNext, execAlarmAck, execAlarmAckSeverity, execNotifyArm,
      execNotifyAck, execNotifySet]
    refine Frame.request _ ?_
    dsimp only [atuAnswer, entryAnswer]
    (repeat' split) <;> constructor <;> simp [Instr.writes]
  | _ => simp [Instr.isRequest] at h

/-- A row that is no request writes no block beyond its own. -/
theorem timed_frame {i : Instr} (s : State) (h : i.isRequest = false) : Frame i.writes s (s.after i) := by
  cases i with
  | coldReset => constructor <;> simp [Instr.writes, State.after, exec, execColdReset, State.cold]
  | writeSelect | readSelect => constructor <;> simp [Instr.writes, State.after, exec, execWriteSelect, execReadSelect]
  | epochBoundary | holdoverAging | holdoverCeiling =>
    dsimp only [State.after, exec, execEpochBoundary, execHoldoverAging, execHoldoverCeiling]
    (repeat' split) <;> constructor <;> simp [Instr.writes]
  | acquireSample | lockedSample | lineSample =>
    dsimp only [State.after, exec, execAcquireSample, execLockedSample, execLineSample, State.takeSample]
    (repeat' split) <;> constructor <;> simp [Instr.writes]
  | phaseReferencePublication | lineReferencePublication | selectionLostPublication =>
    dsimp only [State.after, exec, execPhaseReferencePublication, execLineReferencePublication, execSelectionLostPublication]
    (repeat' split) <;> constructor <;> simp [Instr.writes]
  | satMessage | satMessageLapse | messageIdleTimeout | lineQualityMessage =>
    constructor <;> simp [Instr.writes, State.after, exec, execSatMessage, execSatMessageLapse, execMessageIdleTimeout, execLineQualityMessage]
  | ppsEdge | deferredEdgeSample | lineClockEdge =>
    dsimp only [State.after, exec, execPpsEdge, execDeferredEdgeSample, execLineClockEdge]
    (repeat' split) <;> constructor <;> simp [Instr.writes]
  | rmEpochAccounting =>
    have h := Frame.foldl (bs := [.rm, .sel]) (op := State.accountEntry) (fun s r => by constructor <;> simp) RefId.all s
    dsimp only [State.after, exec, execRmEpochAccounting]
    generalize RefId.all.foldl State.accountEntry s = t at h ⊢
    exact ⟨h.pending, h.tb, fun k => absurd (by simp [Instr.writes]) k, h.sel, h.stu, h.links, h.atu⟩
  | referenceAbsent | windowEnd =>
    dsimp only [State.after, exec, execReferenceAbsent, execWindowEnd]
    (repeat' split) <;> constructor <;> simp [Instr.writes]
  | parentEnrolledReport | parentLostReport | parentFrameMeasure =>
    dsimp only [State.after, exec, execParentEnrolledReport, execParentLostReport, execParentFrameMeasure]
    (repeat' split) <;> constructor <;> simp [Instr.writes]
  | selBoundary | wtrSwitch | alarmScan | serviceEvaluation =>
    constructor <;> simp [Instr.writes, State.after, exec, execSelBoundary, execWtrSwitch, execAlarmScan, execServiceEvaluation]
  | provisionalExpiry =>
    have h := Frame.foldl (bs := [.stu, .links, .atu]) (op := State.removeRecord) (fun s r => by constructor <;> simp) 
    exact ⟨(h _ _).pending, (h _ _).tb, (h _ _).rm, (h _ _).sel, fun k => absurd (by simp [Instr.writes]) k, (h _ _).links, (h _ _).atu⟩
  | amendmentApplication =>
    exact Frame.foldl (bs := [.stu, .links]) (op := State.applyAmendment) (fun s r => by constructor <;> simp)  _ _
  | linkEpochBoundary | enrolWindowExpiry | trainingComplete | parentSilenceExpiry | lineSenseLost | lineSenseReturn =>
    constructor <;> simp [Instr.writes, State.after, exec, execLinkEpochBoundary, execEnrolWindowExpiry, execTrainingComplete, execParentSilenceExpiry, execLineSenseLost, execLineSenseReturn]
  | deliverySlotStart | callSlot | farewellSlot =>
    dsimp only [State.after, exec, execDeliverySlotStart, execCallSlot, execFarewellSlot]
    (repeat' split) <;> constructor <;> simp [Instr.writes]
  | enrolResult | parentEnrolSend | parentReplySend =>
    dsimp only [State.after, exec, execEnrolResult, execParentEnrolSend, execParentReplySend]
    (repeat' split) <;> constructor <;> simp [Instr.writes]
  | exchangeWindowEnd | frameGapTimeout | linkFrameDiscarded =>
    dsimp only [State.after, exec, execExchangeWindowEnd, execFrameGapTimeout, execLinkFrameDiscarded]
    (repeat' split) <;> constructor <;> simp [Instr.writes]
  | replyFrame | enrolFrame | parentCallFrame | parentTimeFrame | parentFarewellFrame =>
    constructor <;> simp [Instr.writes, State.after, exec, execReplyFrame, execEnrolFrame, execParentCallFrame, execParentTimeFrame, execParentFarewellFrame]
  | _ => simp [Instr.isRequest] at h

/-- A command keeps the queue, and writes no block beyond its own. -/
theorem after_frame (i : Instr) (s : State) : Frame i.writes s (s.after i) := by
  cases h : i.isRequest with
  | true => exact request_frame s h
  | false => exact timed_frame s h

/-! ### A step -/

/-- A step takes the command at the front of the queue. -/
theorem step_cons {c : Instr} {rest : List Instr} {s : State} (h : s.pending = c :: rest) :
    step s = exec c { s with pending := rest } := by
  rw [step, h]

/-- With the queue empty a step acts on the request in hand (R182, log 6). -/
theorem step_inHand {s : State} {p : Instr × State} (empty : s.pending = []) (hand : s.inHand = some p) :
    step s = exec p.1 p.2 := by
  simp only [step, empty, hand]

/-- With the queue empty and nothing in hand the block idles (log 6). -/
theorem step_idle {s : State} (empty : s.pending = []) (hand : s.inHand = none) : step s = .next s := by
  simp only [step, empty, hand]

/-- In EXECUTING the request in hand is the one the port holds, for a port that is IDLE again. -/
theorem State.inHand_executing {s : State} (h : s.port.state = .executing) :
    s.inHand = (decodeRequest s.port.request).map
      (fun i => (i, { s with port := { s.port with state := .idle, request := [] } })) := by
  rw [State.inHand, h]

theorem State.inHand_notExecuting {s : State} (h : s.port.state ≠ .executing) : s.inHand = none := by
  unfold State.inHand
  split
  · exact absurd ‹_› h
  · rfl
  · rfl

/-- What a request in hand is. -/
theorem State.inHand_some {s : State} {p : Instr × State} (h : s.inHand = some p) :
    p.2 = { s with port := { s.port with state := .idle, request := [] } } := by
  by_cases e : s.port.state = .executing
  · rw [State.inHand_executing e] at h
    obtain ⟨i, -, rfl⟩ := Option.map_eq_some_iff.mp h
    rfl
  · rw [State.inHand_notExecuting e] at h
    cases h

/-- What holds whatever waits and whatever the port holds, and is kept by every command, is kept by every step. -/
theorem step_keeps {P : State → Prop} (other : ∀ s q port, P s → P { s with pending := q, port := port })
    (command : ∀ i s, P s → P (s.after i)) : ∀ s t, P s → step s = .next t → P t := by
  intro s t hs run
  cases queue : s.pending with
  | cons c rest =>
    rw [step_cons queue] at run
    rw [← after_eq_of_exec run]
    exact command c _ (other s rest s.port hs)
  | nil =>
    cases hand : s.inHand with
    | none =>
      rw [step_idle queue hand] at run
      rw [← Host.Outcome.next.inj run]
      exact hs
    | some p =>
      rw [step_inHand queue hand] at run
      rw [← after_eq_of_exec run, State.inHand_some hand]
      exact command p.1 _ (other s s.pending _ hs)

/-! ### The statements -/

/-- Settles O3: the answer of each command is the state after it, and no command writes the queue. -/
theorem everyCommandCompletes : Obligations.EveryCommandCompletes :=
  fun i s => ⟨s.after i, exec_next i s, (after_frame i s).pending⟩

/-- Settles O1. -/
theorem stepTakesFrontCommand : Obligations.StepTakesFrontCommand := fun _ _ _ h => step_cons h

/-- Settles O2, by whether a request is in hand. -/
theorem stepOnEmptyQueue : Obligations.StepOnEmptyQueue := by
  intro s empty
  refine ⟨fun notExecuting => ?none, fun executing unread => ?unread, fun i executing read => ?read⟩
  case none => exact step_idle empty (State.inHand_notExecuting notExecuting)
  case unread => exact step_idle empty (by rw [State.inHand_executing executing, unread]; rfl)
  case read => rw [step_inHand empty (by rw [State.inHand_executing executing, read]; rfl)]

end Sys2Proof.Machine
end

section
/-! PROOF. What every step keeps of the timebase: its limits, what its states imply, and U below the ceiling in HOLDOVER and FREQ_HOLD. -/

namespace Sys2Proof.Machine

open Sys2Proof

/-! ### The invariant in three parts -/

/-- The figures of the timebase record within their limits (section 1.1), and no aging count waiting (R21). -/
structure Timebase.Limits (tb : Timebase) : Prop where
  uCapped : tb.u ≤ Config.uCapPs
  fWithin : -Config.fLimit ≤ tb.f ∧ tb.f ≤ Config.fLimit
  runWithin : tb.inLock ≤ 64
  learningWithin : tb.learning ≤ Config.countMax
  gWithin : tb.g ≤ Config.countMax
  agingWithin : tb.aging ≤ Config.countMax
  epochsWithin : tb.holdoverEpochs ≤ Config.countMax
  g0Within : tb.settings.g0 ≤ Config.countMax
  agingCompared : tb.agingDue = false

/-- What the state says of time valid, of the selection and of e (sections 1.3 and 1.5). -/
structure Timebase.Agrees (tb : Timebase) : Prop where
  untimed : tb.timeValid = false → tb.state = .freerun
  selection : tb.state.allowsSelected tb.selected
  steering : tb.steered = tb.selected.isSome
  residual : tb.state.follows → tb.e.isSome = true

/-- In HOLDOVER and FREQ_HOLD U is below the ceiling (R22). -/
def Timebase.Below (tb : Timebase) : Prop := tb.state.holds → nsOf tb.u < tb.settings.ceiling

/-- The base uncertainty settings within their range (R46). -/
def State.BasesWithin (s : State) : Prop := ∀ r, (s.entry r).settings.baseUncertainty ≤ 10000

theorem timebaseInv_iff {s : State} :
    TimebaseInv s ↔ s.tb.Limits ∧ s.tb.Agrees ∧ s.tb.Below ∧ s.BasesWithin := by
  constructor
  · intro h
    obtain ⟨learning, g, aging, epochs⟩ := h.countsWithin
    exact ⟨⟨h.uCapped, h.fWithin, h.runWithin, learning, g, aging, epochs, h.g0Within, h.agingCompared⟩,
      ⟨h.untimed, h.selection, h.steering, h.residual⟩, h.belowCeiling, h.basesWithin⟩
  · rintro ⟨limits, agrees, below, bases⟩
    exact ⟨limits.uCapped, limits.fWithin, limits.runWithin,
      ⟨limits.learningWithin, limits.gWithin, limits.agingWithin, limits.epochsWithin⟩, limits.g0Within, agrees.untimed,
      agrees.selection, agrees.steering, agrees.residual, below, bases, limits.agingCompared⟩

/-- The invariant reads the timebase record and the base uncertainties. -/
theorem TimebaseInv.of_same {s t : State} (h : TimebaseInv s) (tb : t.tb = s.tb)
    (bases : ∀ r, (t.entry r).settings = (s.entry r).settings) : TimebaseInv t := by
  rw [timebaseInv_iff] at h ⊢
  obtain ⟨limits, agrees, below, within⟩ := h
  rw [tb]
  exact ⟨limits, agrees, below, fun r => (bases r).symm ▸ within r⟩

/-! ### Limits of saturating and clamped values -/

theorem inc16_le (n : Nat) : inc16 n ≤ Config.countMax := min_le_right _ _

theorem capU_le (n : Nat) : capU n ≤ Config.uCapPs := min_le_right _ _

theorem clampTo_within {limit : Int} (h : 0 ≤ limit) (x : Int) : -limit ≤ clampTo limit x ∧ clampTo limit x ≤ limit := by
  unfold clampTo
  omega

theorem steer_within (f x divisor : Int) : -Config.fLimit ≤ steer f x divisor ∧ steer f x divisor ≤ Config.fLimit :=
  clampTo_within (by decide) _

/-! ### FREERUN, HOLDOVER and FREQ_HOLD entered -/

section Entries

variable {tb : Timebase}

theorem Timebase.atCeiling_iff : tb.atCeiling = true ↔ tb.settings.ceiling ≤ nsOf tb.u := by
  simp [Timebase.atCeiling]

theorem Timebase.Limits.enterFreerun (h : tb.Limits) : tb.enterFreerun.Limits :=
  { h with uCapped := le_rfl, learningWithin := Nat.zero_le _ }

theorem Timebase.Limits.enterFreqHold (h : tb.Limits) : tb.enterFreqHold.Limits := by
  unfold Timebase.enterFreqHold
  split
  · exact h.enterFreerun
  · exact { h with }

theorem Timebase.Limits.enterHoldover (h : tb.Limits) : tb.enterHoldover.Limits := by
  unfold Timebase.enterHoldover
  split
  · exact h.enterFreerun
  · exact { h with gWithin := h.g0Within, agingWithin := Nat.zero_le _, epochsWithin := Nat.zero_le _, agingCompared := rfl }

theorem Timebase.Limits.ceilingCheck (h : tb.Limits) : tb.ceilingCheck.Limits := by
  unfold Timebase.ceilingCheck
  (repeat' split) <;> first | exact h | exact h.enterFreerun

theorem Timebase.below_enterFreerun : tb.enterFreerun.Below := by
  rintro (h | h) <;> cases h

/-- Entry into FREQ_HOLD tells its state: the one asked for with U below the ceiling, or FREERUN. -/
theorem Timebase.enterFreqHold_cases :
    tb.enterFreqHold = tb.enterFreerun
    ∨ (tb.enterFreqHold = { tb with state := .freqHold } ∧ nsOf tb.u < tb.settings.ceiling) := by
  by_cases full : tb.atCeiling = true
  · left; rw [Timebase.enterFreqHold, if_pos full]
  · right; rw [Timebase.enterFreqHold, if_neg full]
    exact ⟨rfl, not_le.mp (mt Timebase.atCeiling_iff.mpr full)⟩

/-- Entry into HOLDOVER likewise. -/
theorem Timebase.enterHoldover_cases :
    tb.enterHoldover = tb.enterFreerun
    ∨ (tb.enterHoldover = { tb with state := .holdover, g := tb.settings.g0, holdoverEpochs := 0, aging := 0, agingDue := false }
      ∧ nsOf tb.u < tb.settings.ceiling) := by
  by_cases full : tb.atCeiling = true
  · left; rw [Timebase.enterHoldover, if_pos full]
  · right; rw [Timebase.enterHoldover, if_neg full]
    exact ⟨rfl, not_le.mp (mt Timebase.atCeiling_iff.mpr full)⟩

/-- The ceiling check leaves the record, or sends HOLDOVER or FREQ_HOLD to FREERUN; U is below the ceiling after it. -/
theorem Timebase.ceilingCheck_cases :
    (tb.ceilingCheck = tb ∧ tb.Below) ∨ (tb.ceilingCheck = tb.enterFreerun ∧ tb.state.holds) := by
  have stays (notHolds : ¬ tb.state.holds) : tb.Below := fun holds => absurd holds notHolds
  cases state : tb.state with
  | freerun => left; exact ⟨by rw [Timebase.ceilingCheck, state], stays (by simp [TbState.holds, state])⟩
  | acquire => left; exact ⟨by rw [Timebase.ceilingCheck, state], stays (by simp [TbState.holds, state])⟩
  | locked => left; exact ⟨by rw [Timebase.ceilingCheck, state], stays (by simp [TbState.holds, state])⟩
  | freqHold =>
    by_cases full : tb.atCeiling = true
    · right; exact ⟨by simp only [Timebase.ceilingCheck, state, if_pos full], .inr rfl⟩
    · left; exact ⟨by simp only [Timebase.ceilingCheck, state, if_neg full],
        fun _ => not_le.mp (mt Timebase.atCeiling_iff.mpr full)⟩
  | holdover =>
    by_cases full : tb.atCeiling = true
    · right; exact ⟨by simp only [Timebase.ceilingCheck, state, if_pos full], .inl rfl⟩
    · left; exact ⟨by simp only [Timebase.ceilingCheck, state, if_neg full],
        fun _ => not_le.mp (mt Timebase.atCeiling_iff.mpr full)⟩

theorem Timebase.below_ceilingCheck : tb.ceilingCheck.Below := by
  rcases Timebase.ceilingCheck_cases (tb := tb) with ⟨same, below⟩ | ⟨free, -⟩
  · rwa [same]
  · rw [free]; exact Timebase.below_enterFreerun

/-- What HOLDOVER and FREQ_HOLD allow to be selected, FREERUN allows. -/
theorem TbState.allowsSelected_freerun {st : TbState} {sel : Option RefId} (holds : st.holds) (h : st.allowsSelected sel) :
    TbState.freerun.allowsSelected sel := by
  intro r selected
  rcases holds with rfl | rfl
  · rw [show sel = none from h] at selected; cases selected
  · obtain ⟨q, isQ, line⟩ := h
    rw [isQ] at selected
    exact Option.some.inj selected ▸ line

theorem Timebase.Agrees.ceilingCheck (h : tb.Agrees) : tb.ceilingCheck.Agrees := by
  rcases Timebase.ceilingCheck_cases (tb := tb) with ⟨same, -⟩ | ⟨free, holds⟩
  · rwa [same]
  · rw [free]
    exact ⟨fun _ => rfl, TbState.allowsSelected_freerun holds h.selection, h.steering, by rintro (h | h) <;> cases h⟩

end Entries

/-! ### A boundary -/

section Boundary

variable {tb : Timebase}

/-- A boundary's growth in HOLDOVER keeps the limits, and its aging count is compared at once (R21). -/
theorem Timebase.Limits.growHoldover (h : tb.Limits) : tb.growHoldover.Limits := by
  unfold Timebase.growHoldover Timebase.age
  rw [if_pos rfl]
  split
  · exact { h with uCapped := capU_le _, gWithin := inc16_le _, agingWithin := Nat.zero_le _, epochsWithin := inc16_le _,
                   agingCompared := rfl }
  · exact { h with uCapped := capU_le _, agingWithin := inc16_le _, epochsWithin := inc16_le _, agingCompared := rfl }

/-- U brought up to date stays at or below the cap, with a base that does (R20). -/
theorem Timebase.Limits.updateU (h : tb.Limits) {base : Nat} (within : base ≤ Config.uCapNs) (residual : Nat) :
    (tb.updateU base residual).Limits := by
  have scaled : base * 1000 ≤ Config.uCapPs := Nat.mul_le_mul_right 1000 within
  unfold Timebase.updateU
  split
  · exact { h with uCapped := scaled }
  · exact { h with uCapped := capU_le _ }
  · exact { h with uCapped := capU_le _ }
  · exact h.growHoldover
  · exact { h with uCapped := le_rfl }

/-- What is brought up to date with U: U, and in HOLDOVER what grows with it. -/
theorem Timebase.updateU_eq (base residual : Nat) :
    tb.updateU base residual = { tb with
      u := (tb.updateU base residual).u, g := (tb.updateU base residual).g, aging := (tb.updateU base residual).aging,
      agingDue := (tb.updateU base residual).agingDue, holdoverEpochs := (tb.updateU base residual).holdoverEpochs } := by
  unfold Timebase.updateU
  split
  · rfl
  · rfl
  · rfl
  · unfold Timebase.growHoldover Timebase.age
    rw [if_pos rfl]
    split <;> rfl
  · rfl

theorem Timebase.Agrees.updateU (h : tb.Agrees) (base residual : Nat) : (tb.updateU base residual).Agrees := by
  rw [Timebase.updateU_eq]
  exact { h with }

theorem Timebase.Limits.count (h : tb.Limits) : tb.count.Limits := by
  refine { h with learningWithin := ?_ }
  show (if tb.state = .locked then inc16 tb.learning else tb.learning) ≤ Config.countMax
  split
  · exact inc16_le _
  · exact h.learningWithin

theorem Timebase.Agrees.count (h : tb.Agrees) : tb.count.Agrees := { h with }

theorem Timebase.Limits.boundary (h : tb.Limits) {base : Nat} (within : base ≤ Config.uCapNs) (residual : Nat) :
    (tb.boundary base residual).Limits := { (h.count.updateU within residual).ceilingCheck with }

theorem Timebase.Agrees.boundary (h : tb.Agrees) (base residual : Nat) : (tb.boundary base residual).Agrees :=
  { (h.count.updateU base residual).ceilingCheck with }

theorem Timebase.below_boundary (base residual : Nat) : (tb.boundary base residual).Below :=
  Timebase.below_ceilingCheck (tb := tb.count.updateU base residual)

end Boundary

theorem unstatedNs_le (boundary : Nat) : unstatedNs boundary ≤ Config.uCapNs := min_le_right _ _

/-- The base uncertainty never exceeds the cap (R19). -/
theorem baseNs_le {s : State} (h : s.BasesWithin) : baseNs s ≤ Config.uCapNs := by
  have small (r : RefId) : (s.entry r).settings.baseUncertainty ≤ Config.uCapNs := (h r).trans (by decide)
  unfold baseNs
  split
  · exact small _
  · exact small _
  · split
    · exact min_le_right _ _
    · exact unstatedNs_le _
  all_goals exact unstatedNs_le _

/-- What the RM keeps of an entry at a boundary leaves its settings. -/
theorem State.makeBoundary_settings (s : State) (r : RefId) : (s.makeBoundary.entry r).settings = (s.entry r).settings := by
  cases r <;> rfl

theorem TimebaseInv.makeBoundary {s : State} (h : TimebaseInv s) : TimebaseInv s.makeBoundary := by
  rw [timebaseInv_iff] at h ⊢
  obtain ⟨limits, agrees, -, bases⟩ := h
  have cap : baseNs (s.advance s.clock.nextAt) ≤ Config.uCapNs := baseNs_le bases
  exact ⟨limits.boundary cap _, agrees.boundary _ _, Timebase.below_boundary _ _,
    fun r => (s.makeBoundary_settings r).symm ▸ bases r⟩

theorem TimebaseInv.boundaryIfPassed {s : State} (h : TimebaseInv s) (step : Int) : TimebaseInv (s.boundaryIfPassed step) := by
  unfold State.boundaryIfPassed
  split
  · exact (h.of_same (t := { s with clock := { s.clock with nextAt := s.clock.now } }) rfl fun _ => rfl).makeBoundary
  · exact h

/-! ### Samples -/

section Samples

variable {tb : Timebase}

theorem Timebase.Limits.followSample (h : tb.Limits) (divisor sample : Int) : (tb.followSample divisor sample).Limits :=
  { h with fWithin := steer_within _ _ _ }

theorem Timebase.Agrees.followSample (h : tb.Agrees) (divisor sample : Int) : (tb.followSample divisor sample).Agrees :=
  { h with residual := fun _ => rfl }

/-- In ACQUIRE the run counts to 64 at most, and LOCKED keeps what ACQUIRE says (R9). -/
theorem Timebase.Limits.acquireSample (h : tb.Limits) (sample : Int) : (tb.acquireSample sample).Limits := by
  refine { h.followSample 16 sample with runWithin := ?_ }
  show (if sample.natAbs ≤ tb.settings.lockThreshold then min (tb.inLock + 1) 64 else 0) ≤ 64
  split
  · exact min_le_right _ _
  · exact Nat.zero_le _

theorem Timebase.acquireSample_state (acquire : tb.state = .acquire) (sample : Int) :
    (tb.acquireSample sample).state = .acquire ∨ (tb.acquireSample sample).state = .locked := by
  let run := if sample.natAbs ≤ tb.settings.lockThreshold then min (tb.inLock + 1) 64 else 0
  by_cases reached : tb.settings.lockCount ≤ run
  · exact .inr (if_pos reached)
  · exact .inl ((if_neg reached).trans acquire)

/-- A state that follows a phase reference: what both of its kinds ask for. -/
theorem Timebase.Agrees.of_follows {tb' : Timebase} (h : tb.Agrees) (was : tb.state.follows) (is : tb'.state.follows)
    (timeValid : tb'.timeValid = tb.timeValid) (selected : tb'.selected = tb.selected) (steered : tb'.steered = tb.steered)
    (e : tb'.e.isSome = true) : tb'.Agrees := by
  have timed : tb.timeValid = true := by
    by_contra invalid
    have free := h.untimed (Bool.eq_false_iff.mpr invalid)
    rcases was with k | k <;> rw [k] at free <;> cases free
  have phase : ∃ r, tb.selected = some r ∧ r.isPhase = true := by
    have allowed := h.selection
    rcases was with k | k <;> rw [k] at allowed <;> exact allowed
  refine ⟨fun invalid => ?_, ?_, by rw [steered, selected, h.steering], fun _ => e⟩
  · rw [timeValid, timed] at invalid; cases invalid
  · rw [selected]; rcases is with k | k <;> rw [k] <;> exact phase

theorem Timebase.below_of_follows (h : tb.state.follows) : tb.Below := by
  rintro (k | k) <;> rcases h with j | j <;> rw [j] at k <;> cases k

theorem Timebase.Limits.lockedSample (h : tb.Limits) (sample : Int) : (tb.lockedSample sample).Limits := by
  unfold Timebase.lockedSample Timebase.checkUnlock
  split
  · exact { h.followSample 64 sample with runWithin := Nat.zero_le _ }
  · exact h.followSample 64 sample

theorem Timebase.lockedSample_state (locked : tb.state = .locked) (sample : Int) : (tb.lockedSample sample).state.follows := by
  unfold Timebase.lockedSample Timebase.checkUnlock
  split
  · exact .inl rfl
  · exact .inr locked

theorem Timebase.lockedSample_kept (sample : Int) :
    (tb.lockedSample sample).timeValid = tb.timeValid ∧ (tb.lockedSample sample).selected = tb.selected
    ∧ (tb.lockedSample sample).steered = tb.steered ∧ (tb.lockedSample sample).e = some sample := by
  unfold Timebase.lockedSample Timebase.checkUnlock
  split <;> exact ⟨rfl, rfl, rfl, rfl⟩

end Samples

/-- The offers taken leave the settings. -/
theorem State.ignoreOthers_settings (s : State) (r : RefId) : (s.ignoreOthers.entry r).settings = (s.entry r).settings := by
  cases r <;> simp only [State.ignoreOthers, State.entry, PerRef.get] <;> split <;> rfl

theorem TimebaseInv.ignoreOthers {s : State} (h : TimebaseInv s) : TimebaseInv s.ignoreOthers :=
  h.of_same rfl s.ignoreOthers_settings

/-- A change of an entry that leaves its settings. -/
theorem State.updEntry_settings {f : RefEntry → RefEntry} (keeps : ∀ e, (f e).settings = e.settings) (s : State) (q r : RefId) :
    ((s.updEntry q f).entry r).settings = (s.entry r).settings := by
  by_cases h : r = q
  · subst h; rw [State.updEntry_entry_same, keeps]
  · rw [State.updEntry_entry_other _ _ h]

theorem State.phaseSample_settings (s : State) (r q : RefId) (v : Int) (act : Int → Timebase → Timebase) :
    ((s.phaseSample r v act).entry q).settings = (s.entry q).settings := State.updEntry_settings (by intro; rfl) _ r q

theorem State.lineSample_settings (s : State) (r q : RefId) (v : Int) :
    ((s.lineSample r v).entry q).settings = (s.entry q).settings := State.updEntry_settings (by intro; rfl) _ r q

/-- A phase sample taken by an act that keeps the record sound. -/
theorem TimebaseInv.phaseSample {s : State} {act : Int → Timebase → Timebase} {v : Int} (h : TimebaseInv s) (r : RefId)
    (limits : (act v s.tb).Limits) (agrees : (act v s.tb).Agrees) (below : (act v s.tb).Below) :
    TimebaseInv (s.phaseSample r v act) := by
  obtain ⟨-, -, -, bases⟩ := timebaseInv_iff.mp h
  refine timebaseInv_iff.mpr ⟨limits, agrees, below, fun q => ?_⟩
  rw [State.phaseSample_settings]
  exact bases q

theorem TimebaseInv.acquired {s : State} (h : TimebaseInv s) (acquire : s.tb.state = .acquire) (r : RefId) (v : Int) :
    TimebaseInv (s.phaseSample r v Timebase.acquireSample) := by
  obtain ⟨limits, agrees, -, -⟩ := timebaseInv_iff.mp h
  have follows := Timebase.acquireSample_state acquire v
  exact h.phaseSample r (limits.acquireSample v) (agrees.of_follows (.inl acquire) follows rfl rfl rfl rfl)
    (Timebase.below_of_follows follows)

theorem TimebaseInv.lockedSampled {s : State} (h : TimebaseInv s) (locked : s.tb.state = .locked) (r : RefId) (v : Int) :
    TimebaseInv (s.phaseSample r v Timebase.lockedSample) := by
  obtain ⟨limits, agrees, -, -⟩ := timebaseInv_iff.mp h
  have follows := Timebase.lockedSample_state locked v
  obtain ⟨timeValid, selected, steered, e⟩ := Timebase.lockedSample_kept (tb := s.tb) v
  exact h.phaseSample r (limits.lockedSample v)
    (agrees.of_follows (.inr locked) follows timeValid selected steered (by rw [e]; rfl)) (Timebase.below_of_follows follows)

theorem TimebaseInv.lineSample {s : State} (h : TimebaseInv s) (r : RefId) (v : Int) : TimebaseInv (s.lineSample r v) := by
  obtain ⟨limits, agrees, below, bases⟩ := timebaseInv_iff.mp h
  refine timebaseInv_iff.mpr ⟨{ limits with fWithin := steer_within _ _ _ }, { agrees with }, below, fun q => ?_⟩
  rw [State.lineSample_settings]
  exact bases q

/-- A sample row keeps what the offers taken and its act keep. -/
theorem State.takeSample_keeps {P : State → Prop} {s : State} {phase : Bool} {act : RefId → Int → State → State}
    (ignored : P s.ignoreOthers) (acted : ∀ r v, P (act r v s.ignoreOthers)) : P (s.takeSample phase act) := by
  unfold State.takeSample
  dsimp only
  split
  · exact acted _ _
  · exact ignored

/-! ### Publications -/

theorem TimebaseInv.popPublication {s : State} (h : TimebaseInv s) : TimebaseInv s.popPublication := h.of_same rfl fun _ => rfl

/-- An entry without a last sample gives no action (R14). -/
theorem State.takePhase_noSample {s : State} {r : RefId} (last : (s.entry r).lastSample = none) : s.takePhase r = s := by
  simp only [State.takePhase, last]

/-- With time valid the reference is acquired (R14). -/
theorem State.takePhase_timed {s : State} {r : RefId} {e : Int} (last : (s.entry r).lastSample = some e)
    (timed : s.tb.timeValid = true) : s.takePhase r = { s with tb := s.tb.acquire r e } := by
  simp only [State.takePhase, last, timed]

/-- With time not valid the time is loaded, and a boundary put in the past is made at once (R13, log 4). -/
theorem State.takePhase_load {s : State} {r : RefId} {e : Int} {c : Seconds} (last : (s.entry r).lastSample = some e)
    (untimed : s.tb.timeValid = false) (declared : (s.entry r).lastDeclared = some c) :
    s.takePhase r = ({ s with tb := s.tb.loadTime r e c (s.entry r).lastAge, clock := s.clock.moveNext e } : State).boundaryIfPassed e := by
  simp only [State.takePhase, last, untimed, declared]

theorem State.takePhase_undeclared {s : State} {r : RefId} {e : Int} (last : (s.entry r).lastSample = some e)
    (untimed : s.tb.timeValid = false) (declared : (s.entry r).lastDeclared = none) : s.takePhase r = s := by
  simp only [State.takePhase, last, untimed, declared]

/-- A phase reference is followed from ACQUIRE on, with time valid and its residual (R13, R14). -/
theorem TimebaseInv.takePhase {s : State} (h : TimebaseInv s) {r : RefId} (phase : r.isPhase = true) :
    TimebaseInv (s.takePhase r) := by
  obtain ⟨limits, agrees, -, bases⟩ := timebaseInv_iff.mp h
  have following {tb : Timebase} (acquire : tb.state = .acquire) : tb.Below := Timebase.below_of_follows (.inl acquire)
  cases last : (s.entry r).lastSample with
  | none => rw [State.takePhase_noSample last]; exact h
  | some e =>
    cases timed : s.tb.timeValid with
    | true =>
      rw [State.takePhase_timed last timed]
      have acquired : (s.tb.acquire r e).Agrees :=
        ⟨fun invalid => absurd (timed.symm.trans invalid) (by decide), ⟨r, rfl, phase⟩, rfl, fun _ => rfl⟩
      have below : (s.tb.acquire r e).Below := following rfl
      exact timebaseInv_iff.mpr ⟨{ limits with runWithin := Nat.zero_le _ }, acquired, below, bases⟩
    | false =>
      cases declared : (s.entry r).lastDeclared with
      | none => rw [State.takePhase_undeclared last timed declared]; exact h
      | some c =>
        rw [State.takePhase_load last timed declared]
        have loaded : (s.tb.loadTime r e c (s.entry r).lastAge).Agrees :=
          ⟨fun invalid => (nomatch invalid), ⟨r, rfl, phase⟩, rfl, fun _ => rfl⟩
        have below : (s.tb.loadTime r e c (s.entry r).lastAge).Below := following rfl
        have inv : TimebaseInv { s with tb := s.tb.loadTime r e c (s.entry r).lastAge, clock := s.clock.moveNext e } :=
          timebaseInv_iff.mpr ⟨{ limits with runWithin := Nat.zero_le _ }, loaded, below, bases⟩
        exact inv.boundaryIfPassed e

section Publications

variable {tb : Timebase}

theorem Timebase.Limits.follow (h : tb.Limits) (r : RefId) : (tb.follow r).Limits := { h with runWithin := Nat.zero_le _ }

theorem Timebase.Limits.unfollow (h : tb.Limits) : tb.unfollow.Limits := { h with runWithin := Nat.zero_le _ }

/-- A record that is not in FREERUN has time valid. -/
theorem Timebase.Agrees.timed (h : tb.Agrees) (notFree : tb.state ≠ .freerun) : tb.timeValid = true := by
  by_contra invalid
  exact notFree (h.untimed (Bool.eq_false_iff.mpr invalid))

/-- FREERUN agrees with any selection that is no phase reference. -/
theorem Timebase.agrees_freerun (state : tb.state = .freerun) (line : ∀ r, tb.selected = some r → r.isPhase = false)
    (steered : tb.steered = tb.selected.isSome) : tb.Agrees := by
  refine ⟨fun _ => state, by rw [state]; exact line, steered, ?_⟩
  rw [state]
  rintro (h | h) <;> cases h

/-- FREQ_HOLD agrees with a LINE reference selected, with time valid. -/
theorem Timebase.agrees_freqHold (state : tb.state = .freqHold) (timed : tb.timeValid = true) {r : RefId}
    (selected : tb.selected = some r) (line : r.isPhase = false) (steered : tb.steered = true) : tb.Agrees := by
  refine ⟨fun invalid => absurd (timed.symm.trans invalid) (by decide), ?_, by rw [steered, selected]; rfl, ?_⟩
  · rw [state]; exact ⟨r, selected, line⟩
  · rw [state]; rintro (h | h) <;> cases h

/-- HOLDOVER agrees with none selected, with time valid. -/
theorem Timebase.agrees_holdover (state : tb.state = .holdover) (timed : tb.timeValid = true)
    (selected : tb.selected = none) (steered : tb.steered = false) : tb.Agrees := by
  refine ⟨fun invalid => absurd (timed.symm.trans invalid) (by decide), by rw [state]; exact selected,
    by rw [steered, selected]; rfl, ?_⟩
  rw [state]
  rintro (h | h) <;> cases h

/-- A LINE reference is followed in FREQ_HOLD, or in FREERUN (R15). -/
theorem Timebase.takeLine_cases (r : RefId) :
    (tb.takeLine r = tb.enterFreqHold.follow r ∧ tb.state ≠ .freerun)
    ∨ (tb.takeLine r = tb.follow r ∧ (tb.state = .freqHold ∨ tb.state = .freerun)) := by
  unfold Timebase.takeLine
  cases tb.state <;> simp

theorem Timebase.Agrees.takeLine (h : tb.Agrees) {r : RefId} (line : r.isPhase = false) : (tb.takeLine r).Agrees := by
  have isLine : ∀ q, some r = some q → q.isPhase = false := fun q e => Option.some.inj e ▸ line
  rcases Timebase.takeLine_cases (tb := tb) r with ⟨e, notFree⟩ | ⟨e, hold | free⟩ <;> rw [e]
  · rcases Timebase.enterFreqHold_cases (tb := tb) with k | ⟨k, -⟩ <;> rw [k]
    · exact Timebase.agrees_freerun rfl isLine rfl
    · exact Timebase.agrees_freqHold rfl (h.timed notFree) rfl line rfl
  · exact Timebase.agrees_freqHold hold (h.timed (by rw [hold]; decide)) rfl line rfl
  · exact Timebase.agrees_freerun free isLine rfl

theorem Timebase.Limits.takeLine (h : tb.Limits) (r : RefId) : (tb.takeLine r).Limits := by
  rcases Timebase.takeLine_cases (tb := tb) r with ⟨e, -⟩ | ⟨e, -⟩ <;> rw [e]
  · exact h.enterFreqHold.follow r
  · exact h.follow r

theorem Timebase.Below.takeLine (h : tb.Below) (r : RefId) : (tb.takeLine r).Below := by
  rcases Timebase.takeLine_cases (tb := tb) r with ⟨e, -⟩ | ⟨e, -⟩ <;> rw [e]
  · rcases Timebase.enterFreqHold_cases (tb := tb) with k | ⟨k, below⟩ <;> rw [k]
    · exact Timebase.below_enterFreerun (tb := tb)
    · exact fun _ => below
  · exact h

/-- A selection of none loses what was followed, but in HOLDOVER and FREERUN keeps the state (R16). -/
theorem Timebase.takeNone_cases :
    (tb.takeNone = tb.loseSelection.unfollow ∧ tb.state ≠ .freerun)
    ∨ (tb.takeNone = tb.unfollow ∧ (tb.state = .holdover ∨ tb.state = .freerun)) := by
  unfold Timebase.takeNone
  cases tb.state <;> simp

theorem Timebase.loseSelection_cases : tb.loseSelection = tb.enterHoldover ∨ tb.loseSelection = tb.enterFreerun := by
  unfold Timebase.loseSelection
  split
  · exact .inl rfl
  · exact .inr rfl

theorem Timebase.Agrees.takeNone (h : tb.Agrees) : tb.takeNone.Agrees := by
  have noneLine : ∀ q : RefId, (none : Option RefId) = some q → q.isPhase = false := fun _ e => by cases e
  rcases Timebase.takeNone_cases (tb := tb) with ⟨e, notFree⟩ | ⟨e, hold | free⟩ <;> rw [e]
  · rcases Timebase.loseSelection_cases (tb := tb) with k | k <;> rw [k]
    · rcases Timebase.enterHoldover_cases (tb := tb) with j | ⟨j, -⟩ <;> rw [j]
      · exact Timebase.agrees_freerun rfl noneLine rfl
      · exact Timebase.agrees_holdover rfl (h.timed notFree) rfl rfl
    · exact Timebase.agrees_freerun rfl noneLine rfl
  · exact Timebase.agrees_holdover hold (h.timed (by rw [hold]; decide)) rfl rfl
  · exact Timebase.agrees_freerun free noneLine rfl

theorem Timebase.Limits.takeNone (h : tb.Limits) : tb.takeNone.Limits := by
  rcases Timebase.takeNone_cases (tb := tb) with ⟨e, -⟩ | ⟨e, -⟩ <;> rw [e]
  · rcases Timebase.loseSelection_cases (tb := tb) with k | k <;> rw [k]
    · exact h.enterHoldover.unfollow
    · exact h.enterFreerun.unfollow
  · exact h.unfollow

theorem Timebase.Below.takeNone (h : tb.Below) : tb.takeNone.Below := by
  rcases Timebase.takeNone_cases (tb := tb) with ⟨e, -⟩ | ⟨e, -⟩ <;> rw [e]
  · rcases Timebase.loseSelection_cases (tb := tb) with k | k <;> rw [k]
    · rcases Timebase.enterHoldover_cases (tb := tb) with j | ⟨j, below⟩ <;> rw [j]
      · exact Timebase.below_enterFreerun (tb := tb)
      · exact fun _ => below
    · exact Timebase.below_enterFreerun (tb := tb)
  · exact h

end Publications

/-! ### Requests -/

section Requests

variable {tb : Timebase} {p : TbSetReq}

/-- The settings taken keep the limits, with a g0 within its range (R25). -/
theorem Timebase.Limits.set (h : tb.Limits) (g0 : ∀ v, p.g0 = some v → v ≤ 65535) : (tb.set p).Limits := by
  have valued : ({ tb with settings := tb.settings.withValues p } : Timebase).Limits := by
    refine { h with g0Within := ?_ }
    show p.g0.getD tb.settings.g0 ≤ Config.countMax
    cases asked : p.g0 with
    | none => exact h.g0Within
    | some v => exact g0 v asked
  unfold Timebase.set
  dsimp only
  split
  · exact valued.ceilingCheck
  · exact valued

theorem Timebase.Agrees.set (h : tb.Agrees) (p : TbSetReq) : (tb.set p).Agrees := by
  have valued : ({ tb with settings := tb.settings.withValues p } : Timebase).Agrees := { h with }
  unfold Timebase.set
  dsimp only
  split
  · exact valued.ceilingCheck
  · exact valued

/-- A ceiling asked for is compared with U at once; without one the ceiling stays (R25). -/
theorem Timebase.Below.set (h : tb.Below) (p : TbSetReq) : (tb.set p).Below := by
  unfold Timebase.set
  dsimp only
  split
  · exact Timebase.below_ceilingCheck
  · rename_i unasked
    intro holds
    have kept : (tb.settings.withValues p).ceiling = tb.settings.ceiling := by
      simp only [TbSettings.withValues, Option.not_isSome_iff_eq_none.mp unasked, Option.getD_none]
    show nsOf tb.u < (tb.settings.withValues p).ceiling
    rw [kept]
    exact h holds

end Requests

/-- A request keeps what its act and the response keep. -/
theorem request_keeps {P : State → Prop} (port : ∀ s port, P s → P { s with port := port }) {tag : Nat}
    {act : State → State × Result × List Item} {s : State} (h : P s) (acted : P (act s).1) : P (request tag act s) := by
  unfold request
  split
  · exact port _ _ acted
  · exact port _ _ h
  · exact port _ _ h

theorem TimebaseInv.port {s : State} (port : Port) (h : TimebaseInv s) : TimebaseInv { s with port := port } :=
  h.of_same rfl fun _ => rfl

theorem TimebaseInv.tbSet {s : State} (h : TimebaseInv s) (tag : Nat) (p : TbSetReq) : TimebaseInv (s.after (.tbSet tag p)) := by
  dsimp only [State.after, exec, execTbSet]
  refine request_keeps (fun _ port h => h.port port) h ?_
  split
  · rename_i accepted
    obtain ⟨limits, agrees, below, bases⟩ := timebaseInv_iff.mp h
    have g0 : ∀ v, p.g0 = some v → v ≤ 65535 := by
      simp only [tbSetAccepted, tbSetInRanges, Bool.and_eq_true] at accepted
      exact fun v asked => ((optIn_iff 0 65535 p.g0).mp accepted.1.1.1.2 v asked).2
    exact timebaseInv_iff.mpr ⟨limits.set g0, agrees.set p, below.set p, bases⟩
  · exact h

theorem TimebaseInv.tbSetTime {s : State} (h : TimebaseInv s) (tag : Nat) (v : Seconds) :
    TimebaseInv (s.after (.tbSetTime tag v)) := by
  dsimp only [State.after, exec, execTbSetTime]
  refine request_keeps (fun _ port h => h.port port) h ?_
  split
  · obtain ⟨limits, agrees, below, bases⟩ := timebaseInv_iff.mp h
    exact timebaseInv_iff.mpr ⟨{ limits with }, { agrees with untimed := fun invalid => by cases invalid }, below, bases⟩
  · exact h

/-! ### Threshold rows: with the invariant they find nothing to do -/

theorem TimebaseInv.holdoverAging {s : State} (h : TimebaseInv s) : TimebaseInv (s.after .holdoverAging) := by
  have compared : s.tb.age = s.tb := by rw [Timebase.age, h.agingCompared]; rfl
  show TimebaseInv (if s.tb.state = .holdover then { s with tb := s.tb.age } else s)
  split
  · rw [compared]; exact h
  · exact h

theorem TimebaseInv.holdoverCeiling {s : State} (h : TimebaseInv s) : TimebaseInv (s.after .holdoverCeiling) := by
  show TimebaseInv (if (s.tb.state = .holdover ∨ s.tb.state = .freqHold) ∧ s.tb.atCeiling = true then _ else s)
  rw [if_neg fun ⟨holds, full⟩ => absurd (Timebase.atCeiling_iff.mp full) (not_le.mpr (h.belowCeiling holds))]
  exact h

/-! ### Settings of entries: no command but REF_SET and COLD_RESET writes them -/

/-- The selector's act is no act on entries, so a change that keeps an entry's settings keeps them in the table. -/
theorem State.changeEntry_settings {f : RefEntry → RefEntry} (keeps : ∀ e, (f e).settings = e.settings) (s : State) (q r : RefId) :
    ((s.changeEntry q f).entry r).settings = (s.entry r).settings := by
  by_cases h : r = q
  · subst h; rw [State.changeEntry_entry_same, keeps]
  · rw [State.changeEntry_entry_other _ _ h]

@[simp] theorem RefEntry.windowReport_settings (e : RefEntry) : e.windowReport.settings = e.settings := by
  rcases e.windowReport_cases with h | h | h <;> rw [h] <;> rfl

@[simp] theorem RefEntry.endWindow_settings (e : RefEntry) : e.endWindow.settings = e.settings := by
  rw [RefEntry.endWindow, RefEntry.windowReport_settings]; rfl

theorem RefEntry.accountWindow_settings (e : RefEntry) : e.accountWindow.settings = e.settings := by
  unfold RefEntry.accountWindow
  (repeat' split) <;> simp [RefEntry.newWindow, RefEntry.keepWindow]

theorem RefEntry.epochReport_settings (had : Option SampleRec) (e : RefEntry) : (e.epochReport had).settings = e.settings := by
  unfold RefEntry.epochReport
  (repeat' split) <;> rfl

theorem RefEntry.accountEpoch_settings (r : RefId) (e : RefEntry) : (e.accountEpoch r).settings = e.settings := by
  unfold RefEntry.accountEpoch
  dsimp only
  (repeat' split) <;> first | rfl | exact RefEntry.epochReport_settings _ _

theorem RefEntry.addSquare_settings (ahead : Bool) (sq : Nat) (e : RefEntry) : (e.addSquare ahead sq).settings = e.settings := by
  unfold RefEntry.addSquare
  (repeat' split) <;> rfl

theorem RefEntry.rebase_settings (r : RefId) (m : Formed) (e : RefEntry) : (e.rebase r m).settings = e.settings := by
  unfold RefEntry.rebase
  dsimp only
  split
  · exact RefEntry.addSquare_settings _ _ _
  · rfl

theorem RefEntry.sampleReport_settings (v : Verdict) (third : Bool) (e : RefEntry) :
    (e.sampleReport v third).settings = e.settings := by
  unfold RefEntry.sampleReport
  dsimp only
  (repeat' split) <;> rfl

theorem RefEntry.dispose_settings (r : RefId) (m : Formed) (e : RefEntry) : (e.dispose r m).settings = e.settings := by
  have appeared : ((e.appear m.ahead).countOutlier m.outlier).settings = e.settings := by
    unfold RefEntry.appear; split <;> rfl
  unfold RefEntry.dispose RefEntry.note
  dsimp only
  rw [RefEntry.sampleReport_settings]
  (repeat' split) <;> simp [RefEntry.accept, RefEntry.rebase_settings, appeared]

theorem State.formSample_settings (s : State) (q r : RefId) (v : Int) (info : EdgeInfo) :
    ((s.formSample q v info).entry r).settings = (s.entry r).settings :=
  State.changeEntry_settings (fun e => RefEntry.dispose_settings _ _ e) s q r

theorem State.measureEdge_settings (s : State) (q r : RefId) (edge : Instant) (info : EdgeInfo) :
    ((s.measureEdge q edge info).entry r).settings = (s.entry r).settings := by
  unfold State.measureEdge
  (repeat' split)
  · rfl
  · rw [State.formSample_settings]; exact State.updEntry_settings (by intro; rfl) s q r
  · rfl
  · exact State.updEntry_settings (by intro; rfl) s q r
  · rfl

theorem State.accountEntry_settings (s : State) (q r : RefId) : ((s.accountEntry q).entry r).settings = (s.entry r).settings := by
  unfold State.accountEntry
  rw [State.updEntry_settings (by intro; rfl), State.changeEntry_settings RefEntry.accountWindow_settings,
    State.changeEntry_settings (RefEntry.accountEpoch_settings q)]

theorem State.accounting_settings (r : RefId) (qs : List RefId) (s : State) :
    ((qs.foldl State.accountEntry s).entry r).settings = (s.entry r).settings :=
  foldl_keeps (fun s : State => (s.entry r).settings) _ (fun s q => s.accountEntry_settings q r) qs s

theorem State.loseParent_settings (s : State) (r : RefId) : (s.loseParent.entry r).settings = (s.entry r).settings := by
  unfold State.loseParent
  dsimp only
  split
  · rw [State.updEntry_settings (by intro; rfl), State.updEntry_settings (by intro; rfl)]; rfl
  · rw [State.changeEntry_settings (by intro; rfl), State.updEntry_settings (by intro; rfl)]; rfl

theorem State.measureFrame_settings (s : State) (instant : Instant) (f : TimeFrame) (r : RefId) :
    ((s.measureFrame instant f).entry r).settings = (s.entry r).settings := by
  unfold State.measureFrame
  dsimp only
  split
  · rw [State.measureEdge_settings]; exact State.updEntry_settings (by intro; rfl) s .parent r
  · exact State.updEntry_settings (by intro; rfl) s .parent r

/-- An entry of a state whose monitor is written elsewhere. -/
theorem State.entry_of_entries {s t : State} (h : t.rm.entries = s.rm.entries) (r : RefId) : t.entry r = s.entry r := by
  rw [State.entry, h]; rfl

@[simp] theorem Monitor.setInput_entries (m : Monitor) (i : SatId) (v : SatInput) : (m.setInput i v).entries = m.entries := by
  cases i <;> rfl

@[simp] theorem Monitor.setLine_entries (m : Monitor) (i : LineId) (v : LineInput) : (m.setLine i v).entries = m.entries := by
  cases i <;> rfl

theorem State.takePulse_settings (s : State) (i : SatId) (edge : Instant) (r : RefId) :
    ((s.takePulse i edge).entry r).settings = (s.entry r).settings := by
  unfold State.takePulse
  dsimp only
  rw [State.measureEdge_settings, State.updEntry_settings (by intro; rfl), State.entry_of_entries (Monitor.setInput_entries _ _ _)]

theorem State.boundaryIfPassed_settings (s : State) (step : Int) (r : RefId) :
    ((s.boundaryIfPassed step).entry r).settings = (s.entry r).settings := by
  unfold State.boundaryIfPassed
  split
  · exact State.makeBoundary_settings _ r
  · rfl

theorem State.takePhase_settings (s : State) (q r : RefId) : ((s.takePhase q).entry r).settings = (s.entry r).settings := by
  unfold State.takePhase
  (repeat' split)
  · rfl
  · exact State.boundaryIfPassed_settings _ _ r
  · rfl
  · rfl

/-- REF_SET keeps a base uncertainty within its range (R46). -/
theorem setReference_bases {s : State} (h : s.BasesWithin) (r : RefId) (p : RefSetBody) : (setReference r p s).1.BasesWithin := by
  unfold setReference
  split
  · rename_i g
    split
    · rename_i accepted
      have asked : ∀ v, g.baseUncertainty = some v → v ≤ 10000 := by
        simp only [refGeneralInRange, Bool.and_eq_true] at accepted
        exact fun v e => ((optIn_iff 10 10000 g.baseUncertainty).mp accepted.1.1.1.2 v e).2
      intro q
      have entry : (s.setGeneral r g).entry q = (s.updEntry r (RefEntry.setGeneral g)).entry q := by
        unfold State.setGeneral; dsimp only; split
        · rw [State.selReact_entry]; rfl
        · rfl
      rw [show ((s.setGeneral r g, Result.ok, ([] : List Item)).1.entry q) = _ from entry]
      by_cases same : q = r
      · subst same
        rw [State.updEntry_entry_same]
        show g.baseUncertainty.getD (s.entry q).settings.baseUncertainty ≤ 10000
        cases e : g.baseUncertainty with
        | none => exact h q
        | some v => exact asked v e
      · rw [State.updEntry_entry_other _ _ same]; exact h q
    · exact h
  · split
    · intro q
      rename_i v _
      by_cases same : q = r
      · subst same; rw [State.updEntry_entry_same]; exact h q
      · rw [State.updEntry_entry_other _ _ same]; exact h q
    · exact h
  · exact h

end Sys2Proof.Machine

namespace Sys2Proof

/-- The commands that write the settings of an entry (R46, R190). -/
def Instr.setsReferences : Instr → Bool
  | .coldReset .. | .refSet .. => true
  | _ => false

end Sys2Proof

namespace Sys2Proof.Machine

open Sys2Proof

/-- No other command writes the settings of an entry. -/
theorem after_settings {i : Instr} (h : i.setsReferences = false) (s : State) (r : RefId) :
    ((s.after i).entry r).settings = (s.entry r).settings := by
  have unwritten (w : .rm ∉ i.writes) : ((s.after i).entry r).settings = (s.entry r).settings := by
    rw [State.entry, (after_frame i s).rm w]; rfl
  cases i with
  | refLookup tag index page =>
    refine request_keeps (P := fun t => (t.entry r).settings = (s.entry r).settings) (fun _ _ h => h) rfl ?_
    dsimp only [lookupPage]
    (repeat' split) <;> first | rfl | exact State.updEntry_settings (by intro; rfl) _ _ _
  | epochBoundary => exact s.makeBoundary_settings r
  | acquireSample =>
    dsimp only [State.after, exec, execAcquireSample]
    split
    · refine State.takeSample_keeps (P := fun t => (t.entry r).settings = _) (s.ignoreOthers_settings r) fun q v => ?_
      rw [State.boundaryIfPassed_settings, State.phaseSample_settings, State.ignoreOthers_settings]
    · exact s.ignoreOthers_settings r
  | lockedSample =>
    dsimp only [State.after, exec, execLockedSample]
    split
    · refine State.takeSample_keeps (P := fun t => (t.entry r).settings = _) (s.ignoreOthers_settings r) fun q v => ?_
      rw [State.boundaryIfPassed_settings, State.phaseSample_settings, State.ignoreOthers_settings]
    · exact s.ignoreOthers_settings r
  | lineSample =>
    dsimp only [State.after, exec, execLineSample]
    split
    · refine State.takeSample_keeps (P := fun t => (t.entry r).settings = _) (s.ignoreOthers_settings r) fun q v => ?_
      rw [State.lineSample_settings, State.ignoreOthers_settings]
    · exact s.ignoreOthers_settings r
  | phaseReferencePublication =>
    dsimp only [State.after, exec, execPhaseReferencePublication]
    (repeat' split) <;> first | rfl | exact State.takePhase_settings _ _ r
  | satMessage | satMessageLapse => exact congrArg RefEntry.settings (State.entry_of_entries (Monitor.setInput_entries _ _ _) r)
  | messageIdleTimeout line =>
    cases line
    · exact congrArg RefEntry.settings (State.entry_of_entries (Monitor.setInput_entries _ _ _) r)
    · exact congrArg RefEntry.settings (State.entry_of_entries (Monitor.setLine_entries _ _ _) r)
  | lineQualityMessage input bytes =>
    refine (State.updEntry_settings (by intro; rfl) _ _ _).trans (congrArg RefEntry.settings (State.entry_of_entries (Monitor.setLine_entries _ _ _) r))
  | ppsEdge input instant =>
    dsimp only [State.after, exec, execPpsEdge]
    split
    · rfl
    · rw [State.takePulse_settings]; rfl
  | deferredEdgeSample ref =>
    dsimp only [State.after, exec, execDeferredEdgeSample]
    have forgotten := State.updEntry_settings (f := fun e => { e with waiting := none }) (by intro; rfl) s ref r
    (repeat' split)
    · rfl
    · rfl
    · rw [State.formSample_settings]; exact forgotten
    · exact forgotten
  | lineClockEdge => 
    dsimp only [State.after, exec, execLineClockEdge]
    split
    · rw [State.formSample_settings]; exact congrArg RefEntry.settings (State.entry_of_entries (Monitor.setLine_entries _ _ _) r)
    · rfl
  | rmEpochAccounting =>
    have accounted := State.accounting_settings r RefId.all s
    dsimp only [State.after, exec, execRmEpochAccounting]
    generalize RefId.all.foldl State.accountEntry s = t at accounted ⊢
    exact accounted
  | referenceAbsent =>
    dsimp only [State.after, exec, execReferenceAbsent]
    split
    · exact State.changeEntry_settings (by intro; rfl) _ _ _
    · rfl
  | windowEnd =>
    dsimp only [State.after, exec, execWindowEnd]
    (repeat' split) <;> first | rfl | exact State.changeEntry_settings RefEntry.endWindow_settings _ _ _
  | parentEnrolledReport =>
    dsimp only [State.after, exec, execParentEnrolledReport]
    (repeat' split) <;> rfl
  | parentLostReport =>
    dsimp only [State.after, exec, execParentLostReport]
    (repeat' split) <;> first | rfl | exact State.loseParent_settings _ r
  | parentFrameMeasure =>
    dsimp only [State.after, exec, execParentFrameMeasure]
    (repeat' split) <;> first | rfl | exact State.measureFrame_settings _ _ _ r
  | coldReset | refSet => simp [Instr.setsReferences] at h
  | _ => exact unwritten (by simp [Instr.writes])

/-! ### The statement -/

theorem Timebase.limits_reset : Timebase.reset.Limits :=
  ⟨le_rfl, by decide, by decide, by decide, by decide, by decide, by decide, by decide, rfl⟩

/-- A cold reset leaves FREERUN with nothing selected, and every entry's base uncertainty at 40 ns (R1, R27). -/
theorem timebaseInv_cold (sense : PerLink Bool) (pending : List Instr) : TimebaseInv (State.cold sense pending) := by
  refine timebaseInv_iff.mpr ⟨Timebase.limits_reset, Timebase.agrees_freerun rfl (fun _ e => nomatch e) rfl,
    Timebase.below_enterFreerun (tb := Timebase.reset), fun r => ?_⟩
  have base : ((State.cold sense pending).entry r).settings.baseUncertainty = 40 := by cases r <;> rfl
  rw [base]
  decide

/-- The commands that write the timebase record keep its invariant. -/
theorem TimebaseInv.after {s : State} (h : TimebaseInv s) (i : Instr) : TimebaseInv (s.after i) := by
  have kept (tb : .tb ∉ i.writes) (settings : i.setsReferences = false) : TimebaseInv (s.after i) :=
    h.of_same ((after_frame i s).tb tb) (after_settings settings s)
  obtain ⟨limits, agrees, below, bases⟩ := timebaseInv_iff.mp h
  cases i with
  | coldReset sense => exact timebaseInv_cold sense s.pending
  | tbSet tag p => exact h.tbSet tag p
  | tbSetTime tag v => exact h.tbSetTime tag v
  | refSet tag index p =>
    refine timebaseInv_iff.mpr ?_
    rw [(after_frame (.refSet tag index p) s).tb (by simp [Instr.writes])]
    refine ⟨limits, agrees, below, request_keeps (P := State.BasesWithin) (fun _ _ h => h) bases ?_⟩
    split
    · exact bases
    · exact setReference_bases bases _ p
  | epochBoundary => exact h.makeBoundary
  | holdoverAging => exact h.holdoverAging
  | holdoverCeiling => exact h.holdoverCeiling
  | acquireSample =>
    dsimp only [State.after, exec, execAcquireSample]
    split
    · rename_i acquire
      exact State.takeSample_keeps h.ignoreOthers fun r v => (h.ignoreOthers.acquired acquire r v).boundaryIfPassed _
    · exact h.ignoreOthers
  | lockedSample =>
    dsimp only [State.after, exec, execLockedSample]
    split
    · rename_i locked
      exact State.takeSample_keeps h.ignoreOthers fun r v => (h.ignoreOthers.lockedSampled locked r v).boundaryIfPassed _
    · exact h.ignoreOthers
  | lineSample =>
    dsimp only [State.after, exec, execLineSample]
    split
    · exact State.takeSample_keeps h.ignoreOthers fun r v => h.ignoreOthers.lineSample r v
    · exact h.ignoreOthers
  | phaseReferencePublication =>
    dsimp only [State.after, exec, execPhaseReferencePublication]
    (repeat' split)
    · rename_i phase
      exact h.popPublication.takePhase phase
    all_goals exact h
  | lineReferencePublication =>
    dsimp only [State.after, exec, execLineReferencePublication]
    (repeat' split)
    · exact h
    · rename_i line
      exact timebaseInv_iff.mpr ⟨limits.takeLine _, agrees.takeLine (Bool.eq_false_iff.mpr line), below.takeLine _, bases⟩
    · exact h
    · exact h
  | selectionLostPublication =>
    dsimp only [State.after, exec, execSelectionLostPublication]
    split
    · exact timebaseInv_iff.mpr ⟨limits.takeNone, agrees.takeNone, below.takeNone, bases⟩
    · exact h
    · exact h
  | _ => exact kept (by simp [Instr.writes]) rfl

/-- Settles O56: every command keeps the three parts of the invariant, and none of them reads the queue or the port. -/
theorem stepKeepsTimebase : Obligations.StepKeepsTimebase :=
  step_keeps (P := TimebaseInv) (fun _ _ _ h => h.of_same rfl fun _ => rfl) fun i _ h => h.after i

end Sys2Proof.Machine
end

section
/-! PROOF. The selector: the best candidate, what the selector does after a change, the force, the wait to restore, and what every step keeps of it. -/

namespace Sys2Proof.Machine

open Sys2Proof

/-! ### The best candidate (R58) -/

/-- The choice among the references looked at: none without a candidate among them, else the one with the lowest priority
number, and of equals the lowest table index. -/
def State.IsBestOf (s : State) (looked : List RefId) : Option RefId → Prop
  | none => ∀ r ∈ looked, ¬ s.candidate r = true
  | some b => b ∈ looked ∧ s.candidate b = true
      ∧ ∀ r ∈ looked, s.candidate r = true → s.priority b < s.priority r ∨ (s.priority b = s.priority r ∧ b.index ≤ r.index)

/-- One reference more, later in the table than those looked at. -/
theorem State.IsBestOf.betterOf {s : State} {looked : List RefId} {found : Option RefId} {r : RefId}
    (h : s.IsBestOf looked found) (later : ∀ q ∈ looked, q.index < r.index) :
    s.IsBestOf (looked ++ [r]) (s.betterOf found r) := by
  by_cases isCandidate : s.candidate r = true
  · cases found with
    | none =>
      rw [State.betterOf, if_pos isCandidate]
      refine ⟨by simp, isCandidate, fun q m candidate => ?_⟩
      rcases List.mem_append.mp m with m | m
      · exact absurd candidate (h q m)
      · rw [List.mem_singleton.mp m]; exact .inr ⟨rfl, le_rfl⟩
    | some b =>
      obtain ⟨mb, cb, best⟩ := h
      rw [State.betterOf, if_pos isCandidate]
      split
      · rename_i lower
        refine ⟨by simp, isCandidate, fun q m candidate => ?_⟩
        rcases List.mem_append.mp m with m | m
        · have := best q m candidate; omega
        · rw [List.mem_singleton.mp m]; exact .inr ⟨rfl, le_rfl⟩
      · rename_i notLower
        refine ⟨List.mem_append_left _ mb, cb, fun q m candidate => ?_⟩
        rcases List.mem_append.mp m with m | m
        · exact best q m candidate
        · have := later b mb
          rw [List.mem_singleton.mp m]; omega
  · have same : s.betterOf found r = found := if_neg isCandidate
    rw [same]
    cases found with
    | none =>
      intro q m
      rcases List.mem_append.mp m with m | m
      · exact h q m
      · rw [List.mem_singleton.mp m]; exact isCandidate
    | some b =>
      obtain ⟨mb, cb, best⟩ := h
      refine ⟨List.mem_append_left _ mb, cb, fun q m candidate => ?_⟩
      rcases List.mem_append.mp m with m | m
      · exact best q m candidate
      · rw [List.mem_singleton.mp m] at candidate; exact absurd candidate isCandidate

theorem State.isBestOf_foldl (s : State) (looked : List RefId) (ordered : looked.Pairwise (fun a b => a.index < b.index)) :
    s.IsBestOf looked (looked.foldl s.betterOf none) := by
  induction looked using List.reverseRecOn with
  | nil => exact fun r m => absurd m (by simp)
  | append_singleton looked r ih =>
    rw [List.foldl_append]
    obtain ⟨before, -, later⟩ := List.pairwise_append.mp ordered
    exact (ih before).betterOf fun q m => later q m r (by simp)

theorem State.isBestOf_best (s : State) : s.IsBestOf RefId.all s.best := s.isBestOf_foldl RefId.all (by decide)

theorem RefId.index_injective {a b : RefId} (h : a.index = b.index) : a = b :=
  Option.some.inj ((RefId.ofIndex_index a).symm.trans ((congrArg RefId.ofIndex h).trans (RefId.ofIndex_index b)))

/-- There is a best candidate just where there is a candidate. -/
theorem State.best_none {s : State} : s.best = none ↔ ∀ r, ¬ s.candidate r = true := by
  have best := s.isBestOf_best
  constructor
  · intro h r
    rw [h] at best
    exact best r (RefId.mem_all r)
  · intro h
    cases b : s.best with
    | none => rfl
    | some r =>
      rw [b] at best
      exact absurd best.2.1 (h r)

/-- The best candidate is the only one that is before every candidate. -/
theorem State.best_some {s : State} {b : RefId} : s.best = some b ↔ s.candidate b = true
    ∧ ∀ r, s.candidate r = true → s.priority b < s.priority r ∨ (s.priority b = s.priority r ∧ b.index ≤ r.index) := by
  have best := s.isBestOf_best
  constructor
  · intro h
    rw [h] at best
    exact ⟨best.2.1, fun r => best.2.2 r (RefId.mem_all r)⟩
  · rintro ⟨candidate, before⟩
    cases c : s.best with
    | none => exact absurd candidate (State.best_none.mp c b)
    | some r =>
      rw [c] at best
      obtain ⟨-, isCandidate, first⟩ := best
      have one := first b (RefId.mem_all b) candidate
      have other := before r isCandidate
      rw [RefId.index_injective (a := r) (b := b) (by omega)]

theorem State.best_candidate {s : State} {b : RefId} (h : s.best = some b) : s.candidate b = true := (State.best_some.mp h).1

/-! ### What the selector does after a change (R58 to R62) -/

section React

variable {s : State}

theorem State.selReact_nothing (selected : s.sel.selected = none) (best : s.best = none) : s.selReact = s := by
  simp only [State.selReact, selected, best]

theorem State.selReact_first {b : RefId} (selected : s.sel.selected = none) (best : s.best = some b) :
    s.selReact = { s with sel := s.sel.clearWtr.choose (some b) } := by
  simp only [State.selReact, selected, best]

theorem State.selReact_gone {c : RefId} (selected : s.sel.selected = some c) (gone : ¬ s.candidate c = true) :
    s.selReact = s.reselect c := by
  simp only [State.selReact, selected, if_neg gone]

theorem State.selReact_search {c : RefId} (selected : s.sel.selected = some c) (stays : s.candidate c = true) :
    s.selReact = s.searchFrom c := by
  simp only [State.selReact, selected, if_pos stays]

theorem State.searchFrom_forced {c : RefId} (forced : s.sel.forced.isSome = true) : s.searchFrom c = s := if_pos forced

theorem State.searchFrom_nonRevertive {c : RefId} (forced : s.sel.forced = none) (plain : s.sel.revertive = false) :
    s.searchFrom c = { s with sel := s.sel.clearWtr } := by
  simp [State.searchFrom, forced, plain]

theorem State.searchFrom_noCandidate {c : RefId} (forced : s.sel.forced = none) (best : s.best = none) :
    s.searchFrom c = { s with sel := s.sel.clearWtr } := by
  simp [State.searchFrom, forced, best]

theorem State.searchFrom_notBetter {b c : RefId} (forced : s.sel.forced = none) (best : s.best = some b)
    (notBetter : ¬ s.priority b < s.priority c) : s.searchFrom c = { s with sel := s.sel.clearWtr } := by
  simp [State.searchFrom, forced, best, notBetter]

theorem State.searchFrom_better {b c : RefId} (forced : s.sel.forced = none) (revertive : s.sel.revertive = true)
    (best : s.best = some b) (better : s.priority b < s.priority c) :
    s.searchFrom c = { s with sel := s.sel.holdCandidate b } := by
  simp [State.searchFrom, forced, revertive, best, better]

end React

section Hold

variable {c : Selector} {b : RefId}

/-- With WTR at 0 the better candidate is switched to at once, whatever waited (R61). -/
theorem Selector.holdCandidate_switch (atOnce : c.wtr = 0) : c.holdCandidate b = (c.choose (some b)).clearWtr := by
  by_cases waits : c.wtrCand = some b
  · simp [Selector.holdCandidate, waits, atOnce, Selector.switch]
  · simp [Selector.holdCandidate, waits, atOnce, Selector.switch, Selector.choose, Selector.clearWtr]

theorem Selector.holdCandidate_goesOn (wtr : c.wtr ≠ 0) (waits : c.wtrCand = some b) : c.holdCandidate b = c := by
  simp [Selector.holdCandidate, waits, wtr]

theorem Selector.holdCandidate_new (wtr : c.wtr ≠ 0) (waits : c.wtrCand ≠ some b) :
    c.holdCandidate b = { c with wtrCand := some b, wtrCount := 0, wtrDue := false } := by
  simp [Selector.holdCandidate, waits, wtr]

end Hold

/-- Settles O24: the best candidate from the fold over the table, then the reaction case by case (R58 to R62), and R55's two
directions. -/
theorem selectorReaction : Obligations.SelectorReaction := by
  refine ⟨fun s => ⟨?none, fun b => ?some⟩, fun s => ⟨?nothing, ?first, ?gone, ?forced, ?search⟩, fun s r f => ?change⟩
  case none => simp only [← State.candidate_iff]; exact State.best_none
  case some => simp only [← State.candidate_iff]; exact State.best_some
  case nothing => exact State.selReact_nothing
  case first => exact fun b => State.selReact_first
  case gone =>
    intro cur selected gone
    exact State.selReact_gone selected (mt (s.candidate_iff cur).mp gone)
  case forced =>
    intro cur selected stays forced
    rw [State.selReact_search selected ((s.candidate_iff cur).mpr stays), State.searchFrom_forced forced]
  case search =>
    intro cur selected stays forced
    rw [State.selReact_search selected ((s.candidate_iff cur).mpr stays)]
    refine ⟨State.searchFrom_nonRevertive forced, fun b _ best notBetter => State.searchFrom_notBetter forced best notBetter,
      fun b revertive best better wtr => ?atOnce, fun b revertive best better wtr waits => ?goesOn,
      fun b revertive best better wtr waits => ?new⟩
    case atOnce => rw [State.searchFrom_better forced revertive best better, Selector.holdCandidate_switch wtr]; rfl
    case goesOn => rw [State.searchFrom_better forced revertive best better, Selector.holdCandidate_goesOn wtr waits]
    case new => rw [State.searchFrom_better forced revertive best better, Selector.holdCandidate_new wtr waits]
  case change =>
    have entry : (s.updEntry r f).entry r = f (s.entry r) := State.updEntry_entry_same s r f
    refine ⟨fun ⟨before, after⟩ => ?_, fun ⟨before, after⟩ => ?_, fun ⟨before, after⟩ => ?_, fun ⟨before, after⟩ => ?_⟩ <;>
      simp [State.changeEntry, before, after]

/-! ### Force and release (R63, R64) -/

theorem State.force_again {s : State} {r : RefId} (forced : s.sel.forced = some r) : s.force r = s := if_pos forced

theorem State.force_selected {s : State} {r : RefId} (unforced : s.sel.forced ≠ some r) (selected : s.sel.selected = some r) :
    s.force r = { s with sel := ({ s.sel with forced := some r } : Selector).clearWtr } := by
  simp only [State.force, if_neg unforced, if_pos selected]

theorem State.force_other {s : State} {r : RefId} (unforced : s.sel.forced ≠ some r) (other : s.sel.selected ≠ some r) :
    s.force r = { s with sel := ({ s.sel with forced := some r } : Selector).clearWtr.choose (some r) } := by
  simp only [State.force, if_neg unforced, if_neg other]

theorem State.release_unforced {s : State} (unforced : s.sel.forced = none) : s.release = s := by
  simp [State.release, unforced]

theorem State.release_nonRevertive {s : State} (forced : s.sel.forced.isSome = true) (plain : s.sel.revertive = false) :
    s.release = { s with sel := { s.sel with forced := none } } := by
  simp only [State.release, if_pos forced, plain]
  split <;> rfl

/-- In revertive operation the search follows the release, as after any change (R60, R64). -/
theorem State.release_revertive {s : State} {c : RefId} (forced : s.sel.forced.isSome = true) (revertive : s.sel.revertive = true)
    (selected : s.sel.selected = some c) :
    s.release = ({ s with sel := { s.sel with forced := none } } : State).searchFrom c := by
  simp only [State.release, if_pos forced, revertive, selected, if_true]

/-- Settles O25: the table index first, then the candidate, then what is forced and what is selected. -/
theorem forceAndRelease : Obligations.ForceAndRelease := by
  refine ⟨fun tag index s idle => ⟨fun beyond => ?beyond, fun r isIndex => ?within⟩, fun tag s idle inv => ?release⟩
  case beyond =>
    show Host.Outcome.next (request tag _ s) = _
    rw [request_idle idle]
    simp only [RefId.ofIndex_none beyond]
  case within =>
    have runs : exec (.refForce tag index) s = .next (if s.candidate r then (s.force r).respond tag .ok []
        else s.respond tag .badState []) := by
      show Host.Outcome.next (request tag _ s) = _
      rw [request_idle idle]
      simp only [← isIndex, RefId.ofIndex_index]
      split <;> rfl
    rw [runs]
    simp only [← State.candidate_iff]
    refine ⟨fun notCandidate => ?_, fun candidate forced => ?_, fun candidate unforced selected => ?_,
      fun candidate unforced other => ?_⟩
    · rw [if_neg notCandidate]
    · rw [if_pos candidate, State.force_again forced]
    · rw [if_pos candidate, State.force_selected unforced selected]; rfl
    · rw [if_pos candidate, State.force_other unforced other]; rfl
  case release =>
    have runs : exec (.refRelease tag) s = .next (s.release.respond tag .ok []) := by
      show Host.Outcome.next (request tag _ s) = _
      rw [request_idle idle]
    rw [runs]
    refine ⟨fun unforced => ?_, fun forced plain => ?_, fun forced revertive => ?_⟩
    · rw [State.release_unforced unforced]
    · rw [State.release_nonRevertive forced plain]
    · obtain ⟨c, isForced⟩ := Option.isSome_iff_exists.mp forced
      have selected := inv.forcedIs c isForced
      rw [State.release_revertive forced revertive selected,
        State.selReact_search (s := { s with sel := { s.sel with forced := none } }) selected (inv.selectedIs c selected)]

/-! ### Wait to restore (R60, R61) -/

section Wait

variable {c : Selector} {b : RefId}

theorem Selector.countBoundary_waits (waits : c.wtrCand = some b) :
    c.countBoundary = { c with wtrCount := min (c.wtrCount + 1) 1023, wtrDue := true } := by
  simp [Selector.countBoundary, waits]

theorem Selector.countBoundary_idle (none : c.wtrCand = none) : c.countBoundary = c := by
  simp [Selector.countBoundary, none]

theorem Selector.judgeWtr_idle (none : c.wtrCand = none) : c.judgeWtr = c := by
  simp [Selector.judgeWtr, none]

theorem Selector.judgeWtr_judged (judged : c.wtrDue = false) : c.judgeWtr = c := by
  simp [Selector.judgeWtr, judged]

theorem Selector.judgeWtr_short (waits : c.wtrCand = some b) (due : c.wtrDue = true) (short : c.wtrCount < c.wtr) :
    c.judgeWtr = { c with wtrDue := false } := by
  simp [Selector.judgeWtr, waits, due, not_le.mpr short]

theorem Selector.judgeWtr_switch (waits : c.wtrCand = some b) (due : c.wtrDue = true) (reached : c.wtr ≤ c.wtrCount) :
    c.judgeWtr = (c.choose (some b)).clearWtr := by
  simp [Selector.judgeWtr, waits, due, reached, Selector.switch]

end Wait

/-- Settles O26, by whether a candidate waits, and by its count against WTR. -/
theorem waitToRestore : Obligations.WaitToRestore := by
  intro s
  have boundary : exec .selBoundary s = .next { s with sel := s.sel.countBoundary.judgeWtr } := rfl
  have judges : exec .wtrSwitch s = .next { s with sel := s.sel.judgeWtr } := rfl
  dsimp only
  rw [boundary, judges]
  refine ⟨fun none => ?idle, fun b waits => ?waits⟩
  case idle => rw [Selector.countBoundary_idle none, Selector.judgeWtr_idle none]; exact ⟨rfl, rfl⟩
  case waits =>
    rw [Selector.countBoundary_waits waits]
    refine ⟨fun short => ?_, fun reached => ?_, fun judged => ?_, fun due short => ?_, fun due reached => ?_⟩
    · rw [Selector.judgeWtr_short (c := { s.sel with wtrCount := _, wtrDue := true }) waits rfl short]
    · rw [Selector.judgeWtr_switch (c := { s.sel with wtrCount := _, wtrDue := true }) waits rfl reached]; rfl
    · rw [Selector.judgeWtr_judged judged]
    · rw [Selector.judgeWtr_short waits due short]
    · rw [Selector.judgeWtr_switch waits due reached]; rfl

/-! ### The invariant: what the selector needs before it reacts -/

/-- What a change of entries or of settings cannot disturb, and what the selector's reaction starts from. -/
structure State.ReadyToReact (s : State) : Prop where
  forcedIs : ∀ r, s.sel.forced = some r → s.sel.selected = some r
  waiting : s.sel.wtrCand.isSome = true → s.sel.forced = none ∧ s.sel.selected.isSome = true
  idleCount : s.sel.wtrCand = none → s.sel.wtrCount = 0
  countWithin : s.sel.wtrCount ≤ 1023
  countCompared : s.sel.wtrDue = false

theorem SelectorInv.ready {s : State} (h : SelectorInv s) : s.ReadyToReact := by
  refine ⟨h.forcedIs, fun waits => ?_, h.idleCount, h.countWithin, h.countCompared⟩
  obtain ⟨c, isCand⟩ := Option.isSome_iff_exists.mp waits
  obtain ⟨unforced, -, cur, selected, -⟩ := h.waiting c isCand
  exact ⟨unforced, by rw [selected]; rfl⟩

/-- What is forced is selected, and nothing waits while something is forced. -/
theorem State.ReadyToReact.noWait_forced {s : State} (h : s.ReadyToReact) (forced : s.sel.forced.isSome = true) :
    s.sel.wtrCand = none := by
  cases waits : s.sel.wtrCand with
  | none => rfl
  | some c =>
    rw [(h.waiting (by rw [waits]; rfl)).1] at forced
    cases forced

/-- A selector with no wait is sound when its choice is a candidate, none only without candidates, and any force on it. -/
theorem selectorInv_idle {s : State} (selectedIs : ∀ c, s.sel.selected = some c → s.candidate c = true)
    (noneOnly : s.sel.selected = none → ∀ r, s.candidate r = false)
    (forcedIs : ∀ r, s.sel.forced = some r → s.sel.selected = some r) (idle : s.sel.wtrCand = none)
    (count : s.sel.wtrCount = 0) (due : s.sel.wtrDue = false) : SelectorInv s where
  selectedIs := selectedIs
  noneOnly := noneOnly
  forcedIs := forcedIs
  waiting := fun c waits => absurd (idle.symm.trans waits) (by simp)
  idleCount := fun _ => count
  noWait := fun _ => idle
  countWithin := by rw [count]; exact Nat.zero_le _
  countCompared := due

/-- The choice of a candidate, with the wait ended. -/
theorem selectorInv_choose {s : State} {b : RefId} {c : Selector} (candidate : s.candidate b = true)
    (forced : ∀ r, c.forced = some r → r = b) : SelectorInv { s with sel := (c.clearWtr.choose (some b)) } :=
  selectorInv_idle (fun _ e => Option.some.inj e ▸ candidate) (fun e => nomatch e) (fun r e => congrArg some (forced r e).symm)
    rfl rfl rfl

theorem State.ReadyToReact.searchFrom {s : State} (h : s.ReadyToReact) {c : RefId} (selected : s.sel.selected = some c)
    (candidate : s.candidate c = true) : SelectorInv (s.searchFrom c) := by
  have keeps : SelectorInv { s with sel := s.sel.clearWtr } :=
    selectorInv_idle (fun d e => Option.some.inj (selected.symm.trans e) ▸ candidate)
      (fun none => absurd (selected.symm.trans none) (by simp)) h.forcedIs rfl rfl rfl
  by_cases forced : s.sel.forced.isSome = true
  · rw [State.searchFrom_forced forced]
    have idle := h.noWait_forced forced
    exact selectorInv_idle (fun d e => Option.some.inj (selected.symm.trans e) ▸ candidate)
      (fun none => absurd (selected.symm.trans none) (by simp)) h.forcedIs idle (h.idleCount idle) h.countCompared
  have unforced := Option.not_isSome_iff_eq_none.mp forced
  cases revertive : s.sel.revertive with
  | false => rw [State.searchFrom_nonRevertive unforced revertive]; exact keeps
  | true =>
    cases best : s.best with
    | none => rw [State.searchFrom_noCandidate unforced best]; exact keeps
    | some b =>
      by_cases better : s.priority b < s.priority c
      · rw [State.searchFrom_better unforced revertive best better]
        have waitsFor {d : Selector} (selected : d.selected = some c) (isB : d.wtrCand = some b) (unforced : d.forced = none)
            (revertive : d.revertive = true) (wtr : d.wtr ≠ 0) (within : d.wtrCount ≤ 1023) (due : d.wtrDue = false) :
            SelectorInv { s with sel := d } :=
          ⟨fun q e => Option.some.inj (selected.symm.trans e) ▸ candidate, fun none => absurd (selected.symm.trans none) (by simp),
            fun r e => absurd (unforced.symm.trans e) (by simp),
            fun q e => ⟨unforced, revertive, c, selected,
              Option.some.inj (isB.symm.trans e) ▸ ⟨State.best_candidate best, better⟩⟩,
            fun none => absurd (isB.symm.trans none) (by simp), fun zero => absurd zero wtr, within, due⟩
        by_cases wtr : s.sel.wtr = 0
        · rw [Selector.holdCandidate_switch wtr]
          exact selectorInv_choose (c := s.sel) (State.best_candidate best) fun r e => absurd (unforced.symm.trans e) (by simp)
        · by_cases waits : s.sel.wtrCand = some b
          · rw [Selector.holdCandidate_goesOn wtr waits]
            exact waitsFor selected waits unforced revertive wtr h.countWithin h.countCompared
          · rw [Selector.holdCandidate_new wtr waits]
            exact waitsFor selected rfl unforced revertive wtr (Nat.zero_le _) rfl
      · rw [State.searchFrom_notBetter unforced best better]; exact keeps

/-- The reaction makes the selector sound, whatever the entries and the settings have become. -/
theorem State.ReadyToReact.selReact {s : State} (h : s.ReadyToReact) : SelectorInv s.selReact := by
  cases selected : s.sel.selected with
  | none =>
    have unforced : s.sel.forced = none := by
      cases forced : s.sel.forced with
      | none => rfl
      | some r => exact absurd (selected.symm.trans (h.forcedIs r forced)) (by simp)
    cases best : s.best with
    | none =>
      have idle : s.sel.wtrCand = none := by
        cases waits : s.sel.wtrCand with
        | none => rfl
        | some c =>
          have := (h.waiting (by rw [waits]; rfl)).2
          rw [selected] at this
          cases this
      rw [State.selReact_nothing selected best]
      exact selectorInv_idle (fun c e => absurd (selected.symm.trans e) (by simp))
        (fun _ r => Bool.eq_false_iff.mpr (State.best_none.mp best r)) h.forcedIs idle (h.idleCount idle) h.countCompared
    | some b =>
      rw [State.selReact_first selected best]
      exact selectorInv_choose (State.best_candidate best) fun r e => absurd (unforced.symm.trans e) (by simp)
  | some c =>
    by_cases candidate : s.candidate c = true
    · rw [State.selReact_search selected candidate]
      exact h.searchFrom selected candidate
    · rw [State.selReact_gone selected candidate]
      have unforced : ∀ r, (s.reselect c).sel.forced ≠ some r := by
        intro r e
        have e' : (if s.sel.forced = some c then none else s.sel.forced) = some r := e
        split at e'
        · cases e'
        · rename_i other
          have := (h.forcedIs r e').symm.trans selected
          exact other (e'.trans this)
      exact selectorInv_idle (fun b e => State.best_candidate e)
        (fun none r => Bool.eq_false_iff.mpr (State.best_none.mp none r)) (fun r e => absurd e (unforced r)) rfl rfl rfl

end Sys2Proof.Machine
end

section
/-! PROOF. What every step keeps of the selector: changes of entries one by one, and the commands that change them. -/

namespace Sys2Proof.Machine

open Sys2Proof

/-! ### What the selector reads of an entry -/

/-- The settings and the state: all that the selector reads of an entry (R58). -/
def RefEntry.standing (e : RefEntry) : RefSettings × RefState := (e.settings, e.state)

/-- The selector reads alike in the two states. -/
def State.SameStanding (s t : State) : Prop := ∀ r, (t.entry r).standing = (s.entry r).standing

theorem State.SameStanding.refl (s : State) : s.SameStanding s := fun _ => rfl

theorem State.SameStanding.trans {s t u : State} (h : s.SameStanding t) (k : t.SameStanding u) : s.SameStanding u :=
  fun r => (k r).trans (h r)

theorem State.SameStanding.candidate {s t : State} (h : s.SameStanding t) (r : RefId) : t.candidate r = s.candidate r := by
  have settings : (t.entry r).settings = (s.entry r).settings := congrArg Prod.fst (h r)
  have state : (t.entry r).state = (s.entry r).state := congrArg Prod.snd (h r)
  rw [State.candidate, RefEntry.isCandidate, settings, state]
  rfl

theorem State.SameStanding.priority {s t : State} (h : s.SameStanding t) (r : RefId) : t.priority r = s.priority r := by
  have settings : (t.entry r).settings = (s.entry r).settings := congrArg Prod.fst (h r)
  rw [State.priority, settings]
  rfl

/-- The invariant reads the selector but for its publications, and the entries by their standing. -/
theorem SelectorInv.of_same {s t : State} (h : SelectorInv s) (sel : t.sel = { s.sel with toTbu := t.sel.toTbu })
    (same : s.SameStanding t) : SelectorInv t := by
  have better (c cur : RefId) (b : s.betterThan c cur) : t.betterThan c cur := by
    rw [State.betterThan, same.candidate, same.priority, same.priority]; exact b
  refine ⟨?_, ?_, ?_, ?_, ?_, ?_, ?_, ?_⟩ <;> rw [sel]
  · exact fun c e => (same.candidate c).trans (h.selectedIs c e)
  · exact fun e r => (same.candidate r).trans (h.noneOnly e r)
  · exact h.forcedIs
  · intro c e
    obtain ⟨unforced, revertive, cur, selected, b⟩ := h.waiting c e
    exact ⟨unforced, revertive, cur, selected, better c cur b⟩
  · exact h.idleCount
  · exact h.noWait
  · exact h.countWithin
  · exact h.countCompared

theorem State.updEntry_standing {f : RefEntry → RefEntry} (s : State) (q : RefId)
    (keeps : (f (s.entry q)).standing = (s.entry q).standing) : s.SameStanding (s.updEntry q f) := by
  intro r
  by_cases h : r = q
  · subst h; rw [State.updEntry_entry_same, keeps]
  · rw [State.updEntry_entry_other _ _ h]

theorem State.makeBoundary_standing (s : State) : s.SameStanding s.makeBoundary := by intro r; cases r <;> rfl

theorem State.boundaryIfPassed_standing (s : State) (step : Int) : s.SameStanding (s.boundaryIfPassed step) := by
  unfold State.boundaryIfPassed
  split
  · exact State.makeBoundary_standing _
  · exact .refl s

theorem State.ignoreOthers_standing (s : State) : s.SameStanding s.ignoreOthers := by
  intro r
  cases r <;> simp only [State.ignoreOthers, State.entry, PerRef.get] <;> split <;> rfl

theorem State.phaseSample_standing (s : State) (r : RefId) (v : Int) (act : Int → Timebase → Timebase) :
    s.SameStanding (s.phaseSample r v act) := fun q => State.updEntry_standing _ r rfl q

theorem State.lineSample_standing (s : State) (r : RefId) (v : Int) : s.SameStanding (s.lineSample r v) :=
  fun q => State.updEntry_standing _ r rfl q

theorem State.takePhase_standing (s : State) (r : RefId) : s.SameStanding (s.takePhase r) := by
  unfold State.takePhase
  (repeat' split)
  · exact .refl s
  · exact fun q => State.boundaryIfPassed_standing _ _ q
  · exact .refl s
  · exact .refl s

/-! ### Changes of entries -/

/-- A change of an entry that leaves its standing leaves the selector sound. -/
theorem SelectorInv.updEntry {s : State} (h : SelectorInv s) {r : RefId} {f : RefEntry → RefEntry}
    (keeps : (f (s.entry r)).standing = (s.entry r).standing) : SelectorInv (s.updEntry r f) :=
  h.of_same rfl (s.updEntry_standing r keeps)

/-- A change that leaves the settings is followed by the selector's reaction where it moves the entry into or out of QUALIFIED
(R55). -/
theorem SelectorInv.changeEntry {s : State} (h : SelectorInv s) (r : RefId) {f : RefEntry → RefEntry}
    (keeps : ∀ e, (f e).settings = e.settings) : SelectorInv (s.changeEntry r f) := by
  unfold State.changeEntry
  dsimp only
  split
  · rename_i same
    have candidate (q : RefId) : (s.updEntry r f).candidate q = s.candidate q := by
      by_cases isR : q = r
      · subst isR
        rw [State.updEntry_entry_same, beq_iff_eq] at same
        rw [State.candidate, State.candidate, State.updEntry_entry_same, RefEntry.isCandidate, RefEntry.isCandidate, keeps, same]
      · rw [State.candidate, State.updEntry_entry_other _ _ isR]; rfl
    have priority (q : RefId) : (s.updEntry r f).priority q = s.priority q := by
      rw [State.priority, State.updEntry_settings keeps]; rfl
    refine ⟨fun c e => (candidate c).trans (h.selectedIs c e), fun e q => (candidate q).trans (h.noneOnly e q), h.forcedIs,
      fun c e => ?_, h.idleCount, h.noWait, h.countWithin, h.countCompared⟩
    obtain ⟨unforced, revertive, cur, selected, better⟩ := h.waiting c e
    exact ⟨unforced, revertive, cur, selected, by rw [State.betterThan, candidate, priority, priority]; exact better⟩
  · have ready := h.ready
    exact State.ReadyToReact.selReact (s := s.updEntry r f)
      ⟨ready.forcedIs, ready.waiting, ready.idleCount, ready.countWithin, ready.countCompared⟩

theorem SelectorInv.formSample {s : State} (h : SelectorInv s) (r : RefId) (v : Int) (info : EdgeInfo) :
    SelectorInv (s.formSample r v info) := h.changeEntry r fun e => RefEntry.dispose_settings r _ e

theorem SelectorInv.measureEdge {s : State} (h : SelectorInv s) (r : RefId) (edge : Instant) (info : EdgeInfo) :
    SelectorInv (s.measureEdge r edge info) := by
  unfold State.measureEdge
  (repeat' split)
  · exact h
  · exact (h.updEntry (f := RefEntry.noteEdge _ _) rfl).formSample r _ info
  · exact h
  · exact h.updEntry rfl
  · exact h

theorem SelectorInv.accountEntry {s : State} (h : SelectorInv s) (r : RefId) : SelectorInv (s.accountEntry r) :=
  ((h.changeEntry r (RefEntry.accountEpoch_settings r)).changeEntry r RefEntry.accountWindow_settings).updEntry rfl

theorem SelectorInv.accounting (rs : List RefId) : ∀ {s : State}, SelectorInv s → SelectorInv (rs.foldl State.accountEntry s) := by
  induction rs with
  | nil => exact fun h => h
  | cons r rs ih => exact fun h => ih (h.accountEntry r)

/-- The invariant reads nothing of the monitor but its entries. -/
theorem SelectorInv.monitor {s : State} (h : SelectorInv s) {m : Monitor} (entries : m.entries = s.rm.entries) :
    SelectorInv { s with rm := m } := h.of_same rfl fun r => congrArg RefEntry.standing (State.entry_of_entries entries r)

theorem SelectorInv.updLink {s : State} (h : SelectorInv s) (l : LinkId) (f : Link → Link) : SelectorInv (s.updLink l f) :=
  h.of_same rfl (.refl s)

theorem SelectorInv.loseParent {s : State} (h : SelectorInv s) : SelectorInv s.loseParent := by
  have waitingDropped : SelectorInv (({ s with rm := { s.rm with parentPresent := false } } : State).updEntry .parent
      (fun e => { e with waiting := none })) :=
    SelectorInv.updEntry (s := { s with rm := { s.rm with parentPresent := false } }) (h.monitor rfl) rfl
  unfold State.loseParent
  dsimp only
  split
  · exact waitingDropped.updEntry rfl
  · exact waitingDropped.changeEntry .parent (by intro; rfl)

theorem SelectorInv.measureFrame {s : State} (h : SelectorInv s) (instant : Instant) (f : TimeFrame) :
    SelectorInv (s.measureFrame instant f) := by
  have declared : SelectorInv (s.updEntry .parent (RefEntry.declareParent f)) := h.updEntry rfl
  unfold State.measureFrame
  dsimp only
  split
  · exact declared.measureEdge .parent _ _
  · exact declared

theorem SelectorInv.takePulse {s : State} (h : SelectorInv s) (i : SatId) (edge : Instant) : SelectorInv (s.takePulse i edge) := by
  unfold State.takePulse
  exact ((h.monitor (Monitor.setInput_entries _ _ _)).updEntry rfl).measureEdge _ _ _

/-! ### The selector's own commands -/

theorem SelectorInv.selBoundary {s : State} (h : SelectorInv s) : SelectorInv (s.after .selBoundary) := by
  show SelectorInv { s with sel := s.sel.countBoundary.judgeWtr }
  cases waits : s.sel.wtrCand with
  | none => rw [Selector.countBoundary_idle waits, Selector.judgeWtr_idle waits]; exact h
  | some b =>
    obtain ⟨unforced, revertive, cur, selected, better⟩ := h.waiting b waits
    rw [Selector.countBoundary_waits waits]
    by_cases reached : s.sel.wtr ≤ min (s.sel.wtrCount + 1) 1023
    · rw [Selector.judgeWtr_switch (c := { s.sel with wtrCount := _, wtrDue := true }) waits rfl reached]
      exact selectorInv_choose better.1 fun r e => absurd (unforced.symm.trans e) (by simp)
    · rw [Selector.judgeWtr_short (c := { s.sel with wtrCount := _, wtrDue := true }) waits rfl (not_le.mp reached)]
      exact ⟨h.selectedIs, h.noneOnly, h.forcedIs, h.waiting, fun none => absurd (waits.symm.trans none) (by simp), h.noWait,
        min_le_right _ _, rfl⟩

/-- No count waits to be judged, so that WTR_SWITCH finds nothing to do (log 2). -/
theorem SelectorInv.wtrSwitch {s : State} (h : SelectorInv s) : SelectorInv (s.after .wtrSwitch) := by
  show SelectorInv { s with sel := s.sel.judgeWtr }
  rw [Selector.judgeWtr_judged h.countCompared]
  exact h

theorem SelectorInv.force {s : State} (h : SelectorInv s) {r : RefId} (candidate : s.candidate r = true) :
    SelectorInv (s.force r) := by
  by_cases again : s.sel.forced = some r
  · rw [State.force_again again]; exact h
  by_cases selected : s.sel.selected = some r
  · rw [State.force_selected again selected]
    exact selectorInv_idle h.selectedIs h.noneOnly (fun q e => selected.trans e) rfl rfl rfl
  · rw [State.force_other again selected]
    exact selectorInv_choose (c := { s.sel with forced := some r }) candidate fun q e => (Option.some.inj e).symm

theorem SelectorInv.release {s : State} (h : SelectorInv s) : SelectorInv s.release := by
  by_cases forced : s.sel.forced.isSome = true
  · have idle := h.ready.noWait_forced forced
    obtain ⟨c, isForced⟩ := Option.isSome_iff_exists.mp forced
    have selected := h.forcedIs c isForced
    cases revertive : s.sel.revertive with
    | false =>
      rw [State.release_nonRevertive forced revertive]
      exact selectorInv_idle h.selectedIs h.noneOnly (fun _ e => nomatch e) idle (h.idleCount idle) h.countCompared
    | true =>
      rw [State.release_revertive forced revertive selected]
      exact State.ReadyToReact.searchFrom (s := { s with sel := { s.sel with forced := none } })
        ⟨fun _ e => (nomatch e), fun _ => ⟨rfl, by rw [selected]; rfl⟩, h.idleCount, h.countWithin, h.countCompared⟩
        selected (h.selectedIs c selected)
  · rw [State.release_unforced (Option.not_isSome_iff_eq_none.mp forced)]; exact h

/-! ### REF_SET -/

theorem SelectorInv.setGeneral {s : State} (h : SelectorInv s) (r : RefId) (g : RefGeneralReq) :
    SelectorInv (s.setGeneral r g) := by
  unfold State.setGeneral
  dsimp only
  split
  · have ready := h.ready
    exact State.ReadyToReact.selReact
      (s := { s.updEntry r (RefEntry.setGeneral g) with sel := s.sel.setGeneral g })
      ⟨ready.forcedIs, ready.waiting, ready.idleCount, ready.countWithin, ready.countCompared⟩
  · rename_i unconcerned
    simp only [concernsSelector, Bool.or_eq_true, not_or, Option.not_isSome_iff_eq_none] at unconcerned
    obtain ⟨⟨⟨enabled, priority⟩, wtr⟩, revertive⟩ := unconcerned
    have candidate (q : RefId) : (s.updEntry r (RefEntry.setGeneral g)).candidate q = s.candidate q := by
      by_cases isR : q = r
      · subst isR
        rw [State.candidate, State.updEntry_entry_same, RefEntry.isCandidate]
        show (g.enabled.getD _ && _) = _
        rw [enabled]; rfl
      · rw [State.candidate, State.updEntry_entry_other _ _ isR]; rfl
    have number (q : RefId) : (s.updEntry r (RefEntry.setGeneral g)).priority q = s.priority q := by
      by_cases isR : q = r
      · subst isR
        rw [State.priority, State.updEntry_entry_same]
        show g.priority.getD _ = _
        rw [priority]; rfl
      · rw [State.priority, State.updEntry_entry_other _ _ isR]; rfl
    have sel : s.sel.setGeneral g = s.sel := by rw [Selector.setGeneral, wtr, revertive]; rfl
    rw [State.updEntry_sel, sel]
    refine ⟨fun c e => (candidate c).trans (h.selectedIs c e), fun e q => (candidate q).trans (h.noneOnly e q), h.forcedIs,
      fun c e => ?_, h.idleCount, h.noWait, h.countWithin, h.countCompared⟩
    obtain ⟨unforced, plain, cur, selected, better⟩ := h.waiting c e
    refine ⟨unforced, plain, cur, selected, (candidate c).trans better.1, ?_⟩
    have less := better.2
    rw [← number c, ← number cur] at less
    exact less

/-- Form 1 changes the thresholds, of which the selector reads nothing. -/
theorem SelectorInv.setThresholds {s : State} (h : SelectorInv s) (r : RefId) (p : RefThresholdReq) :
    SelectorInv (s.updEntry r (RefEntry.setThresholds p)) := by
  have candidate (q : RefId) : (s.updEntry r (RefEntry.setThresholds p)).candidate q = s.candidate q := by
    by_cases isR : q = r
    · subst isR; rw [State.candidate, State.updEntry_entry_same]; rfl
    · rw [State.candidate, State.updEntry_entry_other _ _ isR]; rfl
  have number (q : RefId) : (s.updEntry r (RefEntry.setThresholds p)).priority q = s.priority q := by
    by_cases isR : q = r
    · subst isR; rw [State.priority, State.updEntry_entry_same]; rfl
    · rw [State.priority, State.updEntry_entry_other _ _ isR]; rfl
  refine ⟨fun c e => (candidate c).trans (h.selectedIs c e), fun e q => (candidate q).trans (h.noneOnly e q), h.forcedIs,
    fun c e => ?_, h.idleCount, h.noWait, h.countWithin, h.countCompared⟩
  obtain ⟨unforced, plain, cur, selected, better⟩ := h.waiting c e
  exact ⟨unforced, plain, cur, selected, by rw [State.betterThan, candidate, number, number]; exact better⟩

theorem SelectorInv.setReference {s : State} (h : SelectorInv s) (r : RefId) (p : RefSetBody) :
    SelectorInv (setReference r p s).1 := by
  unfold Machine.setReference
  (repeat' split)
  · exact h.setGeneral r _
  · exact h
  · exact h.setThresholds r _
  · exact h
  · exact h

/-! ### The statement -/

theorem selectorInv_cold (sense : PerLink Bool) (pending : List Instr) : SelectorInv (State.cold sense pending) := by
  refine selectorInv_idle (fun _ e => nomatch e) (fun _ r => ?_) (fun _ e => nomatch e) rfl rfl rfl
  cases r <;> rfl

theorem SelectorInv.port {s : State} (port : Port) (h : SelectorInv s) : SelectorInv { s with port := port } :=
  h.of_same rfl (.refl s)

/-- The commands that write entries or the selector keep its invariant. -/
theorem SelectorInv.after {s : State} (h : SelectorInv s) (i : Instr) : SelectorInv (s.after i) := by
  have unwritten (rm : .rm ∉ i.writes) (sel : .sel ∉ i.writes) : SelectorInv (s.after i) :=
    h.of_same (by rw [(after_frame i s).sel sel])
      fun r => by rw [State.entry, (after_frame i s).rm rm]; rfl
  have offersTaken : SelectorInv s.ignoreOthers := h.of_same rfl s.ignoreOthers_standing
  have requested {tag : Nat} {act : State → State × Result × List Item} (acted : SelectorInv (act s).1) :
      SelectorInv (request tag act s) := request_keeps (fun _ port h => h.port port) h acted
  cases i with
  | coldReset sense => exact selectorInv_cold sense s.pending
  | refLookup tag index page =>
    dsimp only [State.after, exec, execRefLookup]
    refine requested ?_
    split
    · exact h
    · unfold lookupPage
      split <;> first | exact h | exact h.updEntry rfl
  | refSet tag index p =>
    dsimp only [State.after, exec, execRefSet]
    refine requested ?_
    split
    · exact h
    · exact h.setReference _ p
  | refForce tag index =>
    dsimp only [State.after, exec, execRefForce]
    refine requested ?_
    (repeat' split)
    · exact h
    · rename_i candidate
      exact h.force candidate
    · exact h
  | refRelease tag =>
    dsimp only [State.after, exec, execRefRelease]
    exact requested h.release
  | epochBoundary => exact h.of_same rfl s.makeBoundary_standing
  | acquireSample =>
    dsimp only [State.after, exec, execAcquireSample]
    split
    · exact State.takeSample_keeps offersTaken fun r v => offersTaken.of_same (by simp)
        ((State.phaseSample_standing _ r v _).trans (State.boundaryIfPassed_standing _ _))
    · exact offersTaken
  | lockedSample =>
    dsimp only [State.after, exec, execLockedSample]
    split
    · exact State.takeSample_keeps offersTaken fun r v => offersTaken.of_same (by simp)
        ((State.phaseSample_standing _ r v _).trans (State.boundaryIfPassed_standing _ _))
    · exact offersTaken
  | lineSample =>
    dsimp only [State.after, exec, execLineSample]
    split
    · exact State.takeSample_keeps offersTaken fun r v => offersTaken.of_same rfl (State.lineSample_standing _ r v)
    · exact offersTaken
  | phaseReferencePublication =>
    dsimp only [State.after, exec, execPhaseReferencePublication]
    (repeat' split)
    · exact h.of_same (by simp [State.popPublication]) (fun q => State.takePhase_standing _ _ q)
    all_goals exact h
  | lineReferencePublication =>
    dsimp only [State.after, exec, execLineReferencePublication]
    (repeat' split) <;> first | exact h | exact h.of_same rfl (.refl s)
  | selectionLostPublication =>
    dsimp only [State.after, exec, execSelectionLostPublication]
    split <;> first | exact h | exact h.of_same rfl (.refl s)
  | satMessage | satMessageLapse => exact h.monitor (Monitor.setInput_entries _ _ _)
  | messageIdleTimeout line =>
    cases line
    · exact h.monitor (Monitor.setInput_entries _ _ _)
    · exact h.monitor (Monitor.setLine_entries _ _ _)
  | lineQualityMessage input bytes => exact (h.monitor (Monitor.setLine_entries _ _ _)).updEntry rfl
  | ppsEdge input instant =>
    have advanced : SelectorInv (s.advance instant) := h.of_same rfl (.refl s)
    dsimp only [State.after, exec, execPpsEdge]
    split
    · exact advanced
    · exact advanced.takePulse input instant
  | deferredEdgeSample ref =>
    have forgotten : SelectorInv (s.updEntry ref (fun e => { e with waiting := none })) := h.updEntry rfl
    dsimp only [State.after, exec, execDeferredEdgeSample]
    (repeat' split)
    · exact h
    · exact h
    · exact forgotten.formSample ref _ _
    · exact forgotten
  | lineClockEdge input instant =>
    have advanced : SelectorInv (s.advance instant) := h.of_same rfl (.refl s)
    dsimp only [State.after, exec, execLineClockEdge]
    split
    · exact (advanced.monitor (Monitor.setLine_entries _ _ _)).formSample _ _ _
    · exact advanced
  | rmEpochAccounting =>
    have accounted := SelectorInv.accounting RefId.all h
    dsimp only [State.after, exec, execRmEpochAccounting]
    generalize RefId.all.foldl State.accountEntry s = t at accounted ⊢
    exact accounted.monitor rfl
  | referenceAbsent ref =>
    dsimp only [State.after, exec, execReferenceAbsent]
    split
    · exact h.changeEntry ref (by intro; rfl)
    · exact h
  | windowEnd ref =>
    dsimp only [State.after, exec, execWindowEnd]
    (repeat' split)
    · exact h.changeEntry ref RefEntry.endWindow_settings
    · exact h
    · exact h
  | parentEnrolledReport link =>
    dsimp only [State.after, exec, execParentEnrolledReport]
    split <;> first | exact h | exact h.of_same rfl (.refl s)
  | parentLostReport link =>
    dsimp only [State.after, exec, execParentLostReport]
    split
    · exact (h.updLink link _).loseParent
    · exact h
  | parentFrameMeasure link =>
    dsimp only [State.after, exec, execParentFrameMeasure]
    (repeat' split)
    · exact (h.updLink link _).measureFrame _ _
    · exact h.of_same rfl (.refl s)
    all_goals exact h
  | selBoundary => exact h.selBoundary
  | wtrSwitch => exact h.wtrSwitch
  | _ => exact unwritten (by simp [Instr.writes]) (by simp [Instr.writes])

/-- Settles O57: every command keeps the invariant, which reads neither the queue nor the port. -/
theorem stepKeepsSelector : Obligations.StepKeepsSelector :=
  step_keeps (P := SelectorInv) (fun s _ _ h => h.of_same rfl (.refl s)) fun i _ h => h.after i

end Sys2Proof.Machine
end

section
/-! PROOF. What every step keeps of the site table: one handle, one index pair and one drop for each record. -/

namespace Sys2Proof.Machine

open Sys2Proof

/-! ### Sorted collections (R70, R71) -/

theorem pairwise_insertHandle {h : Nat} : ∀ {l : List Nat}, l.Pairwise (fun a b => a < b) → h ∉ l →
    (insertHandle h l).Pairwise (fun a b => a < b)
  | [], _, _ => by simp [insertHandle]
  | k :: rest, sorted, fresh => by
    obtain ⟨first, tail⟩ := List.pairwise_cons.mp sorted
    obtain ⟨notK, notRest⟩ := not_or.mp (mt List.mem_cons.mpr fresh)
    unfold insertHandle
    split
    · rename_i below
      refine List.pairwise_cons.mpr ⟨fun x m => ?_, sorted⟩
      rcases List.mem_cons.mp m with rfl | m
      · exact below
      · exact below.trans (first x m)
    · rename_i above
      refine List.pairwise_cons.mpr ⟨fun x m => ?_, pairwise_insertHandle tail notRest⟩
      rcases (mem_insertHandle h x rest).mp m with rfl | m
      · omega
      · exact first x m

/-- A record goes to the place of its handle. -/
theorem map_handle_insertRecord (r : SiteRecord) : ∀ l : List SiteRecord,
    (insertRecord r l).map SiteRecord.handle = insertHandle r.handle (l.map SiteRecord.handle)
  | [] => rfl
  | q :: rest => by
    simp only [insertRecord, List.map_cons, insertHandle]
    split
    · rfl
    · rw [List.map_cons, map_handle_insertRecord r rest]

/-- A pair goes to the place of its site ID. -/
theorem map_fst_insertPair (p : Nat × Nat) : ∀ l : List (Nat × Nat),
    (insertPair p l).map Prod.fst = insertHandle p.1 (l.map Prod.fst)
  | [] => rfl
  | q :: rest => by
    simp only [insertPair, List.map_cons, insertHandle]
    split
    · rfl
    · rw [List.map_cons, map_fst_insertPair p rest]

/-! ### What the collections read of a record -/

/-- The four fields by which the collections name a record: all that a record keeps for its life (section 4.1). -/
def SiteRecord.identity (r : SiteRecord) : Nat × Nat × LinkId × Nat := (r.handle, r.siteId, r.link, r.drop)

theorem SiteRecord.identity_eq {r q : SiteRecord} (h : r.identity = q.identity) :
    r.handle = q.handle ∧ r.siteId = q.siteId ∧ r.link = q.link ∧ r.drop = q.drop := by
  simpa only [SiteRecord.identity, Prod.mk.injEq] using h

/-- Records with the same identities, in the same order, in the same collections. -/
theorem SiteTableInv.of_same {t u : SiteTable} (h : SiteTableInv t)
    (records : u.records.map SiteRecord.identity = t.records.map SiteRecord.identity) (index : u.index = t.index)
    (free : u.freeHandles = t.freeHandles) (maps : u.dropMaps = t.dropMaps) : SiteTableInv u := by
  have from' {r : SiteRecord} (m : r ∈ u.records) : ∃ q ∈ t.records, q.identity = r.identity :=
    List.mem_map.mp (records ▸ List.mem_map_of_mem m)
  have into {q : SiteRecord} (m : q ∈ t.records) : ∃ r ∈ u.records, r.identity = q.identity :=
    List.mem_map.mp (records.symm ▸ List.mem_map_of_mem m)
  have handles : u.records.map SiteRecord.handle = t.records.map SiteRecord.handle := by
    have := congrArg (List.map Prod.fst) records
    simpa only [List.map_map, Function.comp_def, SiteRecord.identity] using this
  have someRecord {P : Nat → Nat → LinkId → Nat → Prop} :
      (∃ r ∈ u.records, P r.handle r.siteId r.link r.drop) ↔ ∃ q ∈ t.records, P q.handle q.siteId q.link q.drop := by
    constructor
    · rintro ⟨r, m, p⟩
      obtain ⟨q, mq, same⟩ := from' m
      obtain ⟨a, b, c, d⟩ := SiteRecord.identity_eq same
      exact ⟨q, mq, by rw [a, b, c, d]; exact p⟩
    · rintro ⟨q, m, p⟩
      obtain ⟨r, mr, same⟩ := into m
      obtain ⟨a, b, c, d⟩ := SiteRecord.identity_eq same
      exact ⟨r, mr, by rw [a, b, c, d]; exact p⟩
  have everyRecord {P : Nat → Nat → LinkId → Nat → Prop} (all : ∀ q ∈ t.records, P q.handle q.siteId q.link q.drop) :
      ∀ r ∈ u.records, P r.handle r.siteId r.link r.drop := by
    intro r m
    obtain ⟨q, mq, same⟩ := from' m
    obtain ⟨a, b, c, d⟩ := SiteRecord.identity_eq same
    rw [← a, ← b, ← c, ← d]
    exact all q mq
  refine ⟨handles ▸ h.recordsAscend, free ▸ h.freeAscend, fun k => ?_, everyRecord (P := fun a _ _ _ => a < _) h.handleWithin,
    index ▸ h.indexAscend, fun i k => ?_, everyRecord (P := fun _ _ _ d => 1 ≤ d ∧ d ≤ _) h.dropWithin,
    everyRecord (P := fun _ i _ _ => i ≠ 0) h.siteIdSet, fun l => maps ▸ h.mapSize l, fun l d k => ?_⟩
  · rw [free, h.handles]
    have := someRecord (P := fun a _ _ _ => a = k)
    refine and_congr_right fun _ => ?_
    simpa only [not_exists, not_and] using (not_congr this).symm
  · rw [index, h.indexIs, someRecord (P := fun a b _ _ => b = i ∧ a = k)]
  · rw [SiteTable.names, SiteTable.dropEntry, maps]
    exact (h.mapIs l d k).trans (someRecord (P := fun a _ c e => c = l ∧ e = d ∧ a = k)).symm

theorem SiteTableInv.handlesOnce {t : SiteTable} (h : SiteTableInv t) : (t.records.map SiteRecord.handle).Nodup :=
  h.recordsAscend.imp fun lt => ne_of_lt lt

theorem SiteTableInv.handle_inj {t : SiteTable} (h : SiteTableInv t) {r q : SiteRecord} (mr : r ∈ t.records)
    (mq : q ∈ t.records) (same : r.handle = q.handle) : r = q := List.inj_on_of_nodup_map h.handlesOnce mr mq same

/-- The drop map entry of a record names it (R72). -/
theorem SiteTableInv.dropEntry_record {t : SiteTable} (h : SiteTableInv t) {r : SiteRecord} (m : r ∈ t.records) :
    t.dropEntry r.link r.drop = some r.handle := ((h.mapIs r.link r.drop r.handle).mpr ⟨r, m, rfl, rfl, rfl⟩).2

/-! ### A record removed (R88) -/

theorem SiteTable.mem_dropRecord {t : SiteTable} {r q : SiteRecord} :
    q ∈ (t.dropRecord r).records ↔ q ∈ t.records ∧ q.handle ≠ r.handle := by
  simp [SiteTable.dropRecord, List.mem_filter]

theorem setDrop_length (drop : Nat) (v : Option Nat) (drops : List (Option Nat)) : (setDrop drop v drops).length = drops.length :=
  List.length_set

/-- A drop map entry written leaves every map its size. -/
theorem dropMaps_update_length (maps : PerLink (List (Option Nat))) (l m : LinkId) (d : Nat) (v : Option Nat) :
    ((maps.update l (setDrop d v)).get m).length = (maps.get m).length := by
  by_cases h : m = l
  · subst h; rw [PerLink.update, PerLink.get_set_same, setDrop_length]
  · rw [PerLink.update, PerLink.get_set_other _ _ h]

/-- The drop map entries with one written. -/
theorem SiteTable.dropEntry_update {t : SiteTable} {l : LinkId} {d : Nat} {v : Option Nat} (within : 1 ≤ d ∧ d ≤ Config.maxDrop)
    (size : (t.dropMaps.get l).length = Config.maxDrop) (m : LinkId) {e : Nat} (he : 1 ≤ e) :
    ({ t with dropMaps := t.dropMaps.update l (setDrop d v) } : SiteTable).dropEntry m e
      = if m = l ∧ e = d then v else t.dropEntry m e := by
  by_cases same : m = l ∧ e = d
  · obtain ⟨rfl, rfl⟩ := same
    rw [if_pos ⟨rfl, rfl⟩, SiteTable.dropEntry_set_same _ _ _ _ within.1 (size ▸ within.2)]
  · rw [if_neg same, SiteTable.dropEntry_set_other _ _ _ _ _ _ within.1 he same]

theorem SiteTableInv.dropRecord {t : SiteTable} (h : SiteTableInv t) {r : SiteRecord} (m : r ∈ t.records) :
    SiteTableInv (t.dropRecord r) := by
  have taken : r.handle ∉ t.freeHandles := fun free => ((h.handles r.handle).mp free).2 r m rfl
  refine ⟨?_, pairwise_insertHandle h.freeAscend taken, fun k => ?_, fun q mq => h.handleWithin q (SiteTable.mem_dropRecord.mp mq).1,
    h.indexAscend.sublist (List.filter_sublist.map _), fun i k => ?_,
    fun q mq => h.dropWithin q (SiteTable.mem_dropRecord.mp mq).1, fun q mq => h.siteIdSet q (SiteTable.mem_dropRecord.mp mq).1,
    fun l => (dropMaps_update_length _ _ _ _ _).trans (h.mapSize l), fun l d k => ?_⟩
  · exact h.recordsAscend.sublist (List.filter_sublist.map _)
  · have free : k ∈ (t.dropRecord r).freeHandles ↔ k = r.handle ∨ k ∈ t.freeHandles := mem_insertHandle _ _ _
    rw [free, h.handles]
    constructor
    · rintro (rfl | ⟨within, none⟩)
      · exact ⟨h.handleWithin r m, fun q mq => (SiteTable.mem_dropRecord.mp mq).2⟩
      · exact ⟨within, fun q mq => none q (SiteTable.mem_dropRecord.mp mq).1⟩
    · rintro ⟨within, none⟩
      by_cases same : k = r.handle
      · exact .inl same
      · refine .inr ⟨within, fun q mq is => none q (SiteTable.mem_dropRecord.mpr ⟨mq, ?_⟩) is⟩
        exact fun e => same (is.symm.trans e)
  · have pair : (i, k) ∈ (t.dropRecord r).index ↔ (i, k) ∈ t.index ∧ k ≠ r.handle := by
      simp [SiteTable.dropRecord, List.mem_filter]
    rw [pair, h.indexIs]
    constructor
    · rintro ⟨⟨q, mq, isI, isK⟩, other⟩
      exact ⟨q, SiteTable.mem_dropRecord.mpr ⟨mq, isK ▸ other⟩, isI, isK⟩
    · rintro ⟨q, mq, isI, isK⟩
      obtain ⟨mq, other⟩ := SiteTable.mem_dropRecord.mp mq
      exact ⟨⟨q, mq, isI, isK⟩, isK ▸ other⟩
  · have entry (hd : 1 ≤ d) : (t.dropRecord r).dropEntry l d = if l = r.link ∧ d = r.drop then none else t.dropEntry l d :=
      SiteTable.dropEntry_update (h.dropWithin r m) (h.mapSize r.link) l hd
    constructor
    · rintro ⟨hd, named⟩
      rw [entry hd] at named
      split at named
      · cases named
      · rename_i other
        obtain ⟨q, mq, isL, isD, isK⟩ := (h.mapIs l d k).mp ⟨hd, named⟩
        refine ⟨q, SiteTable.mem_dropRecord.mpr ⟨mq, fun same => other ?_⟩, isL, isD, isK⟩
        rw [h.handle_inj mq m same] at isL isD
        exact ⟨isL.symm, isD.symm⟩
    · rintro ⟨q, mq, isL, isD, isK⟩
      obtain ⟨mq, other⟩ := SiteTable.mem_dropRecord.mp mq
      obtain ⟨hd, named⟩ := (h.mapIs l d k).mpr ⟨q, mq, isL, isD, isK⟩
      refine ⟨hd, ?_⟩
      rw [entry hd, if_neg]
      · exact named
      · rintro ⟨rfl, rfl⟩
        rw [h.dropEntry_record m] at named
        exact other (isK.trans (Option.some.inj named).symm)

/-! ### A record added (R69 to R72) -/

/-- A site ID not in the index is no record's. -/
theorem SiteTableInv.handleOf_none {t : SiteTable} (h : SiteTableInv t) {i : Nat} :
    t.handleOf i = none ↔ ∀ r ∈ t.records, r.siteId ≠ i := by
  have absent : t.handleOf i = none ↔ ∀ p ∈ t.index, p.1 ≠ i := by
    simp [SiteTable.handleOf, List.find?_eq_none]
  rw [absent]
  constructor
  · intro none r m is
    exact none (i, r.handle) ((h.indexIs i r.handle).mpr ⟨r, m, is, rfl⟩) rfl
  · rintro none ⟨j, k⟩ m rfl
    obtain ⟨r, mr, is, -⟩ := (h.indexIs j k).mp m
    exact none r mr is

theorem SiteTable.mem_addRecord {t : SiteTable} {r q : SiteRecord} : q ∈ (t.addRecord r).records ↔ q = r ∨ q ∈ t.records :=
  mem_insertRecord r q t.records

theorem SiteTableInv.addRecord {t : SiteTable} (h : SiteTableInv t) {r : SiteRecord} (free : r.handle ∈ t.freeHandles)
    (newId : t.handleOf r.siteId = none) (newDrop : t.dropEntry r.link r.drop = none)
    (within : 1 ≤ r.drop ∧ r.drop ≤ Config.maxDrop) (siteId : r.siteId ≠ 0) : SiteTableInv (t.addRecord r) := by
  obtain ⟨handleWithin, unused⟩ := (h.handles r.handle).mp free
  have idUnused := h.handleOf_none.mp newId
  refine ⟨?_, h.freeAscend.sublist List.filter_sublist, fun k => ?_, fun q mq => ?_, ?_, fun i k => ?_, fun q mq => ?_,
    fun q mq => ?_, fun l => (dropMaps_update_length _ _ _ _ _).trans (h.mapSize l), fun l d k => ?_⟩
  · rw [show (t.addRecord r).records = insertRecord r t.records from rfl, map_handle_insertRecord]
    refine pairwise_insertHandle h.recordsAscend fun m => ?_
    obtain ⟨q, mq, same⟩ := List.mem_map.mp m
    exact unused q mq same
  · have stays : k ∈ (t.addRecord r).freeHandles ↔ k ∈ t.freeHandles ∧ k ≠ r.handle := by
      simp [SiteTable.addRecord, List.mem_filter]
    rw [stays, h.handles]
    constructor
    · rintro ⟨⟨hk, none⟩, other⟩
      refine ⟨hk, fun q mq => ?_⟩
      rcases SiteTable.mem_addRecord.mp mq with rfl | mq
      · exact other.symm
      · exact none q mq
    · rintro ⟨hk, none⟩
      exact ⟨⟨hk, fun q mq => none q (SiteTable.mem_addRecord.mpr (.inr mq))⟩,
        (none r (SiteTable.mem_addRecord.mpr (.inl rfl))).symm⟩
  · rcases SiteTable.mem_addRecord.mp mq with rfl | mq
    · exact handleWithin
    · exact h.handleWithin q mq
  · rw [show (t.addRecord r).index = insertPair (r.siteId, r.handle) t.index from rfl, map_fst_insertPair]
    refine pairwise_insertHandle h.indexAscend fun m => ?_
    obtain ⟨⟨i, k⟩, mp, same⟩ := List.mem_map.mp m
    obtain ⟨q, mq, isI, -⟩ := (h.indexIs i k).mp mp
    exact idUnused q mq (isI.trans same)
  · have pair : (i, k) ∈ (t.addRecord r).index ↔ (i, k) = (r.siteId, r.handle) ∨ (i, k) ∈ t.index := mem_insertPair _ _ _
    rw [pair, h.indexIs]
    constructor
    · rintro (e | ⟨q, mq, p⟩)
      · obtain ⟨rfl, rfl⟩ := Prod.mk.inj e
        exact ⟨r, SiteTable.mem_addRecord.mpr (.inl rfl), rfl, rfl⟩
      · exact ⟨q, SiteTable.mem_addRecord.mpr (.inr mq), p⟩
    · rintro ⟨q, mq, rfl, rfl⟩
      rcases SiteTable.mem_addRecord.mp mq with rfl | mq
      · exact .inl rfl
      · exact .inr ⟨q, mq, rfl, rfl⟩
  · rcases SiteTable.mem_addRecord.mp mq with rfl | mq
    · exact within
    · exact h.dropWithin q mq
  · rcases SiteTable.mem_addRecord.mp mq with rfl | mq
    · exact siteId
    · exact h.siteIdSet q mq
  · have entry (hd : 1 ≤ d) :
        (t.addRecord r).dropEntry l d = if l = r.link ∧ d = r.drop then some r.handle else t.dropEntry l d :=
      SiteTable.dropEntry_update within (h.mapSize r.link) l hd
    constructor
    · rintro ⟨hd, named⟩
      rw [entry hd] at named
      split at named
      · rename_i same
        exact ⟨r, SiteTable.mem_addRecord.mpr (.inl rfl), same.1.symm, same.2.symm, Option.some.inj named⟩
      · obtain ⟨q, mq, p⟩ := (h.mapIs l d k).mp ⟨hd, named⟩
        exact ⟨q, SiteTable.mem_addRecord.mpr (.inr mq), p⟩
    · rintro ⟨q, mq, rfl, rfl, rfl⟩
      rcases SiteTable.mem_addRecord.mp mq with rfl | mq
      · exact ⟨within.1, by rw [entry within.1, if_pos ⟨rfl, rfl⟩]⟩
      · obtain ⟨hd, named⟩ := (h.mapIs q.link q.drop q.handle).mpr ⟨q, mq, rfl, rfl, rfl⟩
        refine ⟨hd, ?_⟩
        rw [entry hd, if_neg]
        · exact named
        · rintro ⟨isL, isD⟩
          rw [isL, isD, newDrop] at named
          cases named

end Sys2Proof.Machine
end

section
/-! PROOF. What every step keeps of the site table and of what is handed to it, operation by operation. -/

namespace Sys2Proof.Machine

open Sys2Proof

/-! ### Changes that no collection reads -/

/-- A change of a record that leaves what the collections name it by. -/
def KeepsIdentity (f : SiteRecord → SiteRecord) : Prop := ∀ r, (f r).identity = r.identity

/-- The invariant reads the site table and the ENROL results handed over. -/
theorem SitesInv.of_same {s t : State} (h : SitesInv s) (stu : t.stu = s.stu)
    (toStu : ∀ l, (t.link l).toStu = (s.link l).toStu) : SitesInv t :=
  ⟨stu ▸ h.table, fun l => toStu l ▸ h.enrols l⟩

theorem SitesInv.advance {s : State} (h : SitesInv s) (t : Instant) : SitesInv (s.advance t) := h.of_same rfl fun _ => rfl

/-- A link changed in anything but the ENROL results it has handed over. -/
theorem SitesInv.updLink {s : State} (h : SitesInv s) {l : LinkId} {f : Link → Link}
    (keeps : (f (s.link l)).toStu = (s.link l).toStu) : SitesInv (s.updLink l f) := by
  refine h.of_same rfl fun m => ?_
  by_cases same : m = l
  · subst same; rw [State.updLink_link_same, keeps]
  · rw [State.updLink_link_other _ _ same]

/-- Records changed, each but for its identity. -/
theorem SitesInv.mapRecords {s : State} (h : SitesInv s) {f : SiteRecord → SiteRecord} (keeps : KeepsIdentity f) :
    SitesInv { s with stu := { s.stu with records := s.stu.records.map f } } := by
  refine ⟨h.table.of_same ?_ rfl rfl rfl, h.enrols⟩
  rw [List.map_map]
  exact List.map_congr_left fun r _ => keeps r

theorem SitesInv.updRecord {s : State} (h : SitesInv s) (k : Nat) {f : SiteRecord → SiteRecord} (keeps : KeepsIdentity f) :
    SitesInv (s.updRecord k f) := by
  refine h.mapRecords fun r => ?_
  split
  · exact keeps r
  · rfl

theorem SitesInv.updLinkRecords {s : State} (h : SitesInv s) (l : LinkId) {f : SiteRecord → SiteRecord} (keeps : KeepsIdentity f) :
    SitesInv (s.updLinkRecords l f) := by
  refine h.mapRecords fun r => ?_
  split
  · exact keeps r
  · rfl

/-! ### The site table's own operations -/

/-- A record found is in the table. -/
theorem SitesInv.removeRecord {s : State} (h : SitesInv s) {r : SiteRecord} (m : r ∈ s.stu.records) :
    SitesInv (s.removeRecord r) := by
  refine ⟨h.table.dropRecord m, fun l => ?_⟩
  rw [State.removeRecord_link]
  split <;> exact h.enrols l

/-- Several records of the table, one after the other. -/
theorem SitesInv.removeRecords : ∀ {rs : List SiteRecord} {s : State}, SitesInv s → (rs.map SiteRecord.handle).Nodup →
    (∀ r ∈ rs, r ∈ s.stu.records) → SitesInv (rs.foldl State.removeRecord s)
  | [], _, h, _, _ => h
  | r :: rs, _, h, once, mem => by
    obtain ⟨notAgain, once⟩ := List.nodup_cons.mp once
    refine (h.removeRecord (mem r List.mem_cons_self)).removeRecords once fun q mq => ?_
    refine SiteTable.mem_dropRecord.mpr ⟨mem q (List.mem_cons_of_mem _ mq), fun same => notAgain ?_⟩
    exact same ▸ List.mem_map_of_mem mq

/-- The records that a test picks can be removed one after the other. -/
theorem SitesInv.removeWhere {s : State} (h : SitesInv s) (p : SiteRecord → Bool) :
    SitesInv ((s.stu.records.filter p).foldl State.removeRecord s) :=
  h.removeRecords (h.table.handlesOnce.sublist (List.filter_sublist.map _)) fun _ m => (List.mem_filter.mp m).1

theorem SitesInv.createRecord {s : State} (h : SitesInv s) {k siteId : Nat} {l : LinkId} {drop : Nat} {cap : Option Capability}
    (free : k ∈ s.stu.freeHandles) (newId : s.stu.handleOf siteId = none) (newDrop : s.stu.dropEntry l drop = none)
    (within : 1 ≤ drop ∧ drop ≤ Config.maxDrop) (id : siteId ≠ 0) : SitesInv (s.createRecord k siteId l drop cap) :=
  ⟨h.table.addRecord (r := SiteRecord.new k siteId l drop cap s.stu.provisionalTimeout) free newId newDrop within id, h.enrols⟩

theorem SitesInv.createSite {s : State} (h : SitesInv s) {siteId : Nat} (l : LinkId) {drop : Nat}
    (within : 1 ≤ drop ∧ drop ≤ Config.maxDrop) (id : siteId ≠ 0) : SitesInv (createSite siteId l drop s).1 := by
  unfold Machine.createSite
  (repeat' split)
  · exact h
  · exact h
  · exact h
  · exact h
  · rename_i newId newDrop _ k rest free
    exact h.createRecord (free ▸ List.mem_cons_self) (Option.not_isSome_iff_eq_none.mp newId)
      (Option.not_isSome_iff_eq_none.mp newDrop) within id

/-- An index pair names a record (R70). -/
theorem SiteTableInv.find_handleOf {s : State} (h : SiteTableInv s.stu) {i k : Nat} (found : s.stu.handleOf i = some k) :
    ∃ r, s.record? k = some r := by
  obtain ⟨p, isP, rfl⟩ := Option.map_eq_some_iff.mp found
  obtain ⟨r, m, -, isK⟩ := (h.indexIs p.1 p.2).mp (List.mem_of_find?_eq_some isP)
  cases found : s.record? p.2 with
  | some q => exact ⟨q, rfl⟩
  | none =>
    have := List.find?_eq_none.mp found r m
    rw [beq_iff_eq] at this
    exact absurd isK this

theorem SitesInv.decideEnrol {s : State} (h : SitesInv s) (l : LinkId) {e : EnrolResult}
    (sound : 1 ≤ e.drop ∧ e.drop ≤ Config.maxDrop ∧ e.siteId ≠ 0) : SitesInv (s.decideEnrol l e) := by
  obtain ⟨least, most, id⟩ := sound
  unfold State.decideEnrol
  (repeat' split)
  · exact h.updRecord _ (by intro r; rfl)
  · exact h.updLink rfl
  · exact h.updLink rfl
  · exact h.updLink rfl
  · rename_i notFound newDrop _ k rest free
    have newId : s.stu.handleOf e.siteId = none := by
      cases found : s.stu.handleOf e.siteId with
      | none => rfl
      | some i =>
        obtain ⟨r, isR⟩ := h.table.find_handleOf found
        rw [found, Option.bind_some, isR] at notFound
        cases notFound
    exact h.createRecord (free ▸ List.mem_cons_self) newId (Option.not_isSome_iff_eq_none.mp newDrop) ⟨least, most⟩ id

theorem SitesInv.enrolResult {s : State} (h : SitesInv s) (l : LinkId) : SitesInv (s.after (.enrolResult l)) := by
  dsimp only [State.after, exec, execEnrolResult]
  split
  · exact h
  · rename_i e rest waiting
    have taken : SitesInv (s.updLink l (fun k => { k with toStu := rest })) := by
      refine ⟨h.table, fun m x mx => ?_⟩
      by_cases same : m = l
      · subst same
        rw [State.updLink_link_same] at mx
        exact h.enrols m x (waiting ▸ List.mem_cons_of_mem e mx)
      · rw [State.updLink_link_other _ _ same] at mx
        exact h.enrols m x mx
    have sound := h.enrols l e (waiting ▸ List.mem_cons_self)
    split
    · exact taken.updLink rfl
    · exact taken.decideEnrol l sound

theorem SitesInv.provisionalExpiry {s : State} (h : SitesInv s) : SitesInv (s.after .provisionalExpiry) := by
  have counted : SitesInv { s with stu := { s.stu with records := s.stu.records.map SiteRecord.countExpiry } } :=
    h.mapRecords fun r => by unfold SiteRecord.countExpiry; split <;> rfl
  exact counted.removeWhere SiteRecord.expired

theorem SitesInv.retireRecord {s : State} (h : SitesInv s) (now : Bool) {r : SiteRecord} (m : r ∈ s.stu.records) :
    SitesInv (retireRecord now r s).1 := by
  have queued : SitesInv (s.queueRetire r) :=
    SitesInv.updRecord (h.updLink (l := r.link) rfl) r.handle (by intro q; rfl)
  unfold Machine.retireRecord
  (repeat' split) <;> first | exact h | exact h.removeRecord m | exact queued

theorem SitesInv.admitRecord {s : State} (h : SitesInv s) (p : AdmitReq) (r : SiteRecord) : SitesInv (admitRecord p r s).1 := by
  unfold Machine.admitRecord admitClaim
  (repeat' split) <;> first | exact h | exact SitesInv.updRecord (h.updLink (l := r.link) rfl) r.handle (by intro q; rfl)

theorem SitesInv.amendAct {s : State} (h : SitesInv s) (p : AmendReq) (r : SiteRecord) (base : Option Nat) :
    SitesInv (amendAct p r base s).1 := by
  unfold Machine.amendAct
  cases base with
  | none => exact h.updRecord r.handle (by intro q; rfl)
  | some b => exact SitesInv.updRecord (h.updLink (l := r.link) rfl) r.handle (by intro q; rfl)

theorem SitesInv.amendRecord {s : State} (h : SitesInv s) (p : AmendReq) (r : SiteRecord) : SitesInv (amendRecord p r s).1 := by
  unfold Machine.amendRecord
  (repeat' split) <;> first | exact h | exact h.amendAct p r _

theorem SitesInv.amendGroupRecords {s : State} (h : SitesInv s) (p : AmendGroupReq) : SitesInv (amendGroupRecords p s).1 := by
  unfold Machine.amendGroupRecords
  dsimp only
  split
  · exact h
  · refine h.mapRecords fun r => ?_
    split <;> rfl

theorem SiteRecord.applyPending_identity (b : Nat) : KeepsIdentity (SiteRecord.applyPending b) := by
  intro r
  unfold SiteRecord.applyPending SiteRecord.applyMode
  dsimp only
  split <;> rfl

theorem Link.swapPending_toStu (r : SiteRecord) (l : Link) : (l.swapPending r).toStu = l.toStu := by
  unfold Link.swapPending
  split <;> rfl

theorem SitesInv.applyAmendments : ∀ (rs : List SiteRecord) {s : State}, SitesInv s → SitesInv (rs.foldl State.applyAmendment s)
  | [], _, h => h
  | r :: rs, s, h => by
    refine SitesInv.applyAmendments rs ?_
    unfold State.applyAmendment
    split
    · exact (h.updLink (Link.swapPending_toStu r _)).updRecord r.handle (SiteRecord.applyPending_identity _)
    · exact h

theorem SitesInv.warmReset {s : State} (h : SitesInv s) : SitesInv s.warmReset := by
  have removed := h.removeWhere SiteRecord.dropsOnWarm
  obtain ⟨table, enrols⟩ := removed.mapRecords (f := SiteRecord.warm) (by intro r; rfl)
  refine ⟨table, fun l e m => enrols l e ?_⟩
  have warm : (s.warmReset.link l).toStu = (((s.stu.records.filter SiteRecord.dropsOnWarm).foldl State.removeRecord s).link l).toStu := by
    show ((PerLink.map (Link.warm s.clock.now) ((s.stu.records.filter SiteRecord.dropsOnWarm).foldl State.removeRecord s).links).get
      l).toStu = _
    rw [PerLink.get_map]
    rfl
  exact warm ▸ m

/-! ### The link engines' operations on records -/

theorem SiteRecord.countMiss_fold_identity : ∀ (xs : List Exchange) (r : SiteRecord),
    (xs.foldl (fun q _ => q.countMiss) r).identity = r.identity
  | [], _ => rfl
  | _ :: xs, r => (SiteRecord.countMiss_fold_identity xs r.countMiss).trans rfl

theorem SiteRecord.closeHeld_identity : KeepsIdentity SiteRecord.closeHeld :=
  fun r => SiteRecord.countMiss_fold_identity _ { r with exchanges := r.exchanges.filter (fun x => !x.held) }

theorem SiteRecord.classify_identity (x : Exchange) (t : Instant) : KeepsIdentity (SiteRecord.classify x t) := by
  intro r
  unfold SiteRecord.classify
  dsimp only
  split <;> rfl

theorem SiteRecord.linkBoundary_identity (b turn : Nat) : KeepsIdentity (SiteRecord.linkBoundary b turn) := by
  intro r
  unfold SiteRecord.linkBoundary SiteRecord.autoAdjust
  dsimp only
  (repeat' split) <;> rfl

theorem Link.loseParent_toStu (l : Link) : l.loseParent.toStu = l.toStu := by
  unfold Link.loseParent
  split <;> rfl

theorem SitesInv.endFrame {s : State} (h : SitesInv s) (l : LinkId) : SitesInv (s.endFrame l) :=
  SitesInv.updLinkRecords (h.updLink (l := l) rfl) l SiteRecord.closeHeld_identity

theorem SitesInv.badFrame {s : State} (h : SitesInv s) (l : LinkId) : SitesInv (s.badFrame l) :=
  SitesInv.endFrame (h.updLink (l := l) rfl) l

theorem SitesInv.beginFrame {s : State} (h : SitesInv s) (l : LinkId) (t : Instant) : SitesInv (s.beginFrame l t) := by
  unfold State.beginFrame
  (repeat' split)
  · exact h
  · exact h.badFrame l
  · exact h

theorem SitesInv.leaveUp {s : State} (h : SitesInv s) (l : LinkId) : SitesInv (s.leaveUp l) := by
  unfold State.leaveUp
  split
  · exact (h.endFrame l).updLink (Link.loseParent_toStu _)
  · exact h

theorem SitesInv.restartLink {s : State} (h : SitesInv s) (l : LinkId) : SitesInv (s.restartLink l) := by
  unfold State.restartLink
  split
  · exact (h.leaveUp l).updLink rfl
  · exact h

theorem Link.newRole_toStu (role : LinkRole) (drop : Nat) (l : Link) : (l.leaveRole.enterRole role drop).toStu = l.toStu := by
  unfold Link.leaveRole Link.enterRole
  (repeat' split) <;> rfl

theorem SitesInv.setRole {s : State} (h : SitesInv s) (l : LinkId) (role : Option LinkRole) : SitesInv (s.setRole l role) := by
  unfold State.setRole
  (repeat' split)
  · exact h
  · exact (h.updLink (Link.newRole_toStu _ _ _)).restartLink l
  · exact h

theorem Link.requestSplit_toStu (p : Nat) (l : Link) : (l.requestSplit p).toStu = l.toStu := by
  unfold Link.requestSplit
  split <;> rfl

theorem SitesInv.setSplit {s : State} (h : SitesInv s) (l : LinkId) (split : Option Nat) : SitesInv (s.setSplit l split) := by
  cases split with
  | none => exact h
  | some v => exact h.updLink (Link.requestSplit_toStu v _)

theorem SitesInv.serveSlot {s : State} (h : SitesInv s) (l : LinkId) (slot : Nat) (p : Published) (r : SiteRecord) :
    SitesInv (s.serveSlot l slot p r) := by
  unfold State.serveSlot
  (repeat' split)
  · exact h
  · exact SitesInv.updRecord (h.updLink (l := l) rfl) r.handle (by intro q; rfl)
  · exact h.updRecord r.handle (by intro q; rfl)
  · exact h

theorem SitesInv.serveReply {s : State} (h : SitesInv s) (l : LinkId) (t : Instant) (addr slot index : Nat) :
    SitesInv (s.serveReply l t addr slot index) := by
  have counted {f : Link → Link} (keeps : ∀ k, (f k).toStu = k.toStu) : SitesInv (s.updLink l f) := h.updLink (keeps _)
  unfold State.serveReply State.hearReply
  dsimp only
  (repeat' split)
  · exact counted fun _ => rfl
  · exact h.updRecord _ (SiteRecord.classify_identity _ t)
  · exact (counted (f := Link.countStray) fun _ => rfl).updRecord _ (by intro q; rfl)
  all_goals exact counted fun _ => rfl

/-- Only a well-formed ENROL is handed to the site table (R75, R140). -/
theorem SitesInv.serveEnrol {s : State} (h : SitesInv s) (l : LinkId) (t : Instant) (addr siteId : Nat) (cap : Byte) :
    SitesInv (s.serveEnrol l t addr siteId cap) := by
  unfold State.serveEnrol
  (repeat' split)
  · exact h.updLink rfl
  · rename_i wellFormed
    obtain ⟨id, range⟩ := not_or.mp wellFormed
    have within : 1 ≤ addr ∧ addr ≤ Config.maxDrop := by simpa [inRange] using range
    refine ⟨h.table, fun m e me => ?_⟩
    by_cases same : m = l
    · subst same
      rw [State.updLink_link_same] at me
      rcases List.mem_append.mp me with me | me
      · exact h.enrols m e me
      · rw [List.mem_singleton.mp me]
        exact ⟨within.1, within.2, id⟩
    · rw [State.updLink_link_other _ _ same] at me
      exact h.enrols m e me
  all_goals exact h.updLink rfl

theorem SitesInv.serveFrame {s : State} (h : SitesInv s) (l : LinkId) (t : Instant) (f : LinkFrame) :
    SitesInv (s.serveFrame l t f) := by
  cases f with
  | reply addr slot index => exact h.serveReply l t addr slot index
  | enrol addr siteId cap => exact h.serveEnrol l t addr siteId cap
  | time | call | farewell => exact h.updLink rfl

theorem SitesInv.parentTime {s : State} (h : SitesInv s) (l : LinkId) (t : Instant) (f : TimeFrame) :
    SitesInv (s.parentTime l t f) := by
  have taken : SitesInv (s.updLink l (Link.takeTime t f)) := h.updLink rfl
  unfold State.parentTime
  dsimp only
  split
  · exact taken.updLink rfl
  · exact taken

theorem SitesInv.parentFrame {s : State} (h : SitesInv s) (l : LinkId) (t : Instant) (f : LinkFrame) :
    SitesInv (s.parentFrame l t f) := by
  have bad : SitesInv (s.updLink l Link.countBad) := h.updLink rfl
  unfold State.parentFrame State.parentCall State.parentFarewell
  dsimp only
  (repeat' split) <;>
    first | exact h | exact bad | exact h.parentTime l t _ | exact h.updLink rfl | exact h.updLink (Link.loseParent_toStu _)

theorem SitesInv.takeFrame {s : State} (h : SitesInv s) (l : LinkId) (t : Instant) (f : LinkFrame) : SitesInv (s.takeFrame l t f) := by
  unfold State.takeFrame
  (repeat' split)
  · exact (h.parentFrame l t f).endFrame l
  · exact (h.serveFrame l t f).endFrame l
  · exact h

theorem SitesInv.frameTaken {s : State} (h : SitesInv s) (l : LinkId) (t : Instant) (f : LinkFrame) :
    SitesInv (s.frameTaken l t f) := by
  have advanced := h.advance (frameEnd t f)
  unfold State.frameTaken
  dsimp only
  split
  · exact (advanced.beginFrame l t).takeFrame l t f
  · exact advanced

theorem SitesInv.takeChar {s : State} (h : SitesInv s) (l : LinkId) (t : Instant) (c : LinkChar) : SitesInv (s.takeChar l t c) := by
  unfold State.takeChar
  dsimp only
  (repeat' split)
  · exact (h.beginFrame l t).updLink rfl
  · exact h
  · exact h
  · exact h.badFrame l
  · exact h.updLink rfl
  · exact (h.advance _).takeFrame l _ _
  · exact h.badFrame l

theorem SitesInv.takeChars (l : LinkId) : ∀ (cs : List LinkChar) (t : Instant) {s : State}, SitesInv s → SitesInv (s.takeChars l t cs)
  | [], _, _, h => h
  | c :: cs, t, _, h => SitesInv.takeChars l cs (t + Config.charPs) ((h.advance t).takeChar l t c)

theorem SitesInv.endWindow {s : State} (h : SitesInv s) (l : LinkId) (slot index : Nat) (r : SiteRecord) :
    SitesInv (s.endWindow l slot index r) := by
  unfold State.endWindow
  (repeat' split) <;> exact h.updRecord r.handle (by intro q; rfl)

theorem SitesInv.nowReceiving {s : State} (h : SitesInv s) (l : LinkId) (receiving : Option RxFrame) :
    SitesInv (s.nowReceiving l receiving) := by
  unfold State.nowReceiving
  dsimp only
  (repeat' split)
  · exact ((h.advance _).beginFrame l _).updLink rfl
  · exact h.advance _
  · exact h

theorem Link.countSilence_toStu (l : Link) : l.countSilence.toStu = l.toStu := by
  unfold Link.countSilence Link.finishSilence
  (repeat' split)
  · exact Link.loseParent_toStu _
  · rfl
  · rfl

theorem Link.finishTraining_toStu (at' : Instant) (l : Link) : (l.finishTraining at').toStu = l.toStu := by
  unfold Link.finishTraining
  split <;> rfl

theorem Link.boundary_toStu (at' : Instant) (l : Link) : (l.boundary at').toStu = l.toStu := by
  unfold Link.boundary Link.countTraining Link.applySplit
  dsimp only
  rw [Link.countSilence_toStu, Link.finishTraining_toStu]
  (repeat' split) <;> rfl

/-! ### The statement -/

theorem sitesInv_cold (sense : PerLink Bool) (pending : List Instr) : SitesInv (State.cold sense pending) := by
  have empty (l : LinkId) : (State.cold sense pending).stu.dropMaps.get l = emptyDrops := by cases l <;> rfl
  have noEntry (l : LinkId) (d k : Nat) : ¬ (State.cold sense pending).stu.dropEntry l d = some k := by
    rw [SiteTable.dropEntry, empty, emptyDrops, List.getElem?_replicate]
    split <;> simp
  refine ⟨⟨List.Pairwise.nil, List.pairwise_lt_range, fun k => ?_, fun _ m => (nomatch m), List.Pairwise.nil, fun i k => ?_,
    fun _ m => (nomatch m), fun _ m => (nomatch m), fun l => ?_, fun l d k => ?_⟩, fun l e m => ?_⟩
  · exact List.mem_range.trans ⟨fun within => ⟨within, fun _ m => (nomatch m)⟩, And.left⟩
  · exact ⟨fun m => (nomatch m), fun ⟨_, m, _⟩ => (nomatch m)⟩
  · rw [empty]; exact List.length_replicate
  · exact ⟨fun named => absurd named.2 (noEntry l d k), fun ⟨_, m, _⟩ => (nomatch m)⟩
  · have none : ((State.cold sense pending).link l).toStu = [] := by cases l <;> rfl
    rw [none] at m
    cases m

theorem SitesInv.port {s : State} (port : Port) (h : SitesInv s) : SitesInv { s with port := port } := h.of_same rfl fun _ => rfl

/-- The requests of sites, links and hub keep the invariant. -/
theorem SitesInv.after_request {s : State} (h : SitesInv s) {i : Instr} (isRequest : i.isRequest = true) :
    SitesInv (s.after i) := by
  have unwritten (stu : .stu ∉ i.writes) (links : .links ∉ i.writes) : SitesInv (s.after i) :=
    h.of_same ((after_frame i s).stu stu) fun l => by rw [State.link, (after_frame i s).links links]; rfl
  have requested {tag : Nat} {act : State → State × Result × List Item} (acted : SitesInv (act s).1) :
      SitesInv (request tag act s) := request_keeps (fun _ port h => h.port port) h acted
  have onLinks {tag link : Nat} {act : LinkId → State → State × Result × List Item} (acted : ∀ l, SitesInv (act l s).1) :
      SitesInv (request tag (onLink link act) s) := by
    refine requested ?_
    unfold onLink
    split
    · exact acted _
    · exact h
  cases i with
  | hubSet tag p =>
    dsimp only [State.after, exec, execHubSet]
    refine requested ?_
    split
    · exact ⟨h.table.of_same rfl rfl rfl rfl, h.enrols⟩
    · exact h
  | deviceWarmReset tag =>
    dsimp only [State.after, exec, execDeviceWarmReset]
    exact requested h.warmReset
  | siteCreate tag siteId link drop =>
    dsimp only [State.after, exec, execSiteCreate]
    refine requested ?_
    (repeat' split)
    · exact h
    · exact h
    · rename_i l _ valid
      obtain ⟨id, range⟩ := not_or.mp valid
      exact h.createSite l (by simpa [inRange] using range) id
  | siteAdmit tag p =>
    dsimp only [State.after, exec, execSiteAdmit]
    refine requested ?_
    split
    · exact h
    · exact h.admitRecord p _
  | siteAmend tag p =>
    dsimp only [State.after, exec, execSiteAmend]
    refine requested ?_
    split
    · exact h
    · exact h.amendRecord p _
  | siteAmendGroup tag p =>
    dsimp only [State.after, exec, execSiteAmendGroup]
    refine requested ?_
    (repeat' split)
    · exact h
    · exact h
    · exact h.amendGroupRecords p
  | siteSuspend | siteResume | siteTakeCounts =>
    dsimp only [State.after, exec, execSiteSuspend, execSiteResume, execSiteTakeCounts]
    refine requested ?_
    (repeat' split) <;> first | exact h | exact h.updRecord _ (by intro r; rfl)
  | siteRetire tag handle now =>
    dsimp only [State.after, exec, execSiteRetire]
    refine requested ?_
    split
    · exact h
    · rename_i r found
      exact h.retireRecord now (State.record?_some found).1
  | enrolOpen | enrolClose | linkLookup =>
    dsimp only [State.after, exec, execEnrolOpen, execEnrolClose, execLinkLookup]
    refine onLinks fun l => ?_
    (repeat' split) <;> first | exact h | exact h.updLink rfl
  | linkSet tag link role split =>
    dsimp only [State.after, exec, execLinkSet]
    refine onLinks fun l => ?_
    unfold setLink
    (repeat' split) <;> first | exact h | exact (h.setRole l _).setSplit l _
  | linkRestart tag link => exact onLinks fun l => h.restartLink l
  | _ => first | (cases isRequest; done) | exact unwritten (by simp [Instr.writes]) (by simp [Instr.writes])

/-- The other commands keep it. -/
theorem SitesInv.after_timed {s : State} (h : SitesInv s) {i : Instr} (notRequest : i.isRequest = false) :
    SitesInv (s.after i) := by
  have unwritten (stu : .stu ∉ i.writes) (links : .links ∉ i.writes) : SitesInv (s.after i) :=
    h.of_same ((after_frame i s).stu stu) fun l => by rw [State.link, (after_frame i s).links links]; rfl
  have linkOnly {l : LinkId} {f : Link → Link} (keeps : ∀ k, (f k).toStu = k.toStu) : SitesInv (s.updLink l f) :=
    h.updLink (keeps _)
  have popped (l : LinkId) (rest : List ParentEvent) : SitesInv (s.updLink l (fun k => { k with toRm := rest })) := h.updLink rfl
  cases i with
  | coldReset sense => exact sitesInv_cold sense s.pending
  | parentEnrolledReport link =>
    dsimp only [State.after, exec, execParentEnrolledReport]
    split
    · exact (popped link _).of_same rfl fun _ => rfl
    all_goals exact h
  | parentLostReport link =>
    dsimp only [State.after, exec, execParentLostReport]
    split
    · exact (popped link _).of_same (State.loseParent_stu _) fun m => by
        rw [State.link, State.loseParent_links]; rfl
    · exact h
  | parentFrameMeasure link =>
    dsimp only [State.after, exec, execParentFrameMeasure]
    (repeat' split)
    · exact (popped link _).of_same (State.measureFrame_stu _ _ _) fun m => by
        rw [State.link, State.measureFrame_links]; rfl
    · exact popped link _
    all_goals exact h
  | provisionalExpiry => exact h.provisionalExpiry
  | amendmentApplication => exact SitesInv.applyAmendments s.stu.records h
  | serviceEvaluation older =>
    exact h.mapRecords fun r => by unfold SiteRecord.evaluate; split <;> rfl
  | linkEpochBoundary link =>
    exact (linkOnly (Link.boundary_toStu s.clock.boundaryAt)).updLinkRecords link (SiteRecord.linkBoundary_identity _ _)
  | enrolWindowExpiry link => exact linkOnly fun k => by unfold Link.closeCounted; split <;> rfl
  | trainingComplete link => exact linkOnly (Link.finishTraining_toStu _)
  | parentSilenceExpiry link =>
    exact linkOnly fun k => by unfold Link.finishSilence; split <;> first | rfl | exact Link.loseParent_toStu k
  | lineSenseLost link =>
    refine (h.leaveUp link).updLink ?_
    dsimp only
    split <;> rfl
  | lineSenseReturn link =>
    refine h.updLink ?_
    dsimp only
    split <;> rfl
  | deliverySlotStart link slot older =>
    dsimp only [State.after, exec, execDeliverySlotStart]
    split
    · exact (h.advance _).serveSlot link slot _ _
    · exact h.advance _
  | callSlot link older =>
    dsimp only [State.after, exec, execCallSlot]
    split
    · exact (h.advance _).updLink rfl
    · exact h.advance _
  | farewellSlot link slot =>
    dsimp only [State.after, exec, execFarewellSlot]
    (repeat' split)
    · rename_i r found
      obtain ⟨k, -, isR⟩ := Option.bind_eq_some_iff.mp found
      have sent : SitesInv ((s.advance (slotStart s.clock slot)).updLink link
          (Link.send (slotStart s.clock slot) (.farewell r.drop r.siteId s.port.hubIdentity))) := (h.advance _).updLink rfl
      exact sent.removeRecord (State.record?_some isR).1
    · exact h.advance _
    · exact h.advance _
  | exchangeWindowEnd link handle slot index receiving =>
    have received := h.nowReceiving link receiving
    dsimp only [State.after, exec, execExchangeWindowEnd]
    (repeat' split)
    · exact received.endWindow link slot index _
    · exact received
    · exact received
  | frameGapTimeout link =>
    dsimp only [State.after, exec, execFrameGapTimeout]
    split
    · exact h.badFrame link
    · exact h
  | replyFrame | enrolFrame | parentCallFrame | parentTimeFrame | parentFarewellFrame => exact h.frameTaken _ _ _
  | enrolResult link => exact h.enrolResult link
  | linkFrameDiscarded link instant chars =>
    dsimp only [State.after, exec, execLinkFrameDiscarded]
    split
    · exact SitesInv.takeChars link chars instant (h.advance instant)
    · exact h.advance instant
  | parentEnrolSend | parentReplySend =>
    dsimp only [State.after, exec, execParentEnrolSend, execParentReplySend]
    split
    · exact h
    · exact (h.advance _).updLink rfl
  | _ => first | (cases notRequest; done) | exact unwritten (by simp [Instr.writes]) (by simp [Instr.writes])

/-- Settles O58: requests and the other commands apart; none of them goes by the queue or the port. -/
theorem stepKeepsSites : Obligations.StepKeepsSites := by
  refine step_keeps (P := SitesInv) (fun s _ _ h => h.of_same rfl fun _ => rfl) fun i s h => ?_
  cases isRequest : i.isRequest with
  | true => exact h.after_request isRequest
  | false => exact h.after_timed isRequest

end Sys2Proof.Machine
end

section
/-! PROOF. What every step keeps of the alarm table: retirement, acknowledgement, the scan and the notify line. -/

namespace Sys2Proof.Machine

open Sys2Proof

/-! ### The shape of the entries, and the line -/

/-- What the invariant says of the entries, without the notify line. -/
def AlarmTable.Shaped (t : AlarmTable) : Prop := AlarmInv { t with asserted := false }

/-- What the invariant says of the notify line. -/
def AlarmTable.LineSound (t : AlarmTable) : Prop :=
  t.asserted = true → t.armed = false ∧ ∃ e ∈ t.entries, e.qualifies t.threshold = true

theorem alarmInv_iff (t : AlarmTable) : AlarmInv t ↔ t.Shaped ∧ t.LineSound := by
  constructor
  · intro h
    exact ⟨⟨h.indexWithin, h.fullIndex, h.indexOnce, h.kindOnce, h.kinds, h.settled, h.serials, h.nextSet, h.serialBelow, h.roots,
      fun asserted => absurd asserted (by simp)⟩, h.line⟩
  · intro ⟨h, line⟩
    exact ⟨h.indexWithin, h.fullIndex, h.indexOnce, h.kindOnce, h.kinds, h.settled, h.serials, h.nextSet, h.serialBelow, h.roots, line⟩

theorem AlarmTable.Shaped.of_same {t u : AlarmTable} (h : t.Shaped) (entries : u.entries = t.entries)
    (nextSerial : u.nextSerial = t.nextSerial) : u.Shaped := by
  obtain ⟨es, next, last, asserted, armed, threshold⟩ := u
  obtain rfl : es = t.entries := entries
  obtain rfl : next = t.nextSerial := nextSerial
  exact ⟨h.indexWithin, h.fullIndex, h.indexOnce, h.kindOnce, h.kinds, h.settled, h.serials, h.nextSet, h.serialBelow, h.roots,
    fun asserted => absurd asserted (by simp)⟩

/-- What no change of an entry in place touches. -/
def AlarmEntry.identity (e : AlarmEntry) : Nat × Nat × AlarmSource × AlarmKind := (e.index, e.serial, e.source, e.kind)

theorem AlarmEntry.identity_eq {e f : AlarmEntry} :
    f.identity = e.identity ↔ f.index = e.index ∧ f.serial = e.serial ∧ f.source = e.source ∧ f.kind = e.kind := by
  simp [AlarmEntry.identity]

/-- Entries taken out, and the others changed in place: what is left to show is that no CLEARED entry is acknowledged and
that every mark names an entry that stays, an ACTIVE root. -/
theorem AlarmTable.Shaped.rewrite {t : AlarmTable} (h : t.Shaped) (p : AlarmEntry → Bool) (f : AlarmEntry → AlarmEntry)
    (keeps : ∀ e, (f e).identity = e.identity)
    (settled : ∀ e ∈ t.entries, p e = true → (f e).condition = .cleared → (f e).acknowledged = false)
    (roots : ∀ e ∈ t.entries, p e = true → ∀ k, (f e).root = some k →
      ∃ g ∈ t.entries, p g = true ∧ g.index = k ∧ (f g).condition = .active ∧ g.kind.isRoot) :
    AlarmTable.Shaped { t with entries := (t.entries.filter p).map f } := by
  have index (e) : (f e).index = e.index := (AlarmEntry.identity_eq.mp (keeps e)).1
  have serial (e) : (f e).serial = e.serial := (AlarmEntry.identity_eq.mp (keeps e)).2.1
  have source (e) : (f e).source = e.source := (AlarmEntry.identity_eq.mp (keeps e)).2.2.1
  have kind (e) : (f e).kind = e.kind := (AlarmEntry.identity_eq.mp (keeps e)).2.2.2
  have each {q : AlarmEntry → Prop} (all : ∀ e ∈ t.entries, p e = true → q (f e)) :
      ∀ e ∈ (t.entries.filter p).map f, q e := by
    intro e m
    obtain ⟨a, ma, rfl⟩ := List.mem_map.mp m
    exact all a (List.mem_filter.mp ma).1 (List.mem_filter.mp ma).2
  have part {α : Type} (g : AlarmEntry → α) (same : ∀ e, g (f e) = g e) :
      (((t.entries.filter p).map f).map g).Sublist (t.entries.map g) := by
    have unchanged : g ∘ f = g := funext same
    rw [List.map_map, unchanged]
    exact List.filter_sublist.map g
  refine ⟨each fun e m _ => ?_, each fun e m _ => ?_, h.indexOnce.sublist (part _ index),
    h.kindOnce.sublist (part _ fun e => by rw [source, kind]), each fun e m _ => ?_, each settled,
    h.serials.sublist (part _ serial), h.nextSet, each fun e m _ => ?_, each fun e m q k marked => ?_, fun a => absurd a (by simp)⟩
  · rw [index]; exact h.indexWithin e m
  · rw [index, kind]; exact h.fullIndex e m
  · rw [source, kind]; exact h.kinds e m
  · rw [serial]; exact h.serialBelow e m
  · obtain ⟨g, mg, stays, isK, active, isRoot⟩ := roots e m q k marked
    exact ⟨f g, List.mem_map_of_mem (List.mem_filter.mpr ⟨mg, stays⟩), (index g).trans isK, active, (kind g).symm ▸ isRoot⟩

/-- Entries changed in place. -/
theorem AlarmTable.Shaped.mapEntries {t : AlarmTable} (h : t.Shaped) (f : AlarmEntry → AlarmEntry)
    (keeps : ∀ e, (f e).identity = e.identity)
    (settled : ∀ e ∈ t.entries, (f e).condition = .cleared → (f e).acknowledged = false)
    (roots : ∀ e ∈ t.entries, ∀ k, (f e).root = some k →
      ∃ g ∈ t.entries, g.index = k ∧ (f g).condition = .active ∧ g.kind.isRoot) :
    AlarmTable.Shaped { t with entries := t.entries.map f } := by
  have all : t.entries.filter (fun _ => true) = t.entries := List.filter_eq_self.mpr fun _ _ => rfl
  rw [← all]
  exact h.rewrite (fun _ => true) f keeps (fun e m _ => settled e m) fun e m _ k marked => by
    obtain ⟨g, mg, isK, active, isRoot⟩ := roots e m k marked
    exact ⟨g, mg, rfl, isK, active, isRoot⟩

/-- An entry that joins the table under an index of no other, of a source and kind of no other, and marked, if it is, with an
ACTIVE root. -/
theorem AlarmTable.Shaped.add {t : AlarmTable} (h : t.Shaped) {k : Nat} {src : AlarmSource} {kind : AlarmKind}
    {root : Option Nat} (severity : Severity) (seconds : Seconds) (unrecorded : Nat) (within : k ≤ Config.tableFullIndex)
    (full : k = Config.tableFullIndex ↔ kind = .tableFull) (belongs : kind.belongsTo src)
    (free : ∀ e ∈ t.entries, e.index ≠ k) (fresh : ∀ e ∈ t.entries, ¬ (e.source = src ∧ e.kind = kind))
    (marked : ∀ i, root = some i → ∃ g ∈ t.entries, g.index = i ∧ g.condition = .active ∧ g.kind.isRoot) :
    (t.add k src kind severity root seconds unrecorded).Shaped := by
  have next : 1 ≤ t.nextSerial := h.nextSet
  have each {q : AlarmEntry → Prop} (old : ∀ e ∈ t.entries, q e)
      (new : q (AlarmEntry.new k t.nextSerial src kind severity root seconds unrecorded)) :
      ∀ e ∈ t.entries ++ [AlarmEntry.new k t.nextSerial src kind severity root seconds unrecorded], q e := by
    intro e m
    rcases List.mem_append.mp m with m | m
    · exact old e m
    · rw [List.mem_singleton.mp m]; exact new
  have apart {α : Type} {r : α → α → Prop} (g : AlarmEntry → α) (old : (t.entries.map g).Pairwise r)
      (new : ∀ e ∈ t.entries, r (g e) (g (AlarmEntry.new k t.nextSerial src kind severity root seconds unrecorded))) :
      ((t.entries ++ [AlarmEntry.new k t.nextSerial src kind severity root seconds unrecorded]).map g).Pairwise r := by
    rw [List.map_append]
    refine List.pairwise_append.mpr ⟨old, List.pairwise_singleton _ _, fun a ma b mb => ?_⟩
    obtain ⟨e, me, rfl⟩ := List.mem_map.mp ma
    rw [List.mem_singleton.mp mb]
    exact new e me
  refine ⟨each h.indexWithin within, each h.fullIndex full, apart _ h.indexOnce free,
    apart _ h.kindOnce fun e m same => fresh e m (Prod.mk.inj same), each h.kinds belongs,
    each h.settled fun cleared => (nomatch cleared),
    apart _ h.serials fun e m => (h.serialBelow e m).2, Nat.le_succ_of_le next,
    each (fun e m => ⟨(h.serialBelow e m).1, Nat.lt_succ_of_lt (h.serialBelow e m).2⟩) ⟨next, Nat.lt_succ_self _⟩,
    each (fun e m i mark => ?_) fun i mark => ?_, fun a => absurd a (by simp)⟩
  · obtain ⟨g, mg, rest⟩ := h.roots e m i mark
    exact ⟨g, List.mem_append_left _ mg, rest⟩
  · obtain ⟨g, mg, rest⟩ := marked i mark
    exact ⟨g, List.mem_append_left _ mg, rest⟩

/-! ### Retirement -/

@[simp] theorem AlarmEntry.unmark_identity (gone : List Nat) (e : AlarmEntry) : (e.unmark gone).identity = e.identity := by
  rw [AlarmEntry.unmark_eq]; rfl

@[simp] theorem AlarmEntry.unmark_condition (gone : List Nat) (e : AlarmEntry) : (e.unmark gone).condition = e.condition := by
  rw [AlarmEntry.unmark_eq]

@[simp] theorem AlarmEntry.unmark_acknowledged (gone : List Nat) (e : AlarmEntry) : (e.unmark gone).acknowledged = e.acknowledged := by
  rw [AlarmEntry.unmark_eq]

/-- A mark left names no index that is gone. -/
theorem AlarmEntry.unmark_root_some {gone : List Nat} {e : AlarmEntry} {k : Nat} (marked : (e.unmark gone).root = some k) :
    e.root = some k ∧ k ∉ gone := by
  rw [AlarmEntry.unmark_root] at marked
  split at marked
  · cases marked
  · rename_i none
    exact ⟨marked, fun m => none ⟨k, marked, m⟩⟩

/-- An entry that no index gone names is not among those that go. -/
theorem not_of_index_notMem {es : List AlarmEntry} {p : AlarmEntry → Bool} {g : AlarmEntry} (m : g ∈ es)
    (out : g.index ∉ (es.filter p).map AlarmEntry.index) : p g = false :=
  Bool.eq_false_iff.mpr fun yes => out (List.mem_map_of_mem (List.mem_filter.mpr ⟨m, yes⟩))

/-- Whatever is retired, the marks that name it come off. -/
theorem AlarmTable.Shaped.retireWhere {t : AlarmTable} (h : t.Shaped) (p : AlarmEntry → Bool) : (t.retireWhere p).Shaped := by
  refine h.rewrite _ _ (AlarmEntry.unmark_identity _) (fun e m _ => ?_) fun e m _ k marked => ?_
  · rw [AlarmEntry.unmark_condition, AlarmEntry.unmark_acknowledged]; exact h.settled e m
  · obtain ⟨wasMarked, stays⟩ := AlarmEntry.unmark_root_some marked
    obtain ⟨g, mg, rfl, active, isRoot⟩ := h.roots e m k wasMarked
    have kept : p g = false := not_of_index_notMem mg stays
    exact ⟨g, mg, by rw [kept]; rfl, rfl, (AlarmEntry.unmark_condition _ g).trans active, isRoot⟩

theorem AlarmTable.mem_retireWhere {t : AlarmTable} {p : AlarmEntry → Bool} {e : AlarmEntry} (m : e ∈ (t.retireWhere p).entries) :
    ∃ a ∈ t.entries, p a = false ∧ ∃ gone, e = a.unmark gone := by
  obtain ⟨a, ma, rfl⟩ := List.mem_map.mp m
  have stays := (List.mem_filter.mp ma).2
  exact ⟨a, (List.mem_filter.mp ma).1, by simpa using stays, _, rfl⟩

theorem AlarmTable.Shaped.settle {t : AlarmTable} (h : t.Shaped) : t.settle.Shaped := h.of_same rfl rfl

/-- Settling leaves the line sound where the armed flag is off with the line asserted. -/
theorem AlarmTable.settle_lineSound {t : AlarmTable} (disarmed : t.asserted = true → t.armed = false) : t.settle.LineSound := by
  intro asserted
  obtain ⟨was, some⟩ := Bool.and_eq_true_iff.mp asserted
  exact ⟨disarmed was, List.any_eq_true.mp some⟩

/-- The line's flags are untouched, and the entries keep their shape. -/
theorem AlarmInv.settle {t u : AlarmTable} (h : AlarmInv t) (shaped : u.Shaped) (asserted : u.asserted = t.asserted)
    (armed : u.armed = t.armed) : AlarmInv u.settle :=
  (alarmInv_iff _).mpr ⟨shaped.settle, AlarmTable.settle_lineSound fun line => armed.trans (h.line (asserted ▸ line)).1⟩

theorem AlarmInv.removeRecord {s : State} (h : AlarmInv s.atu) (r : SiteRecord) : AlarmInv (s.removeRecord r).atu :=
  h.settle (((alarmInv_iff _).mp h).1.retireWhere _) rfl rfl

theorem AlarmInv.removeRecords : ∀ (rs : List SiteRecord) {s : State}, AlarmInv s.atu → AlarmInv (rs.foldl State.removeRecord s).atu
  | [], _, h => h
  | r :: rs, _, h => AlarmInv.removeRecords rs (h.removeRecord r)

/-! ### Acknowledgement -/

theorem AlarmEntry.ack_identity (seconds : Seconds) (e : AlarmEntry) : (e.ack seconds).identity = e.identity := by
  unfold AlarmEntry.ack; split <;> rfl

theorem AlarmEntry.ack_condition (seconds : Seconds) (e : AlarmEntry) : (e.ack seconds).condition = e.condition := by
  unfold AlarmEntry.ack; split <;> rfl

theorem AlarmEntry.ack_root (seconds : Seconds) (e : AlarmEntry) : (e.ack seconds).root = e.root := by
  unfold AlarmEntry.ack; split <;> rfl

/-- Only an ACTIVE entry is stamped. -/
theorem AlarmEntry.ack_of_cleared {e : AlarmEntry} (seconds : Seconds) (cleared : e.condition = .cleared) : e.ack seconds = e := by
  unfold AlarmEntry.ack; rw [cleared]; rfl

theorem AlarmInv.ackWhere {t : AlarmTable} (h : AlarmInv t) (p : AlarmEntry → Bool) (seconds : Seconds) :
    AlarmInv (t.ackWhere p seconds) := by
  have retired := ((alarmInv_iff _).mp h).1.retireWhere (fun e => p e && e.condition == .cleared)
  refine h.settle (retired.mapEntries _ (fun e => ?_) (fun e m cleared => ?_) fun e m k marked => ?_) rfl rfl
  · split
    · exact e.ack_identity seconds
    · rfl
  · split at cleared <;> split <;> try contradiction
    · rw [AlarmEntry.ack_condition] at cleared
      rw [e.ack_of_cleared seconds cleared]
      exact retired.settled e m cleared
    · exact retired.settled e m cleared
  · have wasMarked : e.root = some k := by
      split at marked
      · rwa [AlarmEntry.ack_root] at marked
      · exact marked
    obtain ⟨g, mg, isK, active, isRoot⟩ := retired.roots e m k wasMarked
    refine ⟨g, mg, isK, ?_, isRoot⟩
    split
    · rwa [AlarmEntry.ack_condition]
    · exact active

/-! ### One source of the scan -/

/-- What a source of the walk may present: kinds of its own, each with a root, if any, that is the timebase or a link. -/
structure Scannable (src : AlarmSource) (found : List Found) : Prop where
  notTable : src ≠ .table
  kinds : ∀ f ∈ found, f.kind.belongsTo src
  rootKind : ∀ f ∈ found, ∀ x k, f.rootSource = some x → AlarmKind.belongsTo k x → k.isRoot

theorem timebaseFound_scannable (p : Published) : Scannable .timebase (timebaseFound p) := by
  refine ⟨nofun, fun f m => ?_, fun f m => ?_⟩ <;> unfold timebaseFound at m <;>
    (split at m <;> simp only [List.mem_singleton, List.not_mem_nil] at m <;> subst m <;> simp [AlarmKind.belongsTo])

theorem refFound_scannable (s : State) (r : RefId) : Scannable (.ref r) (refFound s r) := by
  refine ⟨nofun, fun f m => ?_, fun f m => ?_⟩ <;> unfold refFound at m <;>
    ((repeat' split at m) <;> simp only [List.mem_singleton, List.not_mem_nil] at m <;> subst m <;> simp [AlarmKind.belongsTo])

theorem linkFound_scannable (l : LinkId) (k : Link) : Scannable (.link l) (linkFound k) := by
  refine ⟨nofun, fun f m => ?_, fun f m => ?_⟩ <;> unfold linkFound at m <;>
    (split at m <;> simp only [List.mem_singleton, List.not_mem_nil] at m; subst m; simp [AlarmKind.belongsTo])

theorem isRoot_of_timebase {k : AlarmKind} (h : k.belongsTo .timebase) : k.isRoot := by
  rcases h with rfl | rfl | rfl <;> simp [AlarmKind.isRoot]

theorem isRoot_of_link {k : AlarmKind} {l : LinkId} (h : k.belongsTo (.link l)) : k.isRoot := by
  obtain rfl : k = .linkDown := h
  simp [AlarmKind.isRoot]

theorem mem_serviceFound {r : SiteRecord} {f : Found} (m : f ∈ serviceFound r) :
    f.kind = .siteService ∧ f.rootSource = some .timebase := by
  unfold serviceFound at m
  split at m <;> simp only [List.mem_singleton, List.not_mem_nil] at m <;> subst m <;> exact ⟨rfl, rfl⟩

theorem mem_silenceFound {r : SiteRecord} {f : Found} (m : f ∈ silenceFound r) :
    f.kind = .siteSilence ∧ f.rootSource = some (.link r.link) := by
  unfold silenceFound at m
  split at m <;> simp only [List.mem_singleton, List.not_mem_nil] at m <;> subst m <;> exact ⟨rfl, rfl⟩

theorem mem_siteFound {r : SiteRecord} {f : Found} (m : f ∈ siteFound r) : f ∈ serviceFound r ∨ f ∈ silenceFound r := by
  unfold siteFound at m
  split at m
  · exact List.mem_append.mp m
  · cases m

theorem siteFound_scannable (h i : Nat) (r : SiteRecord) : Scannable (.site h i) (siteFound r) := by
  refine ⟨nofun, fun f m => ?_, fun f m x k isX belongs => ?_⟩ <;> rcases mem_siteFound m with m | m
  · exact Or.inl (mem_serviceFound m).1
  · exact Or.inr (mem_silenceFound m).1
  · obtain rfl : .timebase = x := Option.some.inj ((mem_serviceFound m).2.symm.trans isX)
    exact isRoot_of_timebase belongs
  · obtain rfl : .link r.link = x := Option.some.inj ((mem_silenceFound m).2.symm.trans isX)
    exact isRoot_of_link belongs

theorem sourcesFound_scannable (s : State) (p : Published) : ∀ x ∈ sourcesFound s p, Scannable x.1 x.2 := by
  intro x m
  simp only [sourcesFound, List.mem_append, List.mem_cons, List.mem_map, List.cons_append] at m
  obtain rfl | ((⟨r, -, rfl⟩ | ⟨l, -, rfl⟩) | ⟨r, -, rfl⟩) := m
  · exact timebaseFound_scannable p
  · exact refFound_scannable s r
  · exact linkFound_scannable l _
  · exact siteFound_scannable _ _ r

theorem AlarmEntry.clear_identity (seconds : Seconds) (e : AlarmEntry) : (e.clear seconds).identity = e.identity := rfl

/-- A condition that has gone takes its marks with it, and an acknowledged entry of it. -/
theorem AlarmTable.Shaped.clearAbsent {t : AlarmTable} (h : t.Shaped) (seconds : Seconds) (src : AlarmSource) (found : List Found) :
    (t.clearAbsent seconds src found).Shaped := by
  have left := h.retireWhere (fun e => e.isGone src found && e.acknowledged)
  have sameGone (gone : List Nat) (a : AlarmEntry) : (a.unmark gone).isGone src found = a.isGone src found := by
    rw [AlarmEntry.unmark_eq]; rfl
  refine left.mapEntries _ (fun e => ?_) (fun e m cleared => ?_) fun e m k marked => ?_
  · rw [AlarmEntry.unmark_identity]; split <;> rfl
  · rw [AlarmEntry.unmark_condition] at cleared
    rw [AlarmEntry.unmark_acknowledged]
    obtain ⟨a, -, stays, gone, rfl⟩ := AlarmTable.mem_retireWhere m
    split
    · rename_i isGone
      rw [sameGone] at isGone
      rw [isGone] at stays
      exact (AlarmEntry.unmark_acknowledged gone a).trans stays
    · rename_i stayed
      rw [if_neg stayed] at cleared
      exact left.settled _ m cleared
  · obtain ⟨wasMarked, stays⟩ := AlarmEntry.unmark_root_some marked
    have root : e.root = some k := by
      split at wasMarked <;> exact wasMarked
    obtain ⟨g, mg, rfl, active, isRoot⟩ := left.roots e m k root
    refine ⟨g, mg, rfl, ?_, isRoot⟩
    obtain ⟨a, ma, -, gone, rfl⟩ := AlarmTable.mem_retireWhere mg
    have index : (a.unmark gone).index = a.index := by rw [AlarmEntry.unmark_eq]
    rw [index] at stays
    have stayed : (a.unmark gone).isGone src found = false := (sameGone gone a).trans (not_of_index_notMem ma stays)
    rw [AlarmEntry.unmark_condition, stayed]
    exact active

/-- The index found for a root is that of an ACTIVE entry of the source. -/
theorem AlarmTable.rootOf_some {t : AlarmTable} {src : Option AlarmSource} {k : Nat} (found : t.rootOf src = some k) :
    ∃ x, src = some x ∧ ∃ g ∈ t.entries, g.index = k ∧ g.condition = .active ∧ g.source = x := by
  cases src with
  | none => cases found
  | some x =>
    obtain ⟨g, isG, rfl⟩ := Option.map_eq_some_iff.mp found
    have test := List.find?_some isG
    simp only [Bool.and_eq_true, beq_iff_eq] at test
    exact ⟨x, rfl, g, List.mem_of_find?_eq_some isG, rfl, test.2, test.1⟩

theorem AlarmTable.freeIndex_some {t : AlarmTable} {k : Nat} (found : t.freeIndex = some k) :
    k < Config.generalAlarms ∧ ∀ e ∈ t.entries, e.index ≠ k := by
  have test := List.find?_some found
  have within := List.mem_range.mp (List.mem_of_find?_eq_some found)
  exact ⟨within, fun e m isK => by simp only [Bool.not_eq_true', List.any_eq_false, beq_iff_eq] at test; exact test e m isK⟩

theorem AlarmEntry.meet_identity (f : Found) (root : Option Nat) (seconds : Seconds) (e : AlarmEntry) :
    (e.meet f root seconds).identity = e.identity := by
  unfold AlarmEntry.meet AlarmEntry.follow
  (repeat' split) <;> rfl

/-- An entry met is ACTIVE. -/
theorem AlarmEntry.meet_condition (f : Found) (root : Option Nat) (seconds : Seconds) (e : AlarmEntry) :
    (e.meet f root seconds).condition = .active := by
  unfold AlarmEntry.meet AlarmEntry.follow
  (repeat' split) <;> first | rfl | assumption

theorem AlarmEntry.meet_root {f : Found} {root : Option Nat} {seconds : Seconds} {e : AlarmEntry} {k : Nat}
    (marked : (e.meet f root seconds).root = some k) : root = some k ∨ e.root = some k := by
  unfold AlarmEntry.meet AlarmEntry.follow at marked
  (repeat' split at marked) <;> first | exact Or.inl marked | exact Or.inr marked

/-- The mark that a condition is given names an ACTIVE root. -/
theorem AlarmTable.Shaped.rootOf {t : AlarmTable} (h : t.Shaped) {src : AlarmSource} {found : List Found}
    (scannable : Scannable src found) {f : Found} (m : f ∈ found) {k : Nat} (marked : t.rootOf f.rootSource = some k) :
    ∃ g ∈ t.entries, g.index = k ∧ g.condition = .active ∧ g.kind.isRoot := by
  obtain ⟨x, isX, g, mg, isK, active, rfl⟩ := AlarmTable.rootOf_some marked
  exact ⟨g, mg, isK, active, scannable.rootKind f m _ _ isX (h.kinds g mg)⟩

theorem AlarmTable.Shaped.present {c : Scan} (h : c.table.Shaped) (seconds : Seconds) {src : AlarmSource} {found : List Found}
    (scannable : Scannable src found) {f : Found} (m : f ∈ found) : (c.present seconds src f).table.Shaped := by
  unfold Scan.present
  dsimp only
  split
  · refine h.mapEntries _ (fun e => ?_) (fun e me cleared => ?_) fun e me k marked => ?_
    · split
      · exact e.meet_identity _ _ _
      · rfl
    · split at cleared
      · rw [AlarmEntry.meet_condition] at cleared; cases cleared
      · rename_i other
        rw [if_neg other]
        exact h.settled e me cleared
    · have root : c.table.rootOf f.rootSource = some k ∨ e.root = some k := by
        split at marked
        · exact AlarmEntry.meet_root marked
        · exact Or.inr marked
      obtain ⟨g, mg, isK, active, isRoot⟩ := root.elim (h.rootOf scannable m) (h.roots e me k)
      refine ⟨g, mg, isK, ?_, isRoot⟩
      split
      · exact g.meet_condition _ _ _
      · exact active
  · rename_i fresh
    split
    · rename_i k free
      obtain ⟨within, unused⟩ := AlarmTable.freeIndex_some free
      have notFull : f.kind ≠ .tableFull := fun full => by
        have belongs := scannable.kinds f m
        rw [full] at belongs
        cases src <;> simp [AlarmKind.belongsTo] at belongs
        exact scannable.notTable rfl
      have below : k < Config.tableFullIndex := within
      refine h.add _ _ _ below.le ⟨fun full => absurd full below.ne, fun full => absurd full notFull⟩ (scannable.kinds f m) unused
        (fun e me same => fresh (List.any_eq_true.mpr ⟨e, me, by simp [same]⟩)) fun i marked => h.rootOf scannable m marked
    · exact h

theorem AlarmTable.Shaped.presents {seconds : Seconds} {src : AlarmSource} {found : List Found} (scannable : Scannable src found) :
    ∀ (fs : List Found) {c : Scan}, (∀ f ∈ fs, f ∈ found) → c.table.Shaped →
      (fs.foldl (Scan.present seconds src) c).table.Shaped
  | [], _, _, h => h
  | f :: fs, _, within, h =>
    AlarmTable.Shaped.presents scannable fs (fun g m => within g (List.mem_cons_of_mem f m))
      (h.present seconds scannable (within f List.mem_cons_self))

theorem AlarmTable.Shaped.scan {seconds : Seconds} : ∀ (xs : List (AlarmSource × List Found)) {c : Scan},
    (∀ x ∈ xs, Scannable x.1 x.2) → c.table.Shaped → (xs.foldl (Scan.source seconds) c).table.Shaped
  | [], _, _, h => h
  | x :: xs, c, each, h => by
    refine AlarmTable.Shaped.scan xs (fun y m => each y (List.mem_cons_of_mem x m)) ?_
    exact AlarmTable.Shaped.presents (each x List.mem_cons_self) x.2 (fun _ m => m) (h.clearAbsent seconds x.1 x.2)

/-! ### The end of the scan -/

theorem AlarmEntry.fillAgain_identity (n : Nat) (seconds : Seconds) (e : AlarmEntry) : (e.fillAgain n seconds).identity = e.identity := by
  unfold AlarmEntry.fillAgain; split <;> rfl

theorem AlarmEntry.fillAgain_condition (n : Nat) (seconds : Seconds) (e : AlarmEntry) : (e.fillAgain n seconds).condition = .active := by
  unfold AlarmEntry.fillAgain
  split
  · rfl
  · assumption

theorem AlarmEntry.fillAgain_root (n : Nat) (seconds : Seconds) (e : AlarmEntry) : (e.fillAgain n seconds).root = e.root := by
  unfold AlarmEntry.fillAgain; split <;> rfl

theorem not_isRoot_tableFull {k : AlarmKind} (isRoot : k.isRoot) : (k == .tableFull) = false := by
  rcases isRoot with rfl | rfl | rfl | rfl <;> rfl

theorem AlarmTable.Shaped.settleFull {t : AlarmTable} (h : t.Shaped) (n : Nat) (seconds : Seconds) : (t.settleFull n seconds).Shaped := by
  unfold AlarmTable.settleFull
  dsimp only
  have counted {u : AlarmTable} (h : u.Shaped) : AlarmTable.Shaped { u with lastUnrecorded := n } := h.of_same rfl rfl
  refine counted ?_
  (repeat' split)
  · refine h.mapEntries _ (fun e => ?_) (fun e m cleared => ?_) fun e m k marked => ?_
    · split
      · exact e.fillAgain_identity n seconds
      · rfl
    · split at cleared
      · rw [AlarmEntry.fillAgain_condition] at cleared; cases cleared
      · rename_i other
        rw [if_neg other]
        exact h.settled e m cleared
    · have root : e.root = some k := by
        split at marked
        · rwa [AlarmEntry.fillAgain_root] at marked
        · exact marked
      obtain ⟨g, mg, isK, active, isRoot⟩ := h.roots e m k root
      refine ⟨g, mg, isK, ?_, isRoot⟩
      split
      · exact g.fillAgain_condition n seconds
      · exact active
  · rename_i none
    have other (e) (m : e ∈ t.entries) : e.kind ≠ .tableFull := fun full => none (List.any_eq_true.mpr ⟨e, m, by simp [full]⟩)
    exact h.add _ _ _ le_rfl ⟨fun _ => rfl, fun _ => rfl⟩ rfl (fun e m full => other e m ((h.fullIndex e m).mp full))
      (fun e m same => other e m same.2) fun _ marked => nomatch marked
  · have left := h.retireWhere (fun e => e.kind == .tableFull && e.condition == .active && e.acknowledged)
    refine left.mapEntries _ (fun e => ?_) (fun e m cleared => ?_) fun e m k marked => ?_
    · split <;> rfl
    · split
      · rename_i full
        obtain ⟨a, -, stays, gone, rfl⟩ := AlarmTable.mem_retireWhere m
        have same : ((a.unmark gone).kind == .tableFull && (a.unmark gone).condition == .active)
            = (a.kind == .tableFull && a.condition == .active) := by rw [AlarmEntry.unmark_eq]
        rw [same] at full
        rw [full] at stays
        exact (AlarmEntry.unmark_acknowledged gone a).trans stays
      · rename_i other
        rw [if_neg other] at cleared
        exact left.settled e m cleared
    · have root : e.root = some k := by
        split at marked <;> exact marked
      obtain ⟨g, mg, isK, active, isRoot⟩ := left.roots e m k root
      refine ⟨g, mg, isK, ?_, isRoot⟩
      rw [if_neg (by simp [not_isRoot_tableFull isRoot])]
      exact active

/-! ### What the scan leaves of the line -/

/-- The flags of the notify line, and its threshold. -/
def AlarmTable.notify (t : AlarmTable) : Bool × Bool × Severity := (t.asserted, t.armed, t.threshold)

theorem Scan.present_notify (seconds : Seconds) (src : AlarmSource) (c : Scan) (f : Found) :
    (c.present seconds src f).table.notify = c.table.notify := by
  unfold Scan.present
  dsimp only
  (repeat' split) <;> rfl

theorem Scan.source_notify (seconds : Seconds) (c : Scan) (x : AlarmSource × List Found) :
    (c.source seconds x).table.notify = c.table.notify :=
  List.foldlRecOn (motive := fun d : Scan => d.table.notify = c.table.notify) x.2 _ rfl
    fun d kept f _ => (d.present_notify seconds x.1 f).trans kept

theorem AlarmTable.settleFull_notify (n : Nat) (seconds : Seconds) (t : AlarmTable) : (t.settleFull n seconds).notify = t.notify := by
  unfold AlarmTable.settleFull
  dsimp only
  (repeat' split) <;> rfl

/-- An armed ATU with an entry newly qualifying asserts the line; otherwise the scan settles it. -/
theorem AlarmTable.judgeNotify_sound {t : AlarmTable} (h : t.Shaped) (before : List Nat)
    (disarmed : t.asserted = true → t.armed = false) : AlarmInv (t.judgeNotify before) := by
  unfold AlarmTable.judgeNotify
  split
  · rename_i judged
    obtain ⟨-, newly⟩ := Bool.and_eq_true_iff.mp judged
    obtain ⟨k, mk, -⟩ := List.any_eq_true.mp newly
    obtain ⟨e, me, -⟩ := List.mem_map.mp mk
    exact (alarmInv_iff _).mpr ⟨h.of_same rfl rfl, fun _ => ⟨rfl, e, List.mem_filter.mp me⟩⟩
  · exact (alarmInv_iff _).mpr ⟨h.settle, AlarmTable.settle_lineSound disarmed⟩

theorem AlarmInv.scanTable {s : State} (h : AlarmInv s.atu) (p : Published) : AlarmInv (scanTable s p) := by
  have shaped := AlarmTable.Shaped.scan (seconds := p.seconds) (c := { table := s.atu, unrecorded := 0 }) _
    (sourcesFound_scannable s p) ((alarmInv_iff _).mp h).1
  have notify : ((sourcesFound s p).foldl (Scan.source p.seconds) { table := s.atu, unrecorded := 0 }).table.notify = s.atu.notify :=
    List.foldlRecOn (motive := fun d : Scan => d.table.notify = s.atu.notify) _ _ rfl
      fun d kept x _ => (d.source_notify p.seconds x).trans kept
  unfold Machine.scanTable
  dsimp only
  generalize (sourcesFound s p).foldl (Scan.source p.seconds) { table := s.atu, unrecorded := 0 } = c at shaped notify ⊢
  have kept := (AlarmTable.settleFull_notify (min c.unrecorded 255) p.seconds c.table).trans notify
  obtain ⟨asserted, armed, -⟩ : _ ∧ _ ∧ _ := by simpa [AlarmTable.notify] using kept
  refine AlarmTable.judgeNotify_sound (shaped.settleFull _ _) _ fun line => ?_
  rw [asserted] at line
  exact armed.trans (h.line line).1

/-! ### The requests of the notify line -/

theorem AlarmInv.arm {t : AlarmTable} (h : AlarmInv t) (quiet : t.anyQualifies = false → t.asserted = false) : AlarmInv t.arm := by
  have shaped := ((alarmInv_iff _).mp h).1
  unfold AlarmTable.arm
  split
  · rename_i some
    exact (alarmInv_iff _).mpr ⟨shaped.of_same rfl rfl, fun _ => ⟨rfl, List.any_eq_true.mp some⟩⟩
  · rename_i none
    refine (alarmInv_iff _).mpr ⟨shaped.of_same rfl rfl, fun line => ?_⟩
    rw [quiet (Bool.eq_false_iff.mpr none)] at line
    cases line

/-- The line is asserted only with an entry that qualifies. -/
theorem AlarmInv.quiet {t : AlarmTable} (h : AlarmInv t) (none : t.anyQualifies = false) : t.asserted = false :=
  Bool.eq_false_iff.mpr fun line => Bool.eq_false_iff.mp none (List.any_eq_true.mpr (h.line line).2)

/-! ### The statement -/

theorem alarmInv_reset : AlarmInv AlarmTable.reset :=
  ⟨fun _ m => (nomatch m), fun _ m => (nomatch m), List.nodup_nil, List.nodup_nil, fun _ m => (nomatch m), fun _ m => (nomatch m),
    List.Pairwise.nil, le_rfl, fun _ m => (nomatch m), fun _ m => (nomatch m), fun line => (nomatch line)⟩

/-- Every command keeps the alarm table's shape and its line. -/
theorem AlarmInv.after {s : State} (h : AlarmInv s.atu) (i : Instr) : AlarmInv (s.after i).atu := by
  have unwritten (out : .atu ∉ i.writes) : AlarmInv (s.after i).atu := (after_frame i s).atu out ▸ h
  have requested {tag : Nat} {act : State → State × Result × List Item} (acted : AlarmInv (act s).1.atu) :
      AlarmInv (request tag act s).atu :=
    request_keeps (P := fun s => AlarmInv s.atu) (fun _ _ h => h) h acted
  cases i with
  | coldReset sense => exact alarmInv_reset
  | deviceWarmReset tag =>
    dsimp only [State.after, exec, execDeviceWarmReset]
    exact requested alarmInv_reset
  | siteRetire tag handle now =>
    dsimp only [State.after, exec, execSiteRetire]
    refine requested ?_
    unfold retireRecord
    (repeat' split) <;> first | exact h | exact h.removeRecord _
  | provisionalExpiry => exact AlarmInv.removeRecords _ h
  | farewellSlot link slot =>
    dsimp only [State.after, exec, execFarewellSlot]
    (repeat' split)
    · exact AlarmInv.removeRecord (s := (s.advance _).updLink link _) h _
    all_goals exact h
  | alarmAck tag index =>
    dsimp only [State.after, exec, execAlarmAck]
    refine requested ?_
    split
    · exact h
    · exact h.ackWhere _ _
  | alarmAckSeverity tag set =>
    dsimp only [State.after, exec, execAlarmAckSeverity]
    refine requested ?_
    split
    · exact h
    · exact h.ackWhere _ _
  | notifyArm tag =>
    dsimp only [State.after, exec, execNotifyArm]
    exact requested (h.arm h.quiet)
  | notifyAck tag =>
    dsimp only [State.after, exec, execNotifyAck]
    exact requested ((alarmInv_iff _).mpr ⟨((alarmInv_iff _).mp h).1.of_same rfl rfl, fun line => (nomatch line)⟩)
  | notifySet tag threshold =>
    dsimp only [State.after, exec, execNotifySet]
    refine requested ?_
    split
    · exact h.settle (((alarmInv_iff _).mp h).1.of_same rfl rfl) rfl rfl
    · exact h
  | alarmScan older => exact h.scanTable (s.copyHeld older)
  | _ => exact unwritten (by simp [Instr.writes])

/-- Settles O59: the marks come off whatever is retired or cleared, a scan gives marks of ACTIVE roots alone and indices of no
other entry, and each act that can leave nothing qualifying settles the line. -/
theorem stepKeepsAlarms : Obligations.StepKeepsAlarms :=
  step_keeps (P := fun s => AlarmInv s.atu) (fun _ _ _ h => h) fun i _ h => h.after i

/-- Settles O60: what a cold reset leaves satisfies each invariant, whatever waits in the queue. -/
theorem invariantsHoldAtReset : Obligations.InvariantsHoldAtReset :=
  ⟨⟨timebaseInv_cold _ _, selectorInv_cold _ _, sitesInv_cold _ _, alarmInv_reset⟩, fun sense s =>
    ⟨_, rfl, timebaseInv_cold sense s.pending, selectorInv_cold sense s.pending, sitesInv_cold sense s.pending, alarmInv_reset⟩⟩

end Sys2Proof.Machine
end

section
/-! PROOF. The management port: the response frame, the selects, and the requests of hub and timebase. -/

namespace Sys2Proof.Machine

open Sys2Proof

/-! ### Requests -/

/-- Every request row is one request of the port. -/
theorem Instr.isRequest_row {i : Instr} (h : i.isRequest = true) :
    ∃ tag act, ∀ s : State, s.after i = request tag act s := by
  cases i <;> first | (cases h; done) | exact ⟨_, _, fun _ => rfl⟩

/-- Only a request row has a frame. -/
theorem isRequest_of_encodeRequest {i : Instr} {frame : List Byte} (h : encodeRequest i = some frame) : i.isRequest = true := by
  cases i <;> first | rfl | cases h

/-! ### Bytes of a frame -/

theorem byteOf_toNat (v : Nat) : (byteOf v).toNat = v % 256 := by simp [byteOf]

theorem portFlags_toNat (overrun : Bool) (state : PortState) (statusOnly notify : Bool) :
    (portFlags overrun state statusOnly notify).toNat
      = overrun.toNat + 2 * state.code + 8 * statusOnly.toNat + 16 * notify.toNat := by
  cases overrun <;> cases state <;> cases statusOnly <;> cases notify <;> rfl

/-- A response frame, byte by byte (R192). -/
theorem responseFrame_layout (tag result : Nat) (flags : Byte) (payload : List Byte) (short : payload.length ≤ 59) (tagByte : tag < 256)
    (resultByte : result < 256) :
    let bytes := responseFrame tag result flags payload
    bytes.length = payload.length + 5 ∧ byteAt bytes 0 = bytes.length ∧ byteAt bytes 1 = tag ∧ byteAt bytes 2 = result
      ∧ byteAt bytes 3 = flags.toNat ∧ (bytes.drop 4).dropLast = payload ∧ byteSum bytes = 0 := by
  have length : (responseFrame tag result flags payload).length = payload.length + 5 := by simp [responseFrame]
  refine ⟨length, ?_, ?_, ?_, ?_, ?_, byteSum_withCheck _⟩
  · rw [length, byteAt_eq]
    simp only [responseFrame, withCheck, List.cons_append, List.getElem?_cons_zero, Option.getD_some, byteOf_toNat]
    exact Nat.mod_eq_of_lt (by omega)
  · simp [byteAt_eq, responseFrame, withCheck, byteOf_toNat, Nat.mod_eq_of_lt tagByte]
  · simp [byteAt_eq, responseFrame, withCheck, byteOf_toNat, Nat.mod_eq_of_lt resultByte]
  · simp [byteAt_eq, responseFrame, withCheck]
  · simp [responseFrame, withCheck]

theorem Result.code_lt (r : Result) : r.code < 256 := by cases r <;> decide

/-! ### Payloads -/

theorem flagByte_of_ne_nil {bits : List Bool} (some : bits ≠ []) : flagByte bits = [byteOf (bitsNat bits)] := by
  cases bits with
  | nil => exact absurd rfl some
  | cons b bs => rfl

theorem byteOf_testBit {v k : Nat} (low : k < 8) : (byteOf v).toNat.testBit k = v.testBit k := by
  rw [byteOf_toNat, show 256 = 2 ^ 8 from rfl, Nat.testBit_mod_two_pow]
  simp [low]

/-- The presence bytes come first. -/
theorem packItems_presence (items : List Item) {k : Nat} (within : k < 8 * (((items.flatMap Item.presence).length + 7) / 8)) :
    ((packItems items)[k / 8]?.getD 0).toNat.testBit (k % 8) = (items.flatMap Item.presence)[k]?.getD false := by
  have byte : k / 8 < ((items.flatMap Item.presence).length + 7) / 8 := by omega
  have first : (packItems items)[k / 8]?
      = (leBytes (((items.flatMap Item.presence).length + 7) / 8) (bitsNat (items.flatMap Item.presence)))[k / 8]? := by
    unfold packItems
    rw [List.append_assoc, List.getElem?_append_left (by simpa using byte)]
  rw [first, leBytes_testBit _ _ _ _ byte (by omega), bitsNat_testBit, Nat.div_add_mod]

theorem packItems_drop (items : List Item) :
    (packItems items).drop (((items.flatMap Item.presence).length + 7) / 8)
      = flagByte (items.flatMap Item.flags) ++ items.flatMap Item.values := by
  unfold packItems
  rw [List.append_assoc, List.drop_left' (leBytes_length _ _)]

theorem packItems_length (items : List Item) :
    (packItems items).length = ((items.flatMap Item.presence).length + 7) / 8 + (flagByte (items.flatMap Item.flags)).length
      + (items.flatMap Item.values).length := by
  rw [packItems, List.length_append, List.length_append, leBytes_length]

/-- The flag byte stands after the presence bytes, where there is one. -/
theorem packItems_flags (items : List Item) (some : items.flatMap Item.flags ≠ []) {k : Nat} (low : k < 8) :
    ((packItems items)[((items.flatMap Item.presence).length + 7) / 8]?.getD 0).toNat.testBit k
      = (items.flatMap Item.flags)[k]?.getD false := by
  have byte := congrArg (fun l : List Byte => l[0]?) (packItems_drop items)
  simp only [List.getElem?_drop, Nat.add_zero] at byte
  rw [byte, flagByte_of_ne_nil some]
  simp [byteOf_testBit low, bitsNat_testBit]

theorem packItems_unflagged (items : List Item) (none : items.flatMap Item.flags = []) :
    (packItems items).length = ((items.flatMap Item.presence).length + 7) / 8 + (items.flatMap Item.values).length
    ∧ (packItems items).drop (((items.flatMap Item.presence).length + 7) / 8) = items.flatMap Item.values := by
  rw [packItems_length, packItems_drop, none]
  exact ⟨rfl, rfl⟩

theorem packItems_flagged (items : List Item) (some : items.flatMap Item.flags ≠ []) :
    (packItems items).length = ((items.flatMap Item.presence).length + 7) / 8 + 1 + (items.flatMap Item.values).length
    ∧ (packItems items).drop (((items.flatMap Item.presence).length + 7) / 8 + 1) = items.flatMap Item.values
    ∧ ∀ k, k < 8 → ((packItems items)[((items.flatMap Item.presence).length + 7) / 8]?.getD 0).toNat.testBit k
        = (items.flatMap Item.flags)[k]?.getD false := by
  refine ⟨?_, ?_, fun k low => packItems_flags items some low⟩
  · rw [packItems_length, flagByte_of_ne_nil some]
    rfl
  · rw [← List.drop_drop, packItems_drop, flagByte_of_ne_nil some]
    rfl

/-- Settles O5: the frame from `responseFrame_layout`, the payload from the layout of its items, and the items' bytes. -/
theorem responseFrameLayout : Obligations.ResponseFrameLayout := by
  refine ⟨fun s tag r items tagByte short => ?_, fun items => ?_, fun w v => ?_, fun w v => ?_, fun v => ?_, fun v => ?_⟩
  · obtain ⟨length, b0, b1, b2, b3, payload, sum⟩ := responseFrame_layout tag r.code
      (portFlags s.port.overrun .responseReady false s.atu.asserted) (packItems items) short tagByte r.code_lt
    refine ⟨rfl, length, b0, b1, b2, b3.trans ?_, payload, sum⟩
    rw [portFlags_toNat]
    simp [PortState.code]
  · exact ⟨fun k within => packItems_presence items within, packItems_unflagged items, packItems_flagged items⟩
  · exact congrArg Item.val (beBytes_eq_map w v)
  · exact congrArg (Item.opt w) (congrArg (Option.map · v) (funext (beBytes_eq_map w)))
  · exact congrArg Item.val (beBytes_eq_map 4 _)
  · exact congrArg (Item.opt 4) (congrArg (Option.map · v) (funext fun x => beBytes_eq_map 4 _))

/-! ### The selects -/

theorem frameSound_iff (frame : List Byte) :
    frameSound frame = true ↔ 4 ≤ frame.length ∧ frame.length ≤ 40 ∧ byteAt frame 1 = frame.length ∧ byteSum frame = 0 := by
  simp [frameSound, checkHolds, and_assoc]

theorem codeKnown_iff (frame : List Byte) : codeKnown frame = true ↔ requestLengths (byteAt frame 0) (byteAt frame 4) ≠ [] := by
  simp [codeKnown]

theorem lengthFits_iff (frame : List Byte) :
    lengthFits frame = true ↔ frame.length ∈ requestLengths (byteAt frame 0) (byteAt frame 4) := by
  simp [lengthFits]

/-- The first check of R182 that a frame fails. -/
theorem frameRefusal_cases (frame : List Byte) :
    (frameSound frame = false → frameRefusal frame = some .checkError)
    ∧ (frameSound frame = true → codeKnown frame = false → frameRefusal frame = some .unknown)
    ∧ (frameSound frame = true → codeKnown frame = true → lengthFits frame = false → frameRefusal frame = some .checkError)
    ∧ (frameSound frame = true → codeKnown frame = true → lengthFits frame = true → frameRefusal frame = none) := by
  unfold frameRefusal
  refine ⟨fun sound => by simp [sound], fun sound known => by simp [sound, known], fun sound known fits => ?_, fun sound known fits => ?_⟩
  · simp [sound, known, fits]
  · simp [sound, known, fits]

theorem State.takeRequest_refused {s : State} {frame : List Byte} {r : Result} (refused : frameRefusal frame = some r) :
    s.takeRequest frame = s.respond (echoTag frame) r [] := by
  simp [State.takeRequest, refused]

theorem State.takeRequest_taken {s : State} {frame : List Byte} (sound : frameRefusal frame = none) :
    s.takeRequest frame = { s with port := { s.port with state := .executing, request := frame } } := by
  simp [State.takeRequest, sound]

theorem State.select_write {s : State} {frame : List Byte} (some : frame ≠ []) : s.select (0x01 :: frame) = s.writeFrame frame := by
  simp [State.select, some]

theorem State.writeFrame_idle {s : State} {frame : List Byte} (idle : s.port.state = .idle) : s.writeFrame frame = s.takeRequest frame := by
  simp [State.writeFrame, idle]

theorem State.writeFrame_busy {s : State} {frame : List Byte} (busy : s.port.state ≠ .idle) :
    s.writeFrame frame = { s with port := { s.port with overrun := true } } := by
  cases state : s.port.state with
  | idle => exact absurd state busy
  | executing | responseReady => simp [State.writeFrame, state, State.overrunSet]

theorem State.readBytes_status {s : State} (n : Nat) (other : s.port.state ≠ .responseReady) :
    s.readBytes n = { s with port := { s.port with miso := clockOut n s.statusFrame } } := by
  cases state : s.port.state with
  | responseReady => exact absurd state other
  | executing | idle => simp [State.readBytes, state]

/-- The status-only frame (R192). -/
theorem State.statusFrame_layout (s : State) :
    s.statusFrame.length = 5 ∧ s.statusFrame.take 3 = [5, 0, 0xFF] ∧ byteSum s.statusFrame = 0
      ∧ byteAt s.statusFrame 3 = s.port.overrun.toNat + 2 * s.port.state.code + 8 + 16 * s.atu.asserted.toNat :=
  ⟨rfl, rfl, byteSum_withCheck _, portFlags_toNat _ _ _ _⟩

/-- A write select in IDLE, by the checks of R182. -/
theorem select_idle {s : State} (frame : List Byte) (some : frame ≠ []) (idle : s.port.state = .idle) :
    exec (.writeSelect (0x01 :: frame)) s = .next (s.takeRequest frame) := by
  show Host.Outcome.next (s.select (0x01 :: frame)) = _
  rw [State.select_write some, State.writeFrame_idle idle]

/-- Settles O6: every request row goes through `request`, and the selects by access byte, port state and first failing check. -/
theorem selectOutcome : Obligations.SelectOutcome := by
  refine ⟨fun i frame s encoded busy => ?_, ⟨fun s => ⟨rfl, rfl⟩, fun s a rest notWrite notRead => ?_, fun s rest => rfl,
    fun s frame some busy => ?_, fun s frame some idle => ?_⟩, fun s n => ⟨fun ready all => ?_, fun ready part => ?_, fun other => ?_⟩⟩
  · obtain ⟨tag, act, row⟩ := Instr.isRequest_row (isRequest_of_encodeRequest encoded)
    rw [exec_next, row, request_busy busy]
  · show Host.Outcome.next (s.select (a :: rest)) = _
    rw [State.select, if_neg notWrite, if_neg notRead]
  · show Host.Outcome.next (s.select (0x01 :: frame)) = _
    rw [State.select_write some, State.writeFrame_busy busy]
  · obtain ⟨unsound, unknown, misfit, taken⟩ := frameRefusal_cases frame
    simp only [← Bool.not_eq_true] at unsound unknown misfit
    rw [frameSound_iff] at unsound unknown misfit taken
    rw [codeKnown_iff] at unknown misfit taken
    rw [lengthFits_iff] at misfit taken
    rw [select_idle frame some idle]
    refine ⟨fun bad => ?_, fun sound none => ?_, fun sound known bad => ?_, fun sound fits => ?_⟩
    · rw [State.takeRequest_refused (unsound bad)]; rfl
    · rw [State.takeRequest_refused (unknown sound (not_not.mpr none))]; rfl
    · rw [State.takeRequest_refused (misfit sound known bad)]; rfl
    · rw [State.takeRequest_taken (taken sound (List.ne_nil_of_mem fits) fits)]
  · show Host.Outcome.next (s.readBytes n) = _
    simp [State.readBytes, ready, all, clockOut, List.take_of_length_le all]
  · show Host.Outcome.next (s.readBytes n) = _
    simp [State.readBytes, ready, not_le.mpr part, clockOut, Nat.sub_eq_zero_of_le part.le]
  · obtain ⟨length, header, sum, flags⟩ := s.statusFrame_layout
    refine ⟨s.statusFrame, ?_, length, header, sum, flags⟩
    show Host.Outcome.next (s.readBytes n) = _
    rw [State.readBytes_status n other, clockOut, length]

/-! ### The cold reset and the requests of hub and timebase -/

/-- Settles O4: field by field. -/
theorem coldResetOutcome : Obligations.ColdResetOutcome := by
  refine ⟨fun sense s => ⟨State.cold sense s.pending, rfl, ?_⟩, fun sense s => ⟨State.cold sense s.pending, rfl, ?_⟩⟩
  · refine ⟨rfl, rfl, rfl, rfl, rfl, rfl, rfl, rfl, rfl, rfl, rfl, rfl, fun r => ?_⟩
    cases r <;> rfl
  · refine ⟨rfl, rfl, rfl, fun h => ?_, fun l d => ?_, rfl, fun l => ?_⟩
    · exact List.mem_range
    · have empty : (State.cold sense s.pending).stu.dropMaps.get l = emptyDrops := by cases l <;> rfl
      rw [SiteTable.dropEntry, empty, emptyDrops, List.getElem?_replicate]
      split <;> rfl
    · cases l <;> rfl

theorem hubInRange_iff (p : HubSetReq) :
    hubInRange p = true ↔ (∀ v, p.identity = some v → v ≤ 4294967295) ∧ (∀ v, p.tTurn = some v → 10000 ≤ v ∧ v ≤ 200000)
      ∧ (∀ v, p.parentDrop = some v → 1 ≤ v ∧ v ≤ 15) ∧ (∀ v, p.timeout = some v → 5 ≤ v ∧ v ≤ 255) := by
  simp [hubInRange, optIn_iff, and_assoc]

/-- Settles O7. -/
theorem hubRequestsOutcome : Obligations.HubRequestsOutcome := by
  refine ⟨fun tag p s idle => ⟨fun ranges => ?_, fun bad => ?_⟩, fun tag s idle => ?_⟩
  · show Host.Outcome.next (request tag _ s) = _
    rw [request_idle idle, if_pos ((hubInRange_iff p).mpr ranges)]
    rfl
  · show Host.Outcome.next (request tag _ s) = _
    rw [request_idle idle, if_neg fun ranges => bad ((hubInRange_iff p).mp ranges)]
    rfl
  · show Host.Outcome.next (request tag _ s) = _
    rw [request_idle idle]
    rfl

theorem tbSetAccepted_iff (p : TbSetReq) (t : TbSettings) :
    tbSetAccepted p t = true ↔ (∀ v, p.learningPeriod = some v → 60 ≤ v ∧ v ≤ 65535) ∧ (∀ v, p.lockThreshold = some v → 5 ≤ v ∧ v ≤ 1000)
      ∧ (∀ v, p.lockCount = some v → 1 ≤ v ∧ v ≤ 64) ∧ (∀ v, p.unlockThreshold = some v → 20 ≤ v ∧ v ≤ 5000)
      ∧ (∀ v, p.slewLimit = some v → 1 ≤ v ∧ v ≤ 10000) ∧ (∀ v, p.ceiling = some v → 1000 ≤ v ∧ v ≤ 999998)
      ∧ (∀ v, p.g0 = some v → v ≤ 65535) ∧ (∀ v, p.agingInterval = some v → v ≤ 65535) ∧ (∀ v, p.ga = some v → v ≤ 65535)
      ∧ (t.withValues p).lockThreshold ≤ (t.withValues p).unlockThreshold := by
  simp [tbSetAccepted, tbSetInRanges, optIn_iff, and_assoc]

theorem Timebase.ceilingCheck_eq (tb : Timebase) :
    tb.ceilingCheck = if (tb.state = .holdover ∨ tb.state = .freqHold) ∧ tb.settings.ceiling ≤ tb.u / 1000 then tb.enterFreerun else tb := by
  by_cases full : tb.settings.ceiling ≤ tb.u / 1000 <;>
    cases state : tb.state <;> simp [Timebase.ceilingCheck, state, Timebase.atCeiling, nsOf, full]

/-- A present ceiling at or below U in HOLDOVER or FREQ_HOLD enters FREERUN (R25). -/
theorem Timebase.set_eq (p : TbSetReq) (tb : Timebase) :
    tb.set p = if p.ceiling.isSome = true ∧ (tb.state = .holdover ∨ tb.state = .freqHold) ∧ (tb.settings.withValues p).ceiling ≤ tb.u / 1000
      then { tb with settings := tb.settings.withValues p, state := .freerun, u := 999999000, learning := 0 }
      else { tb with settings := tb.settings.withValues p } := by
  unfold Timebase.set
  dsimp only
  by_cases present : p.ceiling.isSome = true
  · rw [if_pos present, Timebase.ceilingCheck_eq]
    simp only [present, true_and]
    rfl
  · simp [present]

/-- Settles O9. -/
theorem timebaseRequests : Obligations.TimebaseRequests := by
  refine ⟨fun tag s idle => ?_, fun tag p s idle => ⟨fun bad => ?_, fun checks stays => ?_, fun checks atOnce => ?_⟩⟩
  · show Host.Outcome.next (request tag _ s) = _
    rw [request_idle idle]
    rfl
  · show Host.Outcome.next (request tag _ s) = _
    rw [request_idle idle, if_neg fun accepted => bad ((tbSetAccepted_iff p s.tb.settings).mp accepted)]
  · show Host.Outcome.next (request tag _ s) = _
    rw [request_idle idle, if_pos ((tbSetAccepted_iff p s.tb.settings).mpr checks), Timebase.set_eq p s.tb, if_neg (show ¬ (_ ∧ _ ∧ (s.tb.settings.withValues p).ceiling ≤ _) from stays)]
    rfl
  · show Host.Outcome.next (request tag _ s) = _
    rw [request_idle idle, if_pos ((tbSetAccepted_iff p s.tb.settings).mpr checks), Timebase.set_eq p s.tb, if_pos (show _ ∧ _ ∧ (s.tb.settings.withValues p).ceiling ≤ _ from atOnce)]
    rfl

end Sys2Proof.Machine
end

section
/-! PROOF. Removals: what one and what several take away, at a retirement, at a boundary and at a warm reset. -/

namespace Sys2Proof.Machine

open Sys2Proof

/-! ### The collections after several removals (R70 to R72, R88) -/

/-- Some record of a list has the handle. -/
def anyHandle (rs : List SiteRecord) (h : Nat) : Bool := rs.any (fun r => r.handle == h)

theorem anyHandle_iff {rs : List SiteRecord} {h : Nat} : anyHandle rs h = true ↔ ∃ r ∈ rs, r.handle = h := by
  simp [anyHandle]

theorem anyHandle_false {rs : List SiteRecord} {h : Nat} : anyHandle rs h = false ↔ ∀ r ∈ rs, r.handle ≠ h := by
  simp [anyHandle]

theorem State.removeRecords_records : ∀ (rs : List SiteRecord) (s : State),
    (rs.foldl State.removeRecord s).stu.records = s.stu.records.filter (fun q => !anyHandle rs q.handle)
  | [], s => (List.filter_eq_self.mpr fun _ _ => rfl).symm
  | r :: rs, s => by
    have one : (s.removeRecord r).stu.records = s.stu.records.filter (fun q => q.handle != r.handle) := rfl
    rw [List.foldl_cons, State.removeRecords_records rs, one, List.filter_filter]
    refine List.filter_congr fun q _ => ?_
    simp [anyHandle, bne, Bool.and_comm, BEq.comm]

theorem State.removeRecords_index : ∀ (rs : List SiteRecord) (s : State),
    (rs.foldl State.removeRecord s).stu.index = s.stu.index.filter (fun p => !anyHandle rs p.2)
  | [], s => (List.filter_eq_self.mpr fun _ _ => rfl).symm
  | r :: rs, s => by
    have one : (s.removeRecord r).stu.index = s.stu.index.filter (fun p => p.2 != r.handle) := rfl
    rw [List.foldl_cons, State.removeRecords_index rs, one, List.filter_filter]
    refine List.filter_congr fun q _ => ?_
    simp [anyHandle, bne, Bool.and_comm, BEq.comm]

theorem State.mem_removeRecords_freeHandles (k : Nat) : ∀ (rs : List SiteRecord) (s : State),
    k ∈ (rs.foldl State.removeRecord s).stu.freeHandles ↔ k ∈ s.stu.freeHandles ∨ ∃ r ∈ rs, r.handle = k
  | [], s => by simp
  | r :: rs, s => by
    have one : (s.removeRecord r).stu.freeHandles = insertHandle r.handle s.stu.freeHandles := rfl
    rw [List.foldl_cons, State.mem_removeRecords_freeHandles k rs, one, mem_insertHandle, List.exists_mem_cons_iff]
    constructor
    · rintro ((rfl | free) | later)
      · exact Or.inr (Or.inl rfl)
      · exact Or.inl free
      · exact Or.inr (Or.inr later)
    · rintro (free | rfl | later)
      · exact Or.inl (Or.inr free)
      · exact Or.inl (Or.inl rfl)
      · exact Or.inr later

/-- Removals write the site table, the links and the alarm table. -/
theorem State.removeRecords_rest : ∀ (rs : List SiteRecord) (s : State),
    rs.foldl State.removeRecord s = { s with
      stu := (rs.foldl State.removeRecord s).stu, links := (rs.foldl State.removeRecord s).links,
      atu := (rs.foldl State.removeRecord s).atu }
  | [], _ => rfl
  | r :: rs, s => (State.removeRecords_rest rs (s.removeRecord r)).trans rfl

theorem State.removeRecords_provisionalTimeout (rs : List SiteRecord) (s : State) :
    (rs.foldl State.removeRecord s).stu.provisionalTimeout = s.stu.provisionalTimeout :=
  foldl_keeps (fun s : State => s.stu.provisionalTimeout) State.removeRecord (fun _ _ => rfl) rs s

theorem insertHandle_sublist (h : Nat) : ∀ l : List Nat, l.Sublist (insertHandle h l)
  | [] => List.nil_sublist _
  | k :: l => by
    unfold insertHandle
    split
    · exact List.sublist_cons_self _ _
    · exact (insertHandle_sublist h l).cons_cons k

/-! ### The alarm entries that retirement leaves (R170) -/

theorem isSite_iff {h : Nat} {src : AlarmSource} : AlarmSource.isSite h src = true ↔ ∃ i, src = .site h i := by
  cases src <;> simp [AlarmSource.isSite]

/-- An entry that retirement leaves is one of the table's, its mark off where it named an entry that went. -/
theorem AlarmTable.retireWhere_kept {t : AlarmTable} {p : AlarmEntry → Bool} {e : AlarmEntry} (m : e ∈ (t.retireWhere p).entries) :
    ∃ f ∈ t.entries, p f = false ∧ e = { f with root := e.root } ∧ (e.root = f.root ∨ e.root = none)
      ∧ ((∀ g ∈ t.entries, p g = true → f.root ≠ some g.index) → e.root = f.root)
      ∧ ∀ k, e.root = some k → ∀ g ∈ t.entries, p g = true → g.index ≠ k := by
  obtain ⟨f, mf, rfl⟩ := List.mem_map.mp m
  obtain ⟨mf, kept⟩ := List.mem_filter.mp mf
  refine ⟨f, mf, by simpa using kept, f.unmark_eq _, ?_, fun unnamed => ?_, fun k marked g mg gone isK => ?_⟩
  · rw [AlarmEntry.unmark_root]
    split
    · exact Or.inr rfl
    · exact Or.inl rfl
  · rw [AlarmEntry.unmark_root, if_neg]
    rintro ⟨k, marked, named⟩
    obtain ⟨g, mg, rfl⟩ := List.mem_map.mp named
    exact unnamed g (List.mem_filter.mp mg).1 (List.mem_filter.mp mg).2 marked
  · refine (AlarmEntry.unmark_root_some marked).2 (List.mem_map.mpr ⟨g, ?_, isK⟩)
    exact List.mem_filter.mpr ⟨mg, gone⟩

/-- An entry that the test does not pick is left, as it was where its mark names no entry that goes. -/
theorem AlarmTable.retireWhere_keeps {t : AlarmTable} {p : AlarmEntry → Bool} {f : AlarmEntry} (m : f ∈ t.entries) (kept : p f = false) :
    ∃ e ∈ (t.retireWhere p).entries, e.index = f.index ∧ e.serial = f.serial
      ∧ ((∀ g ∈ t.entries, p g = true → f.root ≠ some g.index) → e = f) := by
  refine ⟨f.unmark ((t.entries.filter p).map AlarmEntry.index), List.mem_map_of_mem (List.mem_filter.mpr ⟨m, by simp [kept]⟩),
    by rw [AlarmEntry.unmark_eq], by rw [AlarmEntry.unmark_eq], fun unnamed => ?_⟩
  rw [AlarmEntry.unmark_eq, AlarmEntry.unmark_root, if_neg]
  rintro ⟨k, marked, named⟩
  obtain ⟨g, mg, rfl⟩ := List.mem_map.mp named
  exact unnamed g (List.mem_filter.mp mg).1 (List.mem_filter.mp mg).2 marked

theorem AlarmTable.retireWhere_serials (t : AlarmTable) (p : AlarmEntry → Bool) :
    ((t.retireWhere p).entries.map AlarmEntry.serial).Sublist (t.entries.map AlarmEntry.serial) := by
  have serial (e : AlarmEntry) : (e.unmark ((t.entries.filter p).map AlarmEntry.index)).serial = e.serial := by rw [AlarmEntry.unmark_eq]
  have same : (t.retireWhere p).entries.map AlarmEntry.serial = (t.entries.filter (fun e => !p e)).map AlarmEntry.serial := by
    show List.map _ (List.map _ _) = _
    rw [List.map_map]
    exact List.map_congr_left fun e _ => serial e
  rw [same]
  exact List.filter_sublist.map _

theorem AlarmTable.settle_asserted (t : AlarmTable) :
    t.settle.asserted = true ↔ t.asserted = true ∧ ∃ e ∈ t.entries, e.qualifies t.threshold = true := by
  show (t.asserted && t.anyQualifies) = true ↔ _
  rw [Bool.and_eq_true, AlarmTable.anyQualifies, List.any_eq_true]

/-! ### One removal -/

/-- What the statements of removals say of the alarm entries left, for the entries that go by a test. -/
theorem AlarmTable.retireWhere_outcome {t : AlarmTable} {p : AlarmEntry → Bool} {named : AlarmEntry → Prop}
    (names : ∀ e, p e = true ↔ named e) (bySource : ∀ e f : AlarmEntry, e.source = f.source → p e = p f) :
    (∀ e ∈ (t.retireWhere p).entries, ¬ named e ∧ ∃ f ∈ t.entries, ¬ named f ∧ f.index = e.index ∧ f.serial = e.serial
        ∧ e = { f with root := e.root } ∧ (e.root = f.root ∨ e.root = none)
        ∧ ((∀ g ∈ t.entries, named g → f.root ≠ some g.index) → e.root = f.root))
    ∧ (∀ f ∈ t.entries, ¬ named f → ∃ e ∈ (t.retireWhere p).entries, e.index = f.index ∧ e.serial = f.serial
        ∧ ((∀ g ∈ t.entries, named g → f.root ≠ some g.index) → e = f))
    ∧ (∀ e ∈ (t.retireWhere p).entries, ∀ k, e.root = some k → ∀ f ∈ t.entries, named f → f.index ≠ k)
    ∧ ((t.retireWhere p).entries.map AlarmEntry.serial).Sublist (t.entries.map AlarmEntry.serial) := by
  have unnamed {f : AlarmEntry} (kept : p f = false) : ¬ named f := fun is => Bool.eq_false_iff.mp kept ((names f).mpr is)
  refine ⟨fun e m => ?_, fun f m other => ?_, fun e m k marked f mf is => ?_, t.retireWhere_serials p⟩
  · obtain ⟨f, mf, kept, isE, root, same, -⟩ := AlarmTable.retireWhere_kept m
    have source : e.source = f.source := by rw [isE]
    have index : f.index = e.index := by rw [isE]
    have serial : f.serial = e.serial := by rw [isE]
    exact ⟨unnamed ((bySource e f source).trans kept), f, mf, unnamed kept, index, serial, isE, root,
      fun free => same fun g mg gone => free g mg ((names g).mp gone)⟩
  · have kept : p f = false := Bool.eq_false_iff.mpr fun is => other ((names f).mp is)
    obtain ⟨e, me, index, serial, same⟩ := AlarmTable.retireWhere_keeps m kept
    exact ⟨e, me, index, serial, fun free => same fun g mg gone => free g mg ((names g).mp gone)⟩
  · obtain ⟨-, -, -, -, -, -, off⟩ := AlarmTable.retireWhere_kept m
    exact off k marked f mf ((names f).mpr is)

/-- Settles O32. -/
theorem removalOutcome : Obligations.RemovalOutcome := by
  intro s r m one within
  dsimp only
  have records : (s.removeRecord r).stu.records = s.stu.records.filter (fun q => q.handle != r.handle) := rfl
  have index : (s.removeRecord r).stu.index = s.stu.index.filter (fun p => p.2 != r.handle) := rfl
  have free : (s.removeRecord r).stu.freeHandles = insertHandle r.handle s.stu.freeHandles := rfl
  have sameLink : (s.removeRecord r).link r.link = Link.dropRecord r.handle (s.link r.link) := by
    rw [State.removeRecord_link, if_pos rfl]
  obtain ⟨kept, keeps, marks, serials⟩ := AlarmTable.retireWhere_outcome (t := s.atu)
    (p := fun e => AlarmSource.isSite r.handle e.source) (named := fun e => ∃ i, e.source = .site r.handle i)
    (fun e => isSite_iff) (fun e f same => by rw [same])
  refine ⟨rfl, rfl, fun q => ?_, records ▸ List.filter_sublist, fun p => ?_, index ▸ List.filter_sublist, fun k => ?_,
    free ▸ insertHandle_sublist _ _, ?_, fun l d first other => ?_, fun l other => ?_, ?_, ?_, fun k => ?_,
    kept, fun f mf other => ?_, marks, serials, AlarmTable.settle_asserted _, rfl, rfl, rfl, rfl⟩
  · rw [records]; simp
  · rw [index]; simp
  · rw [free, mem_insertHandle, or_comm]
  · rw [State.removeRecord_dropEntry s r _ _ one one, if_pos ⟨rfl, rfl⟩]
  · rw [State.removeRecord_dropEntry s r _ _ one first, if_neg fun same => other ⟨same.1.symm, same.2.symm⟩]
  · rw [State.removeRecord_link, if_neg (Ne.symm other)]
  · rw [sameLink]; rfl
  · rw [sameLink]; exact List.length_map _
  · rw [sameLink]; exact slotAt_freeSlots _ _ _
  · obtain ⟨e, me, sameIndex, sameSerial, same⟩ := keeps f mf other
    exact ⟨e, me, sameIndex, sameSerial, fun unmarked => same fun g _ _ => by rw [unmarked]; simp, same⟩

/-! ### The boundary of the site table (R78) -/

/-- A record that the boundary removes: PROVISIONAL, with a counter that reaches 0. -/
def SiteRecord.due (r : SiteRecord) : Prop := r.lifecycle = .provisional ∧ (r.expiry = some 0 ∨ r.expiry = some 1)

theorem SiteRecord.countExpiry_kept (r : SiteRecord) :
    r.countExpiry.handle = r.handle ∧ r.countExpiry.link = r.link ∧ r.countExpiry.drop = r.drop
      ∧ r.countExpiry.lifecycle = r.lifecycle := by
  unfold SiteRecord.countExpiry
  split <;> exact ⟨rfl, rfl, rfl, rfl⟩

theorem SiteRecord.countExpiry_expired (r : SiteRecord) : r.countExpiry.expired = true ↔ r.due := by
  unfold SiteRecord.countExpiry SiteRecord.expired SiteRecord.due
  by_cases provisional : r.lifecycle = .provisional
  · rw [if_pos provisional]
    cases expiry : r.expiry with
    | none => simp [provisional]
    | some n =>
      simp only [provisional, Option.map_some]
      simp
      omega
  · simp [provisional]

/-- The records that a boundary removes, as its counting leaves them. -/
def State.expiring (s : State) : List SiteRecord := (s.stu.records.map SiteRecord.countExpiry).filter SiteRecord.expired

/-- The boundary's counting, before any removal. -/
def State.counted (s : State) : State := { s with stu := { s.stu with records := s.stu.records.map SiteRecord.countExpiry } }

theorem State.provisionalExpiry_eq (s : State) :
    exec .provisionalExpiry s = .next (s.expiring.foldl State.removeRecord s.counted) := rfl

theorem State.exists_expiring {s : State} {q : Nat → LinkId → Nat → Prop} :
    (∃ r ∈ s.expiring, q r.handle r.link r.drop) ↔ ∃ r ∈ s.stu.records, r.due ∧ q r.handle r.link r.drop := by
  constructor
  · rintro ⟨c, m, is⟩
    obtain ⟨mc, expired⟩ := List.mem_filter.mp m
    obtain ⟨r, mr, rfl⟩ := List.mem_map.mp mc
    obtain ⟨handle, link, drop, -⟩ := r.countExpiry_kept
    rw [handle, link, drop] at is
    exact ⟨r, mr, r.countExpiry_expired.mp expired, is⟩
  · rintro ⟨r, mr, due, is⟩
    refine ⟨r.countExpiry, List.mem_filter.mpr ⟨List.mem_map_of_mem mr, r.countExpiry_expired.mpr due⟩, ?_⟩
    obtain ⟨handle, link, drop, -⟩ := r.countExpiry_kept
    rwa [handle, link, drop]

theorem State.anyHandle_expiring {s : State} {h : Nat} : anyHandle s.expiring h = true ↔ ∃ r ∈ s.stu.records, r.due ∧ r.handle = h :=
  anyHandle_iff.trans (State.exists_expiring (q := fun k _ _ => k = h))

theorem State.anyLinkHandle_expiring {s : State} {l : LinkId} {h : Nat} :
    s.expiring.any (fun r => r.link == l && r.handle == h) = true ↔ ∃ r ∈ s.stu.records, r.due ∧ r.link = l ∧ r.handle = h := by
  rw [← State.exists_expiring (q := fun k m _ => m = l ∧ k = h)]
  simp

theorem State.anySite_expiring {s : State} {src : AlarmSource} :
    s.expiring.any (fun r => AlarmSource.isSite r.handle src) = true ↔ ∃ r ∈ s.stu.records, r.due ∧ ∃ i, src = .site r.handle i := by
  rw [← State.exists_expiring (q := fun k _ _ => ∃ i, src = .site k i)]
  simp [isSite_iff]

theorem State.mem_removed_records {s : State} (once : (s.stu.records.map SiteRecord.handle).Nodup) (q : SiteRecord) :
    q ∈ (s.expiring.foldl State.removeRecord s.counted).stu.records ↔ ∃ r ∈ s.stu.records, ¬ r.due ∧ q = r.countExpiry := by
  rw [State.removeRecords_records, List.mem_filter]
  have test (r : SiteRecord) (m : r ∈ s.stu.records) : (!anyHandle s.expiring r.countExpiry.handle) = true ↔ ¬ r.due := by
    rw [Bool.not_eq_true', ← Bool.not_eq_true, State.anyHandle_expiring, r.countExpiry_kept.1]
    refine not_congr ⟨fun ⟨p, mp, due, same⟩ => ?_, fun due => ⟨r, m, due, rfl⟩⟩
    exact List.inj_on_of_nodup_map once mp m same ▸ due
  constructor
  · rintro ⟨mq, kept⟩
    obtain ⟨r, m, rfl⟩ := List.mem_map.mp mq
    exact ⟨r, m, (test r m).mp kept, rfl⟩
  · rintro ⟨r, m, stays, rfl⟩
    exact ⟨List.mem_map_of_mem m, (test r m).mpr stays⟩

/-- A removal goes by handle, link and drop. -/
theorem State.removeRecord_countExpiry (s : State) (r : SiteRecord) :
    (s.counted.removeRecord r.countExpiry).links = (s.removeRecord r).links
      ∧ (s.counted.removeRecord r.countExpiry).atu = (s.removeRecord r).atu := by
  obtain ⟨handle, link, -, -⟩ := r.countExpiry_kept
  unfold State.removeRecord
  rw [handle, link]
  exact ⟨rfl, rfl⟩

theorem State.expiring_singleton {s : State} {r : SiteRecord}
    (one : s.stu.records.filter (fun q => decide (q.lifecycle = .provisional ∧ (q.expiry = some 0 ∨ q.expiry = some 1))) = [r]) :
    s.expiring = [r.countExpiry] := by
  have same : s.stu.records.filter (SiteRecord.expired ∘ SiteRecord.countExpiry) = [r] := by
    rw [← one]
    refine List.filter_congr fun q _ => Bool.eq_iff_iff.mpr ?_
    rw [Function.comp_apply, SiteRecord.countExpiry_expired, decide_eq_true_iff]
    rfl
  rw [State.expiring, List.filter_map, same]
  rfl

/-- Settles O34: the removals of `State.expiring`, collection by collection. -/
theorem provisionalExpiryOutcome : Obligations.ProvisionalExpiryOutcome := by
  intro s once
  refine ⟨_, s.provisionalExpiry_eq, fun q => ?_, fun p => ?_, fun k => ?_, fun none => ?_, fun r one => ?_,
    fun drops l d first => ?_, fun l => ?_, ?_, ?_, ?_, ?_⟩
  · exact State.mem_removed_records once q
  · rw [State.removeRecords_index, List.mem_filter, Bool.not_eq_true', ← Bool.not_eq_true, State.anyHandle_expiring]
    simp only [not_exists, not_and]
    rfl
  · rw [State.mem_removeRecords_freeHandles, State.exists_expiring (q := fun h _ _ => h = k)]
    rfl
  · have empty : s.expiring = [] := List.eq_nil_iff_forall_not_mem.mpr fun c m => by
      obtain ⟨r, mr, due, -⟩ := (State.exists_expiring (q := fun _ _ _ => True)).mp ⟨c, m, trivial⟩
      exact none r mr due
    rw [empty]
    exact ⟨rfl, rfl, rfl⟩
  · rw [State.expiring_singleton one]
    exact s.removeRecord_countExpiry r
  · have each : ∀ c ∈ s.expiring, 1 ≤ c.drop := fun c m => by
      obtain ⟨r, mr, rfl⟩ := List.mem_map.mp (List.mem_filter.mp m).1
      exact r.countExpiry_kept.2.2.1.symm ▸ drops r mr
    have due : (∃ r ∈ s.expiring, r.link = l ∧ r.drop = d) ↔ ∃ r ∈ s.stu.records, r.due ∧ r.link = l ∧ r.drop = d :=
      State.exists_expiring (q := fun _ m e => m = l ∧ e = d)
    rw [State.removeRecords_dropEntry l d first _ _ each]
    refine ⟨fun gone => if_pos (due.mpr gone), fun kept => (if_neg fun gone => ?_).trans rfl⟩
    obtain ⟨r, mr, isDue, is⟩ := due.mp gone
    exact kept r mr isDue is
  · obtain ⟨same, length⟩ := State.removeRecords_link l s.expiring s.counted
    have queue : ((s.expiring.foldl State.removeRecord s.counted).link l).retireQueue
        = (s.link l).retireQueue.filter (fun h => !s.expiring.any (fun r => r.link == l && r.handle == h)) := congrArg Link.retireQueue same
    refine ⟨?_, length, fun k h going named => ?_, fun k unnamed => ?_, queue ▸ List.filter_sublist, fun h => ?_⟩
    · rw [queue]; exact same
    · have gone := State.anyLinkHandle_expiring.mpr going
      have slots : (s.counted.link l).slots = (s.link l).slots := rfl
      rw [State.removeRecords_slotAt, slots]
      rcases named with held | reserved
      · rw [held]; exact if_pos gone
      · rw [reserved]; exact if_pos gone
    · have slots : (s.counted.link l).slots = (s.link l).slots := rfl
      rw [State.removeRecords_slotAt, slots]
      cases slot : slotAt (s.link l).slots k with
      | free => rfl
      | held h =>
        refine if_neg fun gone => ?_
        obtain ⟨r, mr, due, onLink, rfl⟩ := State.anyLinkHandle_expiring.mp gone
        exact (unnamed r mr due onLink).1 slot
      | reserved h =>
        refine if_neg fun gone => ?_
        obtain ⟨r, mr, due, onLink, rfl⟩ := State.anyLinkHandle_expiring.mp gone
        exact (unnamed r mr due onLink).2 slot
    · rw [queue, List.mem_filter, Bool.not_eq_true', ← Bool.not_eq_true, State.anyLinkHandle_expiring]
      simp only [not_exists, not_and]
      rfl
  · have entries := State.removeRecords_entries s.expiring s.counted
    obtain ⟨kept, keeps, marks, serials⟩ := AlarmTable.retireWhere_outcome (t := s.atu)
      (p := fun e => s.expiring.any (fun r => AlarmSource.isSite r.handle e.source))
      (named := fun e => ∃ r ∈ s.stu.records, r.due ∧ ∃ i, e.source = .site r.handle i)
      (fun e => State.anySite_expiring) (fun e f same => by rw [same])
    rw [entries]
    refine ⟨kept, keeps, marks, serials, fun some unmarked => ?_⟩
    rw [← entries]
    obtain ⟨r, mr, due⟩ := some
    have nonempty : s.expiring ≠ [] := List.ne_nil_of_mem
      (List.mem_filter.mpr ⟨List.mem_map_of_mem mr, r.countExpiry_expired.mpr due⟩)
    refine State.removeRecords_asserted s.expiring s.counted nonempty fun f mf k marked g mg gone isK => ?_
    exact unmarked f mf g mg (State.anySite_expiring.mp gone) (isK ▸ marked)
  · exact State.removeRecords_atu s.expiring s.counted
  · exact State.removeRecords_provisionalTimeout _ _
  · exact (State.removeRecords_rest s.expiring s.counted).trans rfl

/-! ### The warm reset (R189) -/

theorem slotAt_releaseAll (slots : List SlotEntry) (k : Nat) :
    slotAt (releaseAll slots) k = if (slotAt slots k).isReserved then .free else slotAt slots k := by
  unfold slotAt releaseAll
  rw [List.getElem?_map]
  cases slots[k]? with
  | none => rfl
  | some e => rfl

theorem SiteRecord.dropsOnWarm_iff (r : SiteRecord) : r.dropsOnWarm = true ↔ r.goesAtWarmReset := by
  simp [SiteRecord.dropsOnWarm, SiteRecord.goesAtWarmReset]

/-- The records that a warm reset removes (R95). -/
def State.dropping (s : State) : List SiteRecord := s.stu.records.filter SiteRecord.dropsOnWarm

theorem State.exists_dropping {s : State} {q : SiteRecord → Prop} :
    (∃ r ∈ s.dropping, q r) ↔ ∃ r ∈ s.stu.records, r.goesAtWarmReset ∧ q r := by
  simp only [State.dropping, List.mem_filter, SiteRecord.dropsOnWarm_iff, and_assoc]

theorem State.anyHandle_dropping {s : State} {h : Nat} :
    anyHandle s.dropping h = true ↔ ∃ r ∈ s.stu.records, r.goesAtWarmReset ∧ r.handle = h :=
  anyHandle_iff.trans State.exists_dropping

theorem State.warmReset_eq (s : State) :
    s.warmReset = { s.dropping.foldl State.removeRecord s with
      stu := { (s.dropping.foldl State.removeRecord s).stu with
        records := (s.dropping.foldl State.removeRecord s).stu.records.map SiteRecord.warm },
      links := (s.dropping.foldl State.removeRecord s).links.map (Link.warm s.clock.now), atu := AlarmTable.reset } := rfl

theorem State.warmReset_records {s : State} (once : (s.stu.records.map SiteRecord.handle).Nodup) :
    s.warmReset.stu.records
      = (s.stu.records.filter (fun r => r.lifecycle == .active || r.lifecycle == .suspended)).map SiteRecord.warm := by
  show List.map _ (s.dropping.foldl State.removeRecord s).stu.records = _
  rw [State.removeRecords_records]
  refine congrArg _ (List.filter_congr fun r m => ?_)
  have goes : anyHandle s.dropping r.handle = r.dropsOnWarm := by
    rw [Bool.eq_iff_iff, State.anyHandle_dropping, SiteRecord.dropsOnWarm_iff]
    refine ⟨fun ⟨q, mq, is, same⟩ => ?_, fun is => ⟨r, m, is, rfl⟩⟩
    exact List.inj_on_of_nodup_map once mq m same ▸ is
  rw [goes, SiteRecord.dropsOnWarm]
  cases r.lifecycle <;> rfl

theorem State.warmReset_link (s : State) (l : LinkId) :
    s.warmReset.link l = Link.warm s.clock.now ((s.dropping.foldl State.removeRecord s).link l) :=
  PerLink.get_map _ _ _

theorem State.warmReset_slotAt (s : State) (l : LinkId) (k : Nat) :
    slotAt (s.warmReset.link l).slots k =
      match slotAt (s.link l).slots k with
      | .free => .free
      | .reserved _ => .free
      | .held h =>
        if s.stu.records.any (fun r => r.link == l && r.handle == h && (r.lifecycle == .provisional || r.lifecycle == .retiring)) then .free
        else .held h := by
  have warm : (s.warmReset.link l).slots = releaseAll ((s.dropping.foldl State.removeRecord s).link l).slots := by
    rw [State.warmReset_link]; rfl
  have goes (h : Nat) : s.dropping.any (fun r => r.link == l && r.handle == h)
      = s.stu.records.any (fun r => r.link == l && r.handle == h && (r.lifecycle == .provisional || r.lifecycle == .retiring)) := by
    rw [State.dropping, List.any_filter]
    exact congrArg _ (funext fun r => Bool.and_comm _ _)
  rw [warm, slotAt_releaseAll, State.removeRecords_slotAt]
  cases slotAt (s.link l).slots k with
  | free => rfl
  | held h =>
    simp only [goes h]
    split <;> rfl
  | reserved h =>
    simp only
    split <;> rfl

/-- Settles O8: the removals of `State.dropping`, and what is left set back. -/
theorem warmResetOutcome : Obligations.WarmResetOutcome := by
  intro tag s idle once
  have rest := State.removeRecords_rest s.dropping s
  refine ⟨s.warmReset, ?_, (congrArg State.clock rest :), (congrArg State.tb rest :), (congrArg State.published rest :), (congrArg State.older rest :),
    (congrArg State.rm rest :), (congrArg State.sel rest :), (congrArg State.port rest :), (congrArg State.pending rest :),
    State.removeRecords_provisionalTimeout _ _, rfl, State.warmReset_records once, fun p => ?_, fun h => ?_,
    fun drops l d first => ?_, fun l => ⟨?_, ?_, fun k => s.warmReset_slotAt l k⟩⟩
  · show Host.Outcome.next (request tag _ s) = _
    rw [request_idle idle]
  · show p ∈ (s.dropping.foldl State.removeRecord s).stu.index ↔ _
    rw [State.removeRecords_index, List.mem_filter, Bool.not_eq_true', ← Bool.not_eq_true, State.anyHandle_dropping]
    simp only [not_exists, not_and]
  · exact (State.mem_removeRecords_freeHandles h s.dropping s).trans (or_congr_right State.exists_dropping)
  · have each : ∀ r ∈ s.dropping, 1 ≤ r.drop := fun r m => drops r (List.mem_filter.mp m).1
    have entry : s.warmReset.stu.dropEntry l d = (s.dropping.foldl State.removeRecord s).stu.dropEntry l d := rfl
    rw [entry, State.removeRecords_dropEntry l d first _ _ each]
    refine ⟨fun gone => if_pos (State.exists_dropping.mpr gone), fun kept => if_neg fun gone => ?_⟩
    obtain ⟨r, mr, goes, is⟩ := State.exists_dropping.mp gone
    exact kept r mr goes is
  · have same := (State.removeRecords_link l s.dropping s).1
    rw [State.warmReset_link]
    generalize (s.dropping.foldl State.removeRecord s).link l = k at same ⊢
    conv_lhs => rw [same]
    rfl
  · rw [State.warmReset_link]
    exact (List.length_map _).trans (State.removeRecords_link l s.dropping s).2

end Sys2Proof.Machine
end

section
/-! PROOF. The timebase: the boundary, U at it, samples, and selection publications. -/

namespace Sys2Proof.Machine

open Sys2Proof

/-! ### A boundary of the timebase record, by its state (R6, R20 to R22) -/

section Boundary

variable {tb : Timebase}

theorem Timebase.boundary_locked (locked : tb.state = .locked) (base residual : Nat) :
    tb.boundary base residual = { tb with
      seconds := tb.seconds + 1, learning := inc16 tb.learning, u := base * 1000, appliedStep := tb.stepSum, stepSum := 0 } := by
  simp [Timebase.boundary, Timebase.count, Timebase.updateU, Timebase.ceilingCheck, Timebase.takeSteps, locked]

theorem Timebase.boundary_acquire (acquire : tb.state = .acquire) (base residual : Nat) :
    tb.boundary base residual = { tb with
      seconds := tb.seconds + 1, u := capU ((base + residual) * 1000), appliedStep := tb.stepSum, stepSum := 0 } := by
  simp [Timebase.boundary, Timebase.count, Timebase.updateU, Timebase.ceilingCheck, Timebase.takeSteps, acquire]

theorem Timebase.boundary_freerun (freerun : tb.state = .freerun) (base residual : Nat) :
    tb.boundary base residual = { tb with
      seconds := tb.seconds + 1, u := Config.uCapPs, appliedStep := tb.stepSum, stepSum := 0 } := by
  simp [Timebase.boundary, Timebase.count, Timebase.updateU, Timebase.ceilingCheck, Timebase.takeSteps, freerun]

/-- In FREQ_HOLD U grows by ga, up to the ceiling (R20, R22). -/
theorem Timebase.boundary_freqHold (hold : tb.state = .freqHold) (base residual : Nat) :
    tb.boundary base residual =
      if tb.settings.ceiling ≤ capU (tb.u + tb.settings.ga) / 1000 then
        { tb with state := .freerun, seconds := tb.seconds + 1, learning := 0, u := Config.uCapPs, appliedStep := tb.stepSum, stepSum := 0 }
      else
        { tb with seconds := tb.seconds + 1, u := capU (tb.u + tb.settings.ga), appliedStep := tb.stepSum, stepSum := 0 } := by
  have grown : tb.count.updateU base residual = { tb with seconds := tb.seconds + 1, u := capU (tb.u + tb.settings.ga) } := by
    simp [Timebase.count, Timebase.updateU, hold]
  rw [Timebase.boundary, grown, Timebase.ceilingCheck_eq]
  by_cases full : tb.settings.ceiling ≤ capU (tb.u + tb.settings.ga) / 1000
  · rw [if_pos ⟨Or.inr hold, full⟩, if_pos full]; rfl
  · rw [if_neg fun both => full both.2, if_neg full]; rfl

/-- In HOLDOVER U grows by g, up to the ceiling, and g ages (R21, R22). -/
theorem Timebase.boundary_holdover (hold : tb.state = .holdover) (base residual : Nat) :
    tb.boundary base residual =
      if tb.settings.ceiling ≤ capU (tb.u + tb.g) / 1000 then
        { tb.growHoldover with state := .freerun, seconds := tb.seconds + 1, learning := 0, u := Config.uCapPs,
                               appliedStep := tb.stepSum, stepSum := 0 }
      else { tb.growHoldover with seconds := tb.seconds + 1, appliedStep := tb.stepSum, stepSum := 0 } := by
  have grown : tb.count.updateU base residual = { tb.growHoldover with seconds := tb.seconds + 1 } := by
    simp only [Timebase.count, Timebase.updateU, hold, Timebase.growHoldover, Timebase.age]
    simp only [reduceCtorEq, if_false, if_true]
    split <;> rfl
  have kept : tb.growHoldover.state = tb.state ∧ tb.growHoldover.settings = tb.settings ∧ tb.growHoldover.u = capU (tb.u + tb.g)
      ∧ tb.growHoldover.stepSum = tb.stepSum := by
    unfold Timebase.growHoldover Timebase.age
    rw [if_pos rfl]
    split <;> exact ⟨rfl, rfl, rfl, rfl⟩
  obtain ⟨state, settings, u, steps⟩ := kept
  rw [Timebase.boundary, grown, Timebase.ceilingCheck_eq]
  simp only [state, settings, u]
  by_cases full : tb.settings.ceiling ≤ capU (tb.u + tb.g) / 1000
  · rw [if_pos ⟨Or.inl hold, full⟩, if_pos full, ← steps]; rfl
  · rw [if_neg fun both => full both.2, if_neg full, ← steps]; rfl

/-- What grows in HOLDOVER (R21). -/
theorem Timebase.growHoldover_eq (tb : Timebase) :
    tb.growHoldover = if tb.settings.agingInterval ≠ 0 ∧ tb.settings.agingInterval ≤ inc16 tb.aging then
        { tb with u := capU (tb.u + tb.g), holdoverEpochs := inc16 tb.holdoverEpochs, g := inc16 tb.g, aging := 0, agingDue := false }
      else
        { tb with u := capU (tb.u + tb.g), holdoverEpochs := inc16 tb.holdoverEpochs, aging := inc16 tb.aging, agingDue := false } := by
  unfold Timebase.growHoldover Timebase.age
  rw [if_pos rfl]

/-- The state of a boundary, U and what grows with it apart. -/
theorem Timebase.boundary_kept (tb : Timebase) (base residual : Nat) :
    tb.boundary base residual = { tb with
      state := (tb.boundary base residual).state, learning := (tb.boundary base residual).learning,
      u := (tb.boundary base residual).u, g := (tb.boundary base residual).g, aging := (tb.boundary base residual).aging,
      agingDue := (tb.boundary base residual).agingDue, holdoverEpochs := (tb.boundary base residual).holdoverEpochs,
      seconds := tb.seconds + 1, appliedStep := tb.stepSum, stepSum := 0 } := by
  unfold Timebase.boundary
  rw [Timebase.updateU_eq, Timebase.ceilingCheck_eq]
  split <;> rfl

/-- The learning counter of a boundary: it counts in LOCKED, and goes to 0 as FREERUN is entered (R17, R23). -/
theorem Timebase.boundary_learning (tb : Timebase) (base residual : Nat) :
    (tb.state = .locked → (tb.boundary base residual).learning = inc16 tb.learning)
    ∧ (tb.state ≠ .locked →
        (tb.boundary base residual).learning = if (tb.boundary base residual).state = tb.state then tb.learning else 0) := by
  refine ⟨fun locked => by rw [Timebase.boundary_locked locked], fun other => ?_⟩
  cases state : tb.state with
  | locked => exact absurd state other
  | acquire => rw [Timebase.boundary_acquire state]; simp [state]
  | freerun => rw [Timebase.boundary_freerun state]; simp [state]
  | freqHold => rw [Timebase.boundary_freqHold state]; split <;> simp
  | holdover =>
    rw [Timebase.boundary_holdover state]
    split
    · simp
    · rw [Timebase.growHoldover_eq]
      split <;> simp

end Boundary

/-! ### The boundary of the part (R3 to R7) -/

theorem State.exec_epochBoundary (s : State) : exec .epochBoundary s = .next s.makeBoundary := rfl

theorem State.makeBoundary_tb (s : State) :
    s.makeBoundary.tb = s.tb.boundary (baseNs (s.advance s.clock.nextAt)) (residualNs (s.advance s.clock.nextAt)) := rfl

theorem State.makeBoundary_entry (s : State) (r : RefId) :
    s.makeBoundary.entry r = RefEntry.boundaryMade s.makeBoundary.tb.appliedStep (s.entry r) := PerRef.get_map _ _ _

theorem Clock.advance_osc (c : Clock) (f : Int) (t : Instant) :
    (c.now ≤ t → (c.advance f t).osc = c.osc + (t - c.now) * (1000000000000 + f))
    ∧ (t < c.now → (c.advance f t).osc = c.osc) := by
  unfold Clock.advance
  constructor
  · intro le
    rcases lt_or_eq_of_le le with lt | rfl
    · rw [if_pos lt]
    · simp
  · intro lt
    rw [if_neg (not_lt.mpr lt.le)]

/-- Settles O11. -/
theorem epochBoundaryOutcome : Obligations.EpochBoundaryOutcome := by
  intro s
  have kept := s.tb.boundary_kept (baseNs (s.advance s.clock.nextAt)) (residualNs (s.advance s.clock.nextAt))
  obtain ⟨counts, others⟩ := s.tb.boundary_learning (baseNs (s.advance s.clock.nextAt)) (residualNs (s.advance s.clock.nextAt))
  rw [← State.makeBoundary_tb] at kept counts others
  obtain ⟨goes, stays⟩ := s.clock.advance_osc s.tb.f s.clock.nextAt
  refine ⟨_, s.exec_epochBoundary, (congrArg Timebase.seconds kept :), (congrArg Timebase.appliedStep kept :), (congrArg Timebase.stepSum kept :),
    counts, others, (congrArg Timebase.timeValid kept :), (congrArg Timebase.f kept :), (congrArg Timebase.steered kept :),
    (congrArg Timebase.e kept :), (congrArg Timebase.inLock kept :), (congrArg Timebase.selected kept :), (congrArg Timebase.settings kept :),
    rfl, rfl, Clock.advance_nextAt _ _ _, congrArg (· + (1000000000000 : Int)) (Clock.advance_nextAt _ _ _),
    congrArg (· + 1) (Clock.advance_boundaries _ _ _), Clock.advance_now _ _ _, goes, stays, fun r => ?_, rfl, rfl, rfl, rfl, rfl, rfl,
    rfl, rfl, rfl, rfl, rfl, rfl⟩
  have applied : s.makeBoundary.tb.appliedStep = s.tb.stepSum := congrArg Timebase.appliedStep kept
  rw [State.makeBoundary_entry, applied]
  rfl

/-! ### U at a boundary (R19 to R22) -/

theorem baseNs_sat {s : State} {r : RefId} (selected : s.tb.selected = some r) (sat : r = .satA ∨ r = .satB) :
    baseNs s = (s.entry r).settings.baseUncertainty := by
  rcases sat with rfl | rfl <;> simp only [baseNs, selected]

theorem baseNs_parent {s : State} {u : Nat} (selected : s.tb.selected = some .parent) (recent : (s.entry .parent).recentParentU = some u) :
    baseNs s = min (u + (s.entry .parent).settings.allowance) 999999 := by
  simp only [baseNs, selected, recent]
  rfl

theorem residualNs_some {s : State} {e : Int} (some : s.tb.e = some e) : residualNs s = e.natAbs := by
  simp only [residualNs, some]

theorem Timebase.age_due {tb : Timebase} (due : tb.agingDue = true) :
    tb.age = if tb.settings.agingInterval ≠ 0 ∧ tb.settings.agingInterval ≤ tb.aging then
        { tb with g := inc16 tb.g, aging := 0, agingDue := false }
      else { tb with agingDue := false } := by
  rw [Timebase.age, if_pos due]

/-- U, and what grows with it, after a boundary. -/
theorem boundary_uncertainty (s : State) :
    let t := s.makeBoundary
    (∀ r, s.tb.selected = some r → r = .satA ∨ r = .satB →
      (s.tb.state = .locked → t.tb.state = .locked ∧ t.tb.u = (s.entry r).settings.baseUncertainty * 1000)
      ∧ (∀ e, s.tb.state = .acquire → s.tb.e = some e →
          t.tb.state = .acquire ∧ t.tb.u = min (((s.entry r).settings.baseUncertainty + e.natAbs) * 1000) 999999000))
    ∧ (∀ u, s.tb.selected = some .parent → (s.entry .parent).recentParentU = some u →
      (s.tb.state = .locked → t.tb.u = min (u + (s.entry .parent).settings.allowance) 999999 * 1000)
      ∧ (∀ e, s.tb.state = .acquire → s.tb.e = some e →
          t.tb.u = min ((min (u + (s.entry .parent).settings.allowance) 999999 + e.natAbs) * 1000) 999999000)) := by
  dsimp only
  rw [State.makeBoundary_tb]
  have residual {e : Int} (some : s.tb.e = some e) : residualNs (s.advance s.clock.nextAt) = e.natAbs := residualNs_some some
  refine ⟨fun r selected sat => ?_, fun u selected recent => ?_⟩
  · have base : baseNs (s.advance s.clock.nextAt) = (s.entry r).settings.baseUncertainty :=
      baseNs_sat (s := s.advance s.clock.nextAt) selected sat
    refine ⟨fun locked => ?_, fun e acquire some => ?_⟩
    · rw [Timebase.boundary_locked locked, base]; exact ⟨locked, rfl⟩
    · rw [Timebase.boundary_acquire acquire, base, residual some]; exact ⟨acquire, rfl⟩
  · have base : baseNs (s.advance s.clock.nextAt) = min (u + (s.entry .parent).settings.allowance) 999999 :=
      baseNs_parent (s := s.advance s.clock.nextAt) selected recent
    refine ⟨fun locked => ?_, fun e acquire some => ?_⟩
    · rw [Timebase.boundary_locked locked, base]
    · rw [Timebase.boundary_acquire acquire, base, residual some]; rfl

/-- Settles O12: the boundary by its state, and the two rows that compare at once. -/
theorem uncertaintyOutcome : Obligations.UncertaintyOutcome := by
  refine ⟨fun s => ?_, fun s => ⟨fun ⟨hold, due⟩ reached => ?_, fun ⟨hold, due⟩ short => ?_, fun idle => ?_, fun ⟨held, ceiling⟩ => ?_, fun none => ?_⟩⟩
  · obtain ⟨sat, parent⟩ := boundary_uncertainty s
    refine ⟨_, s.exec_epochBoundary, sat, parent, fun steady => ?_, ?_, fun freerun => ?_, fun hold => ?_, fun hold => ?_⟩ <;>
      rw [State.makeBoundary_tb]
    · rcases steady with state | state | state
      · rw [Timebase.boundary_locked state]; exact ⟨rfl, rfl, rfl, rfl⟩
      · rw [Timebase.boundary_acquire state]; exact ⟨rfl, rfl, rfl, rfl⟩
      · rw [Timebase.boundary_freerun state]; exact ⟨rfl, rfl, rfl, rfl⟩
    · cases state : s.tb.state with
      | locked => rw [Timebase.boundary_locked state]; rfl
      | acquire => rw [Timebase.boundary_acquire state]; rfl
      | freerun => rw [Timebase.boundary_freerun state]; rfl
      | freqHold => rw [Timebase.boundary_freqHold state]; split <;> rfl
      | holdover =>
        rw [Timebase.boundary_holdover state, Timebase.growHoldover_eq]
        (repeat' split) <;> first | rfl | contradiction
    · rw [Timebase.boundary_freerun freerun]; rfl
    · rw [Timebase.boundary_freqHold hold]
      by_cases full : s.tb.settings.ceiling ≤ capU (s.tb.u + s.tb.settings.ga) / 1000
      · rw [if_pos full]
        exact ⟨rfl, rfl, rfl, fun below => absurd full (not_le.mpr below), fun _ => ⟨rfl, rfl⟩⟩
      · rw [if_neg full]
        exact ⟨rfl, rfl, rfl, fun _ => ⟨hold, rfl⟩, fun at' => absurd at' full⟩
    · rw [Timebase.boundary_holdover hold, Timebase.growHoldover_eq]
      by_cases full : s.tb.settings.ceiling ≤ capU (s.tb.u + s.tb.g) / 1000 <;>
        by_cases aged : s.tb.settings.agingInterval ≠ 0 ∧ s.tb.settings.agingInterval ≤ inc16 s.tb.aging
      · rw [if_pos full, if_pos aged]
        exact ⟨rfl, fun _ => ⟨rfl, rfl⟩, fun not => absurd aged not, fun below => absurd full (not_le.mpr below), fun _ => ⟨rfl, rfl⟩⟩
      · rw [if_pos full, if_neg aged]
        exact ⟨rfl, fun is => absurd is aged, fun _ => ⟨rfl, rfl⟩, fun below => absurd full (not_le.mpr below), fun _ => ⟨rfl, rfl⟩⟩
      · rw [if_neg full, if_pos aged]
        exact ⟨rfl, fun _ => ⟨rfl, rfl⟩, fun not => absurd aged not, fun _ => ⟨hold, rfl⟩, fun at' => absurd at' full⟩
      · rw [if_neg full, if_neg aged]
        exact ⟨rfl, fun is => absurd is aged, fun _ => ⟨rfl, rfl⟩, fun _ => ⟨hold, rfl⟩, fun at' => absurd at' full⟩
  · show Host.Outcome.next (if _ then _ else _) = _
    rw [if_pos hold, Timebase.age_due due, if_pos reached]
    rfl
  · show Host.Outcome.next (if _ then _ else _) = _
    rw [if_pos hold, Timebase.age_due due, if_neg short]
  · show Host.Outcome.next (if _ then _ else _) = _
    by_cases hold : s.tb.state = .holdover
    · have undue : s.tb.age = s.tb := if_neg fun due => idle ⟨hold, due⟩
      rw [if_pos hold, undue]
    · rw [if_neg hold]
  · show Host.Outcome.next (if _ then _ else _) = _
    rw [if_pos ⟨held, Timebase.atCeiling_iff.mpr ceiling⟩]
    rfl
  · show Host.Outcome.next (if _ then _ else _) = _
    rw [if_neg fun full => none ⟨full.1, Timebase.atCeiling_iff.mp full.2⟩]

/-! ### Samples of the selected reference (R8 to R11) -/

/-- A boundary is made at once where a negative step has put it in the past (log 4). -/
theorem State.boundaryIfPassed_eq (s : State) (step : Int) :
    (0 ≤ step ∨ s.clock.now ≤ s.clock.nextAt → s.boundaryIfPassed step = s)
    ∧ (step < 0 → s.clock.nextAt < s.clock.now →
        s.boundaryIfPassed step = ({ s with clock := { s.clock with nextAt := s.clock.now } } : State).makeBoundary) := by
  unfold State.boundaryIfPassed
  refine ⟨fun ahead => if_neg fun ⟨negative, passed⟩ => ?_, fun negative passed => if_pos ⟨negative, passed⟩⟩
  rcases ahead with positive | ahead
  · exact absurd negative (not_lt.mpr positive)
  · exact absurd passed (not_lt.mpr ahead)

/-- The selected entry's offer taken after the others: every offer is. -/
theorem State.othersTaken_update {s : State} {r : RefId} (selected : s.tb.selected = some r) :
    s.othersTaken.update r (fun e => { e with offer := none }) = s.offersTaken := by
  simp only [State.othersTaken, selected, PerRef.update, PerRef.get_set_same, PerRef.set_set]
  have taken : ({ s.entry r with offer := none } : RefEntry) = s.offersTaken.get r := by
    rw [State.offersTaken, PerRef.get_map]; rfl
  rw [taken, PerRef.set_get]

theorem State.phaseSample_ignoreOthers {s : State} {r : RefId} (selected : s.tb.selected = some r) (v : Int)
    (act : Int → Timebase → Timebase) :
    s.ignoreOthers.phaseSample r v act = { s with
      tb := act v s.tb, clock := { s.clock with nextAt := s.clock.nextAt + slewStep s.tb.settings v * 1000 },
      rm := { s.rm with entries := s.offersTaken } } := by
  rw [State.ignoreOthers_eq, ← State.othersTaken_update selected]
  rfl

theorem State.lineSample_ignoreOthers {s : State} {r : RefId} (selected : s.tb.selected = some r) (v : Int) :
    s.ignoreOthers.lineSample r v = { s with
      tb := { s.tb with f := steer s.tb.f v 16 }, rm := { s.rm with entries := s.offersTaken } } := by
  rw [State.ignoreOthers_eq, ← State.othersTaken_update selected]
  rfl

theorem Timebase.acquireSample_eq {tb : Timebase} (acquire : tb.state = .acquire) (e : Int) :
    tb.acquireSample e = { tb with
      e := some e, stepSum := tb.stepSum + slewStep tb.settings e, f := steer tb.f e 16,
      inLock := if e.natAbs ≤ tb.settings.lockThreshold then min (tb.inLock + 1) 64 else 0,
      state := if tb.settings.lockCount ≤ (if e.natAbs ≤ tb.settings.lockThreshold then min (tb.inLock + 1) 64 else 0) then .locked
        else .acquire } := by
  rw [← acquire]
  rfl

theorem Timebase.lockedSample_eq {tb : Timebase} (locked : tb.state = .locked) (e : Int) :
    tb.lockedSample e = { tb with
      e := some e, stepSum := tb.stepSum + slewStep tb.settings e, f := steer tb.f e 64,
      inLock := if tb.settings.unlockThreshold < e.natAbs then 0 else tb.inLock,
      state := if tb.settings.unlockThreshold < e.natAbs then .acquire else .locked } := by
  rw [← locked]
  unfold Timebase.lockedSample Timebase.checkUnlock
  by_cases lost : tb.settings.unlockThreshold < e.natAbs
  · rw [if_pos (show (tb.followSample 64 e).settings.unlockThreshold < e.natAbs from lost), if_pos lost, if_pos lost]
    rfl
  · rw [if_neg (show ¬ (tb.followSample 64 e).settings.unlockThreshold < e.natAbs from lost), if_neg lost, if_neg lost]
    rfl

/-- A phase sample row with an offer of the selected reference: the act, and a boundary made at once where the step asks for it. -/
theorem State.takePhaseSample {s : State} {r : RefId} {e : Int} (act : Int → Timebase → Timebase) (selected : s.tb.selected = some r)
    (phase : r.isPhase = true) (offer : (s.entry r).offer = some e) :
    s.takeSample true (fun r v t => (t.phaseSample r v act).boundaryIfPassed (slewStep t.tb.settings v))
      = ({ s with tb := act e s.tb, clock := { s.clock with nextAt := s.clock.nextAt + slewStep s.tb.settings e * 1000 },
                  rm := { s.rm with entries := s.offersTaken } } : State).boundaryIfPassed (slewStep s.tb.settings e) := by
  rw [← phase, State.takeSample_offer s r e _ selected offer, State.phaseSample_ignoreOthers selected]
  rfl

/-- Without an offer of the selected reference, a sample row takes the other entries' offers alone. -/
theorem State.sampleRow_ignores {s : State} {states : Prop} [Decidable states] {phase : Bool} {act : RefId → Int → State → State}
    (none : ¬ states ∨ ∀ r, s.tb.selected = some r → r.isPhase = phase → (s.entry r).offer = Option.none) :
    (if states then s.takeSample phase act else s.ignoreOthers) = { s with rm := { s.rm with entries := s.othersTaken } } := by
  rw [← State.ignoreOthers_eq]
  split
  · rename_i is
    exact State.takeSample_none s phase act (none.resolve_left (not_not.mpr is))
  · rfl

/-- Settles O13. -/
theorem sampleOutcome : Obligations.SampleOutcome := by
  refine ⟨fun s => ⟨fun r e acquire selected phase offer => ?_, fun idle => ?_⟩,
    fun s => ⟨fun r e locked selected phase offer => ?_, fun idle => ?_⟩,
    fun s => ⟨fun r d free selected line offer => ?_, fun idle => ?_⟩⟩
  · have row : exec .acquireSample s = .next (if s.tb.state = .acquire then _ else _) := rfl
    rw [row, if_pos acquire, State.takePhaseSample _ selected phase offer, Timebase.acquireSample_eq acquire]
    exact ⟨fun ahead => congrArg Host.Outcome.next ((State.boundaryIfPassed_eq _ _).1 ahead),
      fun negative passed => congrArg Host.Outcome.next ((State.boundaryIfPassed_eq _ _).2 negative passed)⟩
  · exact congrArg Host.Outcome.next (State.sampleRow_ignores idle)
  · have row : exec .lockedSample s = .next (if s.tb.state = .locked then _ else _) := rfl
    rw [row, if_pos locked, State.takePhaseSample _ selected phase offer, Timebase.lockedSample_eq locked]
    exact ⟨fun ahead => congrArg Host.Outcome.next ((State.boundaryIfPassed_eq _ _).1 ahead),
      fun negative passed => congrArg Host.Outcome.next ((State.boundaryIfPassed_eq _ _).2 negative passed)⟩
  · exact congrArg Host.Outcome.next (State.sampleRow_ignores idle)
  · have row : exec .lineSample s = .next (if s.tb.state = .freerun ∨ s.tb.state = .freqHold then _ else _) := rfl
    rw [row, if_pos free, ← line, State.takeSample_offer s r d _ selected offer, State.lineSample_ignoreOthers selected]
    rfl
  · exact congrArg Host.Outcome.next (State.sampleRow_ignores (idle.imp_left fun ⟨a, b⟩ => not_or.mpr ⟨a, b⟩))

/-! ### Selection publications (R13 to R16) -/

/-- What follows a publication of a LINE reference (R15). -/
theorem Timebase.takeLine_eq (tb : Timebase) (r : RefId) :
    tb.takeLine r = (if tb.state = .locked ∨ tb.state = .acquire ∨ tb.state = .holdover then tb.enterFreqHold else tb).follow r := by
  cases state : tb.state <;> simp [Timebase.takeLine, state]

/-- What follows a publication of none (R16). -/
theorem Timebase.takeNone_eq (tb : Timebase) :
    tb.takeNone = (if tb.state = .locked ∨ tb.state = .acquire ∨ tb.state = .freqHold then tb.loseSelection else tb).unfollow := by
  cases state : tb.state <;> simp [Timebase.takeNone, state]

theorem Timebase.enterFreqHold_eq (tb : Timebase) :
    tb.enterFreqHold = if tb.settings.ceiling ≤ tb.u / 1000 then tb.enterFreerun else { tb with state := .freqHold } := by
  by_cases full : tb.settings.ceiling ≤ tb.u / 1000 <;> simp [Timebase.enterFreqHold, Timebase.atCeiling, nsOf, full]

theorem Timebase.loseSelection_eq (tb : Timebase) :
    tb.loseSelection = if tb.settings.learningPeriod ≤ tb.learning ∧ ¬ tb.settings.ceiling ≤ tb.u / 1000 then
        { tb with state := .holdover, g := tb.settings.g0, holdoverEpochs := 0, aging := 0, agingDue := false }
      else tb.enterFreerun := by
  by_cases learnt : tb.settings.learningPeriod ≤ tb.learning <;> by_cases full : tb.settings.ceiling ≤ tb.u / 1000 <;>
    simp [Timebase.loseSelection, Timebase.enterHoldover, Timebase.atCeiling, nsOf, learnt, full]

theorem State.popPublication_eq {s : State} {head : Option RefId} {rest : List (Option RefId)} (queue : s.sel.toTbu = head :: rest) :
    s.popPublication = { s with sel := { s.sel with toTbu := rest } } := by
  rw [State.popPublication, queue]
  rfl

/-- A phase reference at the head of the publications is taken (R13, R14). -/
theorem exec_phaseReferencePublication {s : State} {r : RefId} {rest : List (Option RefId)} (queue : s.sel.toTbu = some r :: rest)
    (phase : r.isPhase = true) :
    exec .phaseReferencePublication s = .next (({ s with sel := { s.sel with toTbu := rest } } : State).takePhase r) := by
  show execPhaseReferencePublication s = _
  rw [← State.popPublication_eq queue]
  simp only [execPhaseReferencePublication, queue, phase, if_true]

theorem exec_lineReferencePublication {s : State} {r : RefId} {rest : List (Option RefId)} (queue : s.sel.toTbu = some r :: rest)
    (line : r.isPhase = false) :
    exec .lineReferencePublication s = .next { s with sel := { s.sel with toTbu := rest }, tb := s.tb.takeLine r } := by
  show execLineReferencePublication s = _
  simp only [execLineReferencePublication, queue, line, State.popPublication_eq queue]
  rfl

theorem exec_selectionLostPublication {s : State} {rest : List (Option RefId)} (queue : s.sel.toTbu = none :: rest) :
    exec .selectionLostPublication s = .next { s with sel := { s.sel with toTbu := rest }, tb := s.tb.takeNone } := by
  show execSelectionLostPublication s = _
  simp only [execSelectionLostPublication, queue, State.popPublication_eq queue]

/-- Each row leaves a publication of another kind at the head. -/
theorem publication_notTaken (s : State) :
    ((∀ r rest, s.sel.toTbu = some r :: rest → r.isPhase = false) → exec .phaseReferencePublication s = .next s)
    ∧ ((∀ r rest, s.sel.toTbu = some r :: rest → r.isPhase = true) → exec .lineReferencePublication s = .next s)
    ∧ ((∀ rest, s.sel.toTbu ≠ none :: rest) → exec .selectionLostPublication s = .next s) := by
  show (_ → execPhaseReferencePublication s = _) ∧ (_ → execLineReferencePublication s = _)
    ∧ (_ → execSelectionLostPublication s = _)
  unfold execPhaseReferencePublication execLineReferencePublication execSelectionLostPublication
  cases queue : s.sel.toTbu with
  | nil => exact ⟨fun _ => rfl, fun _ => rfl, fun _ => rfl⟩
  | cons head rest =>
    cases head with
    | none => exact ⟨fun _ => rfl, fun _ => rfl, fun other => absurd rfl (other rest)⟩
    | some r =>
      refine ⟨fun other => ?_, fun other => ?_, fun _ => rfl⟩
      · simp only [other r rest rfl]; rfl
      · simp only [other r rest rfl]; rfl

/-- Settles O14. -/
theorem publicationOutcome : Obligations.PublicationOutcome := by
  refine ⟨fun s => ⟨fun r rest queue phase => ?_, (publication_notTaken s).1⟩,
    fun s => ⟨fun r rest queue line => ?_, (publication_notTaken s).2.1, fun rest queue => ?_, (publication_notTaken s).2.2⟩⟩
  · dsimp only
    rw [exec_phaseReferencePublication queue phase]
    refine ⟨fun last => ?_, fun e last timed => ?_, fun e c last untimed declared => ⟨fun ahead => ?_, fun negative passed => ?_⟩⟩
    · rw [State.takePhase_noSample (s := { s with sel := { s.sel with toTbu := rest } }) last]
    · rw [State.takePhase_timed (s := { s with sel := { s.sel with toTbu := rest } }) last timed]
      rfl
    · rw [State.takePhase_load (s := { s with sel := { s.sel with toTbu := rest } }) last untimed declared]
      exact congrArg Host.Outcome.next ((State.boundaryIfPassed_eq _ _).1 ahead)
    · rw [State.takePhase_load (s := { s with sel := { s.sel with toTbu := rest } }) last untimed declared]
      exact congrArg Host.Outcome.next ((State.boundaryIfPassed_eq _ _).2 negative passed)
  · dsimp only
    rw [exec_lineReferencePublication queue line, Timebase.takeLine_eq, Timebase.enterFreqHold_eq]
    refine ⟨fun moves below => ?_, fun moves full => ?_, fun stays => ?_⟩
    · rw [if_pos moves, if_neg below]; rfl
    · rw [if_pos moves, if_pos full]; rfl
    · rw [if_neg stays]; rfl
  · dsimp only
    rw [exec_selectionLostPublication queue, Timebase.takeNone_eq, Timebase.loseSelection_eq]
    refine ⟨fun moves learnt below => ?_, fun moves lost => ?_, fun stays => ?_⟩
    · rw [if_pos moves, if_pos ⟨learnt, below⟩]; rfl
    · rw [if_pos moves, if_neg fun ⟨learnt, below⟩ => lost.elim (absurd learnt) fun full => below full]; rfl
    · rw [if_neg stays]; rfl

end Sys2Proof.Machine
end

section
/-! PROOF. Reference inputs: messages on a line, and edges. -/

namespace Sys2Proof.Machine

open Sys2Proof

/-! ### Message receivers (R195, R196) -/

theorem takeMessageByte_last {sync len : Nat} {part : List Byte} {b : Byte} (begun : part ≠ []) (complete : part.length + 1 = len) :
    takeMessageByte sync len part b = ([], some (part ++ [b])) := by
  cases part with
  | nil => exact absurd rfl begun
  | cons p ps => simp only [takeMessageByte]; rw [if_pos (by simpa using complete)]

/-- A message that the bytes complete, and no more. -/
theorem takeMessageBytes_complete {sync len : Nat} {part bs : List Byte} (long : 2 ≤ len) (short : part.length < len)
    (starts : ((part ++ bs).headD 0).toNat = sync) (complete : (part ++ bs).length = len) :
    takeMessageBytes sync len part bs = ([], [part ++ bs]) := by
  have some : bs ≠ [] := by
    rintro rfl
    simp at complete
    omega
  obtain ⟨init, last, rfl⟩ : ∃ init last, bs = init ++ [last] := ⟨bs.dropLast, bs.getLast some, (List.dropLast_append_getLast some).symm⟩
  have initLength : (part ++ init).length + 1 = len := by simp at complete ⊢; omega
  have begun : part ++ init ≠ [] := by
    intro empty
    rw [empty] at initLength
    simp at initLength
    omega
  have sameHead : (part ++ init).headD 0 = (part ++ (init ++ [last])).headD 0 := by
    rw [← List.append_assoc]
    cases h : part ++ init with
    | nil => exact absurd h begun
    | cons b rest => rfl
  rw [takeMessageBytes_append, takeMessageBytes_short sync len init part begun (sameHead ▸ starts) (by omega)]
  simp [takeMessageBytes, takeMessageByte_last begun initLength]

theorem headD_of_head? {bs : List Byte} {b : Byte} (h : bs.head? = some b) : (bs.headD 0).toNat = b.toNat := by
  rw [List.headD_eq_head?_getD, h]
  rfl

theorem ne_nil_of_head? {bs : List Byte} {b : Byte} (h : bs.head? = some b) : bs ≠ [] := by
  rintro rfl
  cases h

/-! ### Satellite inputs (R28, R195) -/

@[simp] theorem Monitor.setInput_input (m : Monitor) (i : SatId) : m.setInput i (m.input i) = m := by cases i <;> rfl

@[simp] theorem Monitor.input_setInput (m : Monitor) (i : SatId) (v : SatInput) : (m.setInput i v).input i = v := by cases i <;> rfl

@[simp] theorem Monitor.setInput_setInput (m : Monitor) (i : SatId) (v w : SatInput) : (m.setInput i v).setInput i w = m.setInput i w := by
  cases i <;> rfl

@[simp] theorem Monitor.setLine_line (m : Monitor) (i : LineId) : m.setLine i (m.line i) = m := by cases i <;> rfl

@[simp] theorem Monitor.line_setLine (m : Monitor) (i : LineId) (v : LineInput) : (m.setLine i v).line i = v := by cases i <;> rfl

@[simp] theorem Monitor.setLine_setLine (m : Monitor) (i : LineId) (v w : LineInput) : (m.setLine i v).setLine i w = m.setLine i w := by
  cases i <;> rfl

theorem SatInput.takeMessage_sound {i : SatInput} {bs : List Byte} (sound : byteAt bs 1 = 12 ∧ byteSum bs = 0) :
    i.takeMessage bs = { i with waiting := some (satMessageOf bs) } :=
  if_pos (by simp [satMessageSound, checkHolds, sound])

theorem SatInput.takeMessage_unsound {i : SatInput} {bs : List Byte} (unsound : ¬ (byteAt bs 1 = 12 ∧ byteSum bs = 0)) :
    i.takeMessage bs = i :=
  if_neg (by simpa [satMessageSound, checkHolds] using unsound)

/-- A completed message changes the waiting message alone, whatever is in progress. -/
theorem SatInput.takeMessages_part (ms : List (List Byte)) (i : SatInput) (part : List Byte) :
    ms.foldl SatInput.takeMessage { i with part := part } = { ms.foldl SatInput.takeMessage i with part := part } := by
  induction ms generalizing i with
  | nil => rfl
  | cons bs ms ih =>
    rw [List.foldl_cons, List.foldl_cons, ← ih]
    by_cases sound : byteAt bs 1 = 12 ∧ byteSum bs = 0
    · rw [SatInput.takeMessage_sound sound, SatInput.takeMessage_sound sound]
    · rw [SatInput.takeMessage_unsound sound, SatInput.takeMessage_unsound sound]

/-- Bytes taken: what is in progress after them, and the messages that they complete. -/
theorem SatInput.takeBytes_eq {i : SatInput} {bytes part : List Byte} {done : List (List Byte)}
    (run : takeMessageBytes 0xA5 12 i.part bytes = (part, done)) :
    i.takeBytes bytes = { done.foldl SatInput.takeMessage i with part := part } := by
  unfold SatInput.takeBytes
  rw [run]
  exact SatInput.takeMessages_part _ _ _

/-- Runs of bytes compose. -/
theorem SatInput.takeBytes_append (i : SatInput) (as bs : List Byte) : i.takeBytes (as ++ bs) = (i.takeBytes as).takeBytes bs := by
  obtain ⟨part, done, first⟩ : ∃ part done, takeMessageBytes 0xA5 12 i.part as = (part, done) := ⟨_, _, rfl⟩
  obtain ⟨part', done', second⟩ : ∃ part' done', takeMessageBytes 0xA5 12 part bs = (part', done') := ⟨_, _, rfl⟩
  have both : takeMessageBytes 0xA5 12 i.part (as ++ bs) = (part', done ++ done') := by
    rw [takeMessageBytes_append, first, second]
  rw [SatInput.takeBytes_eq both, SatInput.takeBytes_eq first, SatInput.takeBytes_eq second, List.foldl_append]
  exact (congrArg (fun m : SatInput => { m with part := part' }) (SatInput.takeMessages_part done' _ part)).symm

theorem exec_satMessage (i : SatId) (bytes : List Byte) (s : State) :
    exec (.satMessage i bytes) s = .next { s with rm := s.rm.setInput i ((s.rm.input i).takeBytes bytes) } := rfl

/-- The messages of a satellite input. -/
theorem satMessage_outcome (i : SatId) (bytes : List Byte) (s : State) :
    let m := s.rm.input i
    let run := m.part ++ bytes
    let holding := fun v : SatInput => ({ s with rm := s.rm.setInput i v } : State)
    let sound := byteAt run 1 = 12 ∧ byteSum run = 0
    (m.part = [] → (∀ b ∈ bytes, b ≠ 0xA5) → exec (.satMessage i bytes) s = .next s)
    ∧ (run.head? = some 0xA5 → run.length < 12 → exec (.satMessage i bytes) s = .next (holding { m with part := run }))
    ∧ (run.head? = some 0xA5 → m.part.length < 12 → run.length = 12 → sound →
        exec (.satMessage i bytes) s = .next (holding { part := [], waiting := some (satMessageOf run) }))
    ∧ (run.head? = some 0xA5 → m.part.length < 12 → run.length = 12 → ¬ sound →
        exec (.satMessage i bytes) s = .next (holding { m with part := [] })) := by
  dsimp only
  rw [exec_satMessage]
  refine ⟨fun quiet stray => ?_, fun starts short => ?_, fun starts short complete sound => ?_, fun starts short complete unsound => ?_⟩
  · have ignored : takeMessageBytes 0xA5 12 (s.rm.input i).part bytes = ([], []) := by
      rw [quiet]
      exact takeMessageBytes_stray 0xA5 12 bytes fun b mb same => stray b mb (BitVec.eq_of_toNat_eq same)
    have same : ({ s.rm.input i with part := [] } : SatInput) = s.rm.input i := by rw [← quiet]
    rw [SatInput.takeBytes_eq ignored, List.foldl_nil, same, Monitor.setInput_input]
  · rw [SatInput.takeBytes_eq (takeMessageBytes_short 0xA5 12 bytes _ (ne_nil_of_head? starts) (headD_of_head? starts) short)]
    rfl
  · rw [SatInput.takeBytes_eq (takeMessageBytes_complete (by decide) short (headD_of_head? starts) complete), List.foldl_cons,
      SatInput.takeMessage_sound sound]
    rfl
  · rw [SatInput.takeBytes_eq (takeMessageBytes_complete (by decide) short (headD_of_head? starts) complete), List.foldl_cons,
      SatInput.takeMessage_unsound unsound]
    rfl

/-! ### Line inputs (R32, R196) -/

theorem Declared.atQuality_sound {d : Declared} {bs : List Byte} (sound : byteAt bs 1 < 16 ∧ byteSum bs = 0) :
    d.atQuality bs = { d with level := some (byteAt bs 1) } :=
  if_pos (by simp [lineMessageSound, checkHolds, sound])

theorem Declared.atQuality_unsound {d : Declared} {bs : List Byte} (unsound : ¬ (byteAt bs 1 < 16 ∧ byteSum bs = 0)) :
    d.atQuality bs = d :=
  if_neg (by simpa [lineMessageSound, checkHolds] using unsound)

/-- Bytes taken on a line: what is in progress after them, and the messages that they complete. -/
theorem exec_lineQualityMessage {i : LineId} {bytes part : List Byte} {done : List (List Byte)} {s : State}
    (run : takeMessageBytes 0x5A 3 (s.rm.line i).part bytes = (part, done)) :
    exec (.lineQualityMessage i bytes) s = .next
      (({ s with rm := s.rm.setLine i { s.rm.line i with part := part } } : State).updEntry i.ref
        (fun e => { e with declared := done.foldl (fun d bs => d.atQuality bs) e.declared })) := by
  show execLineQualityMessage i bytes s = _
  unfold execLineQualityMessage
  dsimp only
  rw [run]

/-- The messages of a line input. -/
theorem lineMessage_outcome (i : LineId) (bytes : List Byte) (s : State) :
    let m := s.rm.line i
    let run := m.part ++ bytes
    let holding := fun v : LineInput => ({ s with rm := s.rm.setLine i v } : State)
    let sound := byteAt run 1 < 16 ∧ byteSum run = 0
    (m.part = [] → (∀ b ∈ bytes, b ≠ 0x5A) → exec (.lineQualityMessage i bytes) s = .next s)
    ∧ (run.head? = some 0x5A → run.length < 3 →
        exec (.lineQualityMessage i bytes) s = .next (holding { m with part := run }))
    ∧ (run.head? = some 0x5A → m.part.length < 3 → run.length = 3 → sound →
        exec (.lineQualityMessage i bytes) s = .next ((holding { m with part := [] }).updEntry i.ref
          (fun e => { e with declared := { e.declared with level := some (byteAt run 1) } })))
    ∧ (run.head? = some 0x5A → m.part.length < 3 → run.length = 3 → ¬ sound →
        exec (.lineQualityMessage i bytes) s = .next (holding { m with part := [] })) := by
  dsimp only
  refine ⟨fun quiet stray => ?_, fun starts short => ?_, fun starts short complete sound => ?_, fun starts short complete unsound => ?_⟩
  · have ignored : takeMessageBytes 0x5A 3 (s.rm.line i).part bytes = ([], []) := by
      rw [quiet]
      exact takeMessageBytes_stray 0x5A 3 bytes fun b mb same => stray b mb (BitVec.eq_of_toNat_eq same)
    have same : ({ s.rm.line i with part := [] } : LineInput) = s.rm.line i := by rw [← quiet]
    rw [exec_lineQualityMessage ignored, same, Monitor.setLine_line, State.updEntry_id _ _ _ rfl]
  · rw [exec_lineQualityMessage (takeMessageBytes_short 0x5A 3 bytes _ (ne_nil_of_head? starts) (headD_of_head? starts) short),
      State.updEntry_id _ _ _ rfl]
  · rw [exec_lineQualityMessage (takeMessageBytes_complete (by decide) short (headD_of_head? starts) complete)]
    simp only [List.foldl_cons, List.foldl_nil, Declared.atQuality_sound sound]
  · rw [exec_lineQualityMessage (takeMessageBytes_complete (by decide) short (headD_of_head? starts) complete), State.updEntry_id]
    simp only [List.foldl_cons, List.foldl_nil, Declared.atQuality_unsound unsound]

/-- Runs of bytes on a line compose. -/
theorem lineMessage_append (i : LineId) (as bs : List Byte) (s : State) :
    exec (.lineQualityMessage i (as ++ bs)) s = exec (.lineQualityMessage i bs) (s.after (.lineQualityMessage i as)) := by
  obtain ⟨part, done, first⟩ : ∃ part done, takeMessageBytes 0x5A 3 (s.rm.line i).part as = (part, done) := ⟨_, _, rfl⟩
  obtain ⟨part', done', second⟩ : ∃ part' done', takeMessageBytes 0x5A 3 part bs = (part', done') := ⟨_, _, rfl⟩
  have both : takeMessageBytes 0x5A 3 (s.rm.line i).part (as ++ bs) = (part', done ++ done') := by
    rw [takeMessageBytes_append, first, second]
  have after := after_eq_of_exec (exec_lineQualityMessage first)
  have line : (s.after (.lineQualityMessage i as)).rm.line i = { s.rm.line i with part := part } := by
    rw [after]
    cases i <;> rfl
  have next : takeMessageBytes 0x5A 3 ((s.after (.lineQualityMessage i as)).rm.line i).part bs = (part', done') := by
    rw [line]
    exact second
  rw [exec_lineQualityMessage both, exec_lineQualityMessage next, line, after]
  simp only [List.foldl_append]
  cases i <;> rfl

/-- Settles O15. -/
theorem referenceMessages : Obligations.ReferenceMessages := by
  refine ⟨fun i bytes s => ?_, fun i bytes s => ?_, fun i s => ⟨fun m waits lapsed => ?_, fun fresh => ?_, rfl⟩, fun i s => rfl⟩
  · obtain ⟨stray, short, sound, unsound⟩ := satMessage_outcome i bytes s
    refine ⟨stray, short, sound, unsound, fun more t run => ?_⟩
    rw [← Host.Outcome.next.inj run, exec_satMessage, exec_satMessage, SatInput.takeBytes_append]
    simp
  · obtain ⟨stray, short, sound, unsound⟩ := lineMessage_outcome i bytes s
    refine ⟨stray, short, sound, unsound, fun more t run => ?_⟩
    rw [lineMessage_append, after_eq_of_exec run]
  · have gone : (s.rm.input i).pairable = none := by simp [SatInput.pairable, waits, SatMessage.lapsed, lapsed, Option.filter]
    show Host.Outcome.next _ = _
    rw [gone]
  · have stays : (s.rm.input i).pairable = (s.rm.input i).waiting := by
      cases waits : (s.rm.input i).waiting with
      | none => simp [SatInput.pairable, waits]
      | some m => simp [SatInput.pairable, waits, SatMessage.lapsed, fresh m waits, Option.filter]
    show Host.Outcome.next _ = _
    rw [stays]
    exact congrArg Host.Outcome.next (by rw [show ({ s.rm.input i with waiting := (s.rm.input i).waiting } : SatInput) = s.rm.input i from rfl, Monitor.setInput_input])

end Sys2Proof.Machine
end

section
/-! PROOF. Edges measured, absence, the PARENT input, and the reference requests. -/

namespace Sys2Proof.Machine

open Sys2Proof

/-! ### Where an edge lies (R30) -/

theorem placeEdge_recent {c : Clock} {edge : Instant} (here : -500000000000 < edge - c.boundaryAt ∧ edge - c.boundaryAt ≤ 500000000000) :
    placeEdge c edge = .recent := by
  show (if 500000000000 < edge - c.boundaryAt then EdgePlace.nextBoundary else if -500000000000 < edge - c.boundaryAt then .recent else .late) = _
  rw [if_neg (not_lt.mpr here.2), if_pos here.1]

theorem placeEdge_next {c : Clock} {edge : Instant} (there : 500000000000 < edge - c.boundaryAt) : placeEdge c edge = .nextBoundary :=
  if_pos there

theorem placeEdge_late {c : Clock} {edge : Instant} (before : edge - c.boundaryAt ≤ -500000000000) : placeEdge c edge = .late := by
  show (if 500000000000 < edge - c.boundaryAt then EdgePlace.nextBoundary else if -500000000000 < edge - c.boundaryAt then .recent else .late) = _
  rw [if_neg (not_lt.mpr (before.trans (by decide))), if_neg (not_lt.mpr before)]

theorem RefEntry.hadEdge_iff {b : Nat} {e : RefEntry} : e.hadEdge b = true ↔ b ∈ e.edges := by simp [RefEntry.hadEdge]

/-! ### An edge measured (R29 to R31) -/

section MeasureEdge

variable {s : State} {r : RefId} {edge : Instant}

theorem State.measureEdge_late (before : edge - s.clock.boundaryAt ≤ -500000000000) (info : EdgeInfo) : s.measureEdge r edge info = s := by
  simp only [State.measureEdge, placeEdge_late before]

theorem State.measureEdge_second
    (second : (-500000000000 < edge - s.clock.boundaryAt ∧ edge - s.clock.boundaryAt ≤ 500000000000)
        ∧ s.clock.boundaries ∈ (s.entry r).edges
      ∨ 500000000000 < edge - s.clock.boundaryAt ∧ s.clock.boundaries + 1 ∈ (s.entry r).edges) (info : EdgeInfo) :
    s.measureEdge r edge info = s := by
  rcases second with ⟨here, had⟩ | ⟨there, had⟩
  · simp only [State.measureEdge, placeEdge_recent here, RefEntry.hadEdge_iff.mpr had, if_true]
  · simp only [State.measureEdge, placeEdge_next there, RefEntry.hadEdge_iff.mpr had, if_true]

theorem State.measureEdge_recent (here : -500000000000 < edge - s.clock.boundaryAt ∧ edge - s.clock.boundaryAt ≤ 500000000000)
    (new : s.clock.boundaries ∉ (s.entry r).edges) (info : EdgeInfo) :
    s.measureEdge r edge info = (s.updEntry r (fun e => { e with
      edges := s.clock.boundaries :: (s.entry r).edges.filter (fun k => decide (s.clock.boundaries ≤ k)) })).formSample r
        (Int.tdiv (edge - s.clock.boundaryAt) 1000) info := by
  have noted : s.updEntry r (RefEntry.noteEdge s.clock.boundaries s.clock.boundaries) = s.updEntry r (fun e => { e with
      edges := s.clock.boundaries :: (s.entry r).edges.filter (fun k => decide (s.clock.boundaries ≤ k)) }) :=
    State.updEntry_congr _ _ _ _ rfl
  simp only [State.measureEdge, placeEdge_recent here]
  rw [if_neg (mt RefEntry.hadEdge_iff.mp new), noted]
  rfl

theorem State.measureEdge_next (there : 500000000000 < edge - s.clock.boundaryAt)
    (new : s.clock.boundaries + 1 ∉ (s.entry r).edges) (info : EdgeInfo) :
    s.measureEdge r edge info = s.updEntry r (fun e => { e with
      edges := (s.clock.boundaries + 1) :: (s.entry r).edges.filter (fun k => decide (s.clock.boundaries ≤ k)),
      waiting := some { instant := edge, boundary := s.clock.boundaries + 1, info := info } }) := by
  simp only [State.measureEdge, placeEdge_next there]
  rw [if_neg (mt RefEntry.hadEdge_iff.mp new)]
  exact State.updEntry_congr _ _ _ _ rfl

/-- A second edge of its boundary (R29). -/
theorem State.secondEdge_iff :
    s.secondEdge r edge = true ↔ (-500000000000 < edge - s.clock.boundaryAt ∧ edge - s.clock.boundaryAt ≤ 500000000000)
        ∧ s.clock.boundaries ∈ (s.entry r).edges
      ∨ 500000000000 < edge - s.clock.boundaryAt ∧ s.clock.boundaries + 1 ∈ (s.entry r).edges := by
  unfold State.secondEdge
  rcases le_or_gt (edge - s.clock.boundaryAt) (-500000000000) with before | after
  · rw [placeEdge_late before]
    refine ⟨fun is => (nomatch is), ?_⟩
    rintro (⟨⟨after, -⟩, -⟩ | ⟨there, -⟩)
    · exact absurd after (not_lt.mpr before)
    · exact absurd there (not_lt.mpr (before.trans (by decide)))
  · rcases le_or_gt (edge - s.clock.boundaryAt) 500000000000 with here | there
    · rw [placeEdge_recent ⟨after, here⟩]
      refine RefEntry.hadEdge_iff.trans ⟨fun had => Or.inl ⟨⟨after, here⟩, had⟩, ?_⟩
      rintro (⟨-, had⟩ | ⟨beyond, -⟩)
      · exact had
      · exact absurd beyond (not_lt.mpr here)
    · rw [placeEdge_next there]
      refine RefEntry.hadEdge_iff.trans ⟨fun had => Or.inr ⟨there, had⟩, ?_⟩
      rintro (⟨⟨-, short⟩, -⟩ | ⟨-, had⟩)
      · exact absurd there (not_lt.mpr short)
      · exact had

end MeasureEdge

/-! ### Pulses, deferred edges and line clock edges -/

theorem SatInput.pairable_eq (i : SatInput) : i.pairable = i.waiting.filter (fun w => decide (w.boundaries < 2)) := by
  have same : (fun m : SatMessage => !m.lapsed) = fun w => decide (w.boundaries < 2) := by
    funext m
    rw [SatMessage.lapsed, ← decide_not]
    exact decide_eq_decide.mpr not_le
  rw [SatInput.pairable, same]

/-- The state in which a pulse that counts is measured: its message paired, and the declared fields after it (R29). -/
def State.paired (s : State) (i : SatId) : State :=
  ({ s with rm := s.rm.setInput i { s.rm.input i with waiting := none } } : State).updEntry i.ref
    (fun e => { e with declared := e.declared.atPulse (s.rm.input i).pairable })

theorem State.paired_edges (s : State) (i : SatId) : ((s.paired i).entry i.ref).edges = (s.entry i.ref).edges := by
  cases i <;> rfl

theorem exec_ppsEdge_second {i : SatId} {edge : Instant} {s : State} (second : (s.advance edge).secondEdge i.ref edge = true) :
    exec (.ppsEdge i edge) s = .next (s.advance edge) :=
  congrArg Host.Outcome.next (if_pos second)

theorem exec_ppsEdge_first {i : SatId} {edge : Instant} {s : State} (first : ¬ (s.advance edge).secondEdge i.ref edge = true) :
    exec (.ppsEdge i edge) s = .next (((s.advance edge).paired i).measureEdge i.ref edge (edgeInfoOf (s.rm.input i).pairable)) :=
  congrArg Host.Outcome.next (if_neg first)

/-- A pulse of a satellite input (R29, R30). -/
theorem ppsEdge_outcome (i : SatId) (edge : Instant) (s : State) :
    let t := s.advance edge
    let off := edge - s.clock.boundaryAt
    let b := s.clock.boundaries
    let u := t.paired i
    let info := edgeInfoOf (s.rm.input i).pairable
    let here := -500000000000 < off ∧ off ≤ 500000000000
    let there := 500000000000 < off
    let had := (s.entry i.ref).edges
    let kept := had.filter (fun k => decide (b ≤ k))
    ((here ∧ b ∈ had) ∨ (there ∧ b + 1 ∈ had) → exec (.ppsEdge i edge) s = .next t)
    ∧ (here → b ∉ had → exec (.ppsEdge i edge) s
        = .next ((u.updEntry i.ref (fun e => { e with edges := b :: kept })).formSample i.ref (Int.tdiv off 1000) info))
    ∧ (there → b + 1 ∉ had → exec (.ppsEdge i edge) s
        = .next (u.updEntry i.ref (fun e => { e with
            edges := (b + 1) :: kept, waiting := some { instant := edge, boundary := b + 1, info := info } })))
    ∧ (off ≤ -500000000000 → exec (.ppsEdge i edge) s = .next u) := by
  have second := State.secondEdge_iff (s := s.advance edge) (r := i.ref) (edge := edge)
  have edges : (((s.advance edge).paired i).entry i.ref).edges = (s.entry i.ref).edges := State.paired_edges (s.advance edge) i
  have boundaryAt : ((s.advance edge).paired i).clock.boundaryAt = s.clock.boundaryAt := Clock.advance_boundaryAt _ _ _
  have boundaries : ((s.advance edge).paired i).clock.boundaries = s.clock.boundaries := Clock.advance_boundaries _ _ _
  have recent := State.measureEdge_recent (s := (s.advance edge).paired i) (r := i.ref) (edge := edge)
  have next := State.measureEdge_next (s := (s.advance edge).paired i) (r := i.ref) (edge := edge)
  have late := State.measureEdge_late (s := (s.advance edge).paired i) (r := i.ref) (edge := edge)
  rw [show (s.advance edge).clock.boundaryAt = s.clock.boundaryAt from boundaryAt,
    show (s.advance edge).clock.boundaries = s.clock.boundaries from boundaries, State.advance_entry] at second
  rw [boundaryAt] at recent next late
  rw [boundaries, edges] at recent next
  refine ⟨fun had => exec_ppsEdge_second (second.mpr had), fun here new => ?_, fun there new => ?_, fun before => ?_⟩
  · rw [exec_ppsEdge_first fun is => ?_, recent here new]
    rcases second.mp is with ⟨-, had⟩ | ⟨there, -⟩
    · exact new had
    · exact absurd there (not_lt.mpr here.2)
  · rw [exec_ppsEdge_first fun is => ?_, next there new]
    rcases second.mp is with ⟨⟨-, short⟩, -⟩ | ⟨-, had⟩
    · exact absurd there (not_lt.mpr short)
    · exact new had
  · rw [exec_ppsEdge_first fun is => ?_, late before]
    rcases second.mp is with ⟨⟨after, -⟩, -⟩ | ⟨there, -⟩
    · exact absurd after (not_lt.mpr before)
    · exact absurd there (not_lt.mpr (before.trans (by decide)))

/-- Settles O16. -/
theorem edgeOutcomes : Obligations.EdgeOutcomes := by
  refine ⟨fun s u => ?_, fun i edge s => ?_, fun r s => ⟨fun none => ?_, fun w waits => ⟨fun ahead => ?_, fun now => ?_, fun gone => ?_⟩⟩,
    fun i edge s => ⟨fun waits => ?_, fun idle => ?_⟩⟩
  · rfl
  · have pulse := ppsEdge_outcome i edge s
    dsimp only [State.paired] at pulse
    rw [show ((s.advance edge).rm.input i).pairable = (s.rm.input i).pairable from rfl, SatInput.pairable_eq] at pulse
    exact pulse
  · show execDeferredEdgeSample r s = _
    simp only [execDeferredEdgeSample, none]
  · show execDeferredEdgeSample r s = _
    simp only [execDeferredEdgeSample, waits, if_pos ahead]
  · show execDeferredEdgeSample r s = _
    simp only [execDeferredEdgeSample, waits]
    rw [if_neg (by omega), if_pos now]
    rfl
  · show execDeferredEdgeSample r s = _
    simp only [execDeferredEdgeSample, waits]
    rw [if_neg (by omega), if_neg (by omega)]
  · refine congrArg Host.Outcome.next ((if_pos ?_).trans ?_)
    · rw [Bool.and_eq_true, decide_eq_true_iff]
      exact ⟨waits.1, (Clock.advance_boundaryAt _ _ _).symm ▸ waits.2⟩
    · rw [show (s.advance edge).clock.boundaryAt = s.clock.boundaryAt from Clock.advance_boundaryAt _ _ _]
      rfl
  · refine congrArg Host.Outcome.next (if_neg ?_)
    rw [Bool.and_eq_true, decide_eq_true_iff]
    exact fun is => idle ⟨is.1, Clock.advance_boundaryAt s.clock s.tb.f edge ▸ is.2⟩

/-! ### Absence and the PARENT input (R52, R56, R57) -/

theorem exec_referenceAbsent (r : RefId) (s : State) :
    exec (.referenceAbsent r) s = .next (if (s.entry r).state ≠ .absent ∧ 3 ≤ (s.entry r).missRun then
      s.changeEntry r (RefEntry.enterAbsent r) else s) := rfl

/-- The frame at the head of what is handed over to the RM is measured while the parent is present (R31, R57). -/
theorem exec_parentFrameMeasure {l : LinkId} {s : State} {instant : Instant} {f : TimeFrame} {rest : List ParentEvent}
    (queue : (s.link l).toRm = .frame instant f :: rest) :
    exec (.parentFrameMeasure l) s = .next (if s.rm.parentPresent then
        (s.updLink l (fun k => { k with toRm := rest })).measureFrame instant f
      else s.updLink l (fun k => { k with toRm := rest })) := by
  show execParentFrameMeasure l s = _
  simp only [execParentFrameMeasure, queue]
  rfl

/-- A report of the parent lost, with nothing but frames before it. -/
theorem exec_parentLostReport {l : LinkId} {s : State} {before after : List ParentEvent} (frames : ∀ x ∈ before, ∃ t f, x = .frame t f)
    (queue : (s.link l).toRm = before ++ .lost :: after) :
    exec (.parentLostReport l) s = .next (s.updLink l (fun k => { k with toRm := before ++ after })).loseParent := by
  show execParentLostReport l s = _
  simp only [execParentLostReport, queue, takeLost_frames before after frames]

theorem takeLost_none {xs : List ParentEvent} (other : ∀ before after, (∀ x ∈ before, ∃ t f, x = .frame t f) → xs ≠ before ++ .lost :: after) :
    takeLost xs = none := by
  cases found : takeLost xs with
  | none => rfl
  | some rest =>
    obtain ⟨before, after, frames, same⟩ := takeLost_some xs rest found
    exact absurd same (other before after frames)

/-- What the RM declares of a TIME frame, before it measures its edge. -/
def State.declareFrame (s : State) (f : TimeFrame) : State := s.updEntry .parent (RefEntry.declareParent f)

theorem State.measureFrame_eq (s : State) (instant : Instant) (f : TimeFrame) :
    s.measureFrame instant f = if f.index = 0 then
        (s.declareFrame f).measureEdge .parent (instant - f.offset * 1000) (TimeFrame.edgeInfo f)
      else s.declareFrame f := rfl

/-- Settles O22. -/
theorem absenceAndParent : Obligations.AbsenceAndParent := by
  refine ⟨fun r s => ?_, fun r e => rfl, fun l s => ⟨fun rest queue => ?_, fun other => ?_, fun before after frames queue => ⟨fun absent => ?_, fun present => ?_⟩,
    fun other => ?_, fun instant f rest queue => ?_, fun other => ?_⟩⟩
  · rw [exec_referenceAbsent]
    exact ⟨fun missed => by rw [if_pos missed], fun stays => by rw [if_neg stays]⟩
  · show execParentEnrolledReport l s = _
    simp only [execParentEnrolledReport, queue]
    rfl
  · show execParentEnrolledReport l s = _
    unfold execParentEnrolledReport
    split
    · rename_i rest queue; exact absurd queue (other rest)
    all_goals rfl
  · rw [exec_parentLostReport frames queue]
    refine congrArg Host.Outcome.next (if_pos ?_)
    rw [State.updEntry_entry_same]
    exact absent
  · rw [exec_parentLostReport frames queue]
    refine congrArg Host.Outcome.next (if_neg ?_)
    rw [State.updEntry_entry_same]
    exact present
  · show execParentLostReport l s = _
    simp only [execParentLostReport, takeLost_none other]
  · rw [exec_parentFrameMeasure queue, State.measureFrame_eq]
    have edges : (((s.updLink l (fun k => { k with toRm := rest })).declareFrame f).entry .parent).edges = (s.entry .parent).edges := by
      rw [State.declareFrame, State.updEntry_entry_same]
      rfl
    have recent := State.measureEdge_recent (s := (s.updLink l (fun k => { k with toRm := rest })).declareFrame f) (r := .parent)
      (edge := instant - f.offset * 1000)
    have next := State.measureEdge_next (s := (s.updLink l (fun k => { k with toRm := rest })).declareFrame f) (r := .parent)
      (edge := instant - f.offset * 1000)
    have second := State.measureEdge_second (s := (s.updLink l (fun k => { k with toRm := rest })).declareFrame f) (r := .parent)
      (edge := instant - f.offset * 1000)
    have late := State.measureEdge_late (s := (s.updLink l (fun k => { k with toRm := rest })).declareFrame f) (r := .parent)
      (edge := instant - f.offset * 1000)
    rw [edges] at recent next second
    refine ⟨fun gone => ?_, fun present index => ?_, fun present index => ⟨fun none => ?_, fun here new => ?_, fun there new => ?_⟩⟩
    · rw [if_neg (by rw [gone]; decide)]
    · rw [if_pos present, if_neg index]; rfl
    · rw [if_pos present, if_pos index]
      rcases none with isLate | had
      · rw [late isLate]; rfl
      · rw [second had]; rfl
    · rw [if_pos present, if_pos index, recent here new]; rfl
    · rw [if_pos present, if_pos index, next there new]; rfl
  · show execParentFrameMeasure l s = _
    unfold execParentFrameMeasure
    split
    · rename_i instant f rest queue; exact absurd queue (other instant f rest)
    all_goals rfl

/-! ### Reference requests (R45 to R47, R186) -/

theorem exec_refLookup_none {tag index page : Nat} {s : State} (idle : s.port.state = .idle) (beyond : 5 ≤ index) :
    exec (.refLookup tag index page) s = .next (s.respond tag .noRecord []) := by
  show Host.Outcome.next (request tag _ s) = _
  rw [request_idle idle, RefId.ofIndex_none beyond]

theorem exec_refLookup_page {tag page : Nat} {r : RefId} {s : State} (idle : s.port.state = .idle) :
    exec (.refLookup tag r.index page) s = .next
      ((lookupPage r page s).1.respond tag (lookupPage r page s).2.1 (lookupPage r page s).2.2) := by
  show Host.Outcome.next (request tag _ s) = _
  rw [request_idle idle, RefId.ofIndex_index]

theorem lookupPage_beyond {r : RefId} {page : Nat} (beyond : 3 ≤ page) (s : State) : lookupPage r page s = (s, .range, []) := by
  unfold lookupPage
  split
  · omega
  · omega
  · omega
  · rfl

/-- A setting by the kinds that have it, as page 1 shows it (R45). -/
theorem applies_eq (r : RefId) (v : Nat) :
    applies (hasAcceptLevel r) v = (if r = .satA ∨ r = .satB then none else some v)
    ∧ applies (r == .parent) v = (if r = .parent then some v else none)
    ∧ applies r.isSat v = (if r = .satA ∨ r = .satB then some v else none) := by
  cases r <;> exact ⟨rfl, rfl, rfl⟩

theorem exec_refSet_none {tag index : Nat} {p : RefSetBody} {s : State} (idle : s.port.state = .idle) (beyond : 5 ≤ index) :
    exec (.refSet tag index p) s = .next (s.respond tag .noRecord []) := by
  show Host.Outcome.next (request tag _ s) = _
  rw [request_idle idle, RefId.ofIndex_none beyond]

theorem exec_refSet_entry {tag : Nat} {r : RefId} {p : RefSetBody} {s : State} (idle : s.port.state = .idle) :
    exec (.refSet tag r.index p) s = .next
      ((setReference r p s).1.respond tag (setReference r p s).2.1 (setReference r p s).2.2) := by
  show Host.Outcome.next (request tag _ s) = _
  rw [request_idle idle, RefId.ofIndex_index]

theorem thresholdsFit_iff (p : RefThresholdReq) (ts : List Nat) :
    ((thresholdValues p).all (optIn 1 4294967295) && descending (withThresholds p ts)) = true
      ↔ (∀ v, some v ∈ thresholdValues p → 1 ≤ v ∧ v ≤ 4294967295) ∧ (withThresholds p ts).Pairwise (fun a b => b < a) := by
  rw [Bool.and_eq_true, descending_iff, List.all_eq_true]
  refine and_congr_left fun _ => ⟨fun all v m => (optIn_iff _ _ _).mp (all _ m) v rfl, fun all o m => (optIn_iff _ _ _).mpr fun v is => ?_⟩
  exact all v (is ▸ m)

theorem refGeneralInRange_iff (g : RefGeneralReq) :
    refGeneralInRange g = true ↔ (∀ v, g.wtr = some v → v ≤ 1023) ∧ (∀ v, g.priority = some v → 1 ≤ v ∧ v ≤ 15)
      ∧ (∀ v, g.hysteresis = some v → v ≤ 4) ∧ (∀ v, g.window = some v → v = 8 ∨ v = 16 ∨ v = 32 ∨ v = 64)
      ∧ (∀ v, g.floor = some v → v ≤ 7) ∧ (∀ v, g.qualifyPeriod = some v → 4 ≤ v ∧ v ≤ 255)
      ∧ (∀ v, g.gateWidth = some v → 100 ≤ v ∧ v ≤ 100000) ∧ (∀ v, g.acceptLevel = some v → v ≤ 14)
      ∧ (∀ v, g.maxDepth = some v → 1 ≤ v ∧ v ≤ 14) ∧ (∀ v, g.baseUncertainty = some v → 10 ≤ v ∧ v ≤ 10000)
      ∧ (∀ v, g.allowance = some v → v ≤ 10000) := by
  unfold refGeneralInRange
  simp only [Bool.and_eq_true, optIn_iff, and_assoc, Nat.zero_le, true_and]
  refine and_congr_right fun _ => and_congr_right fun _ => and_congr_right fun _ => and_congr_left fun _ => ?_
  cases g.window <;> simp

theorem refGeneralApplies_iff (r : RefId) (g : RefGeneralReq) :
    refGeneralApplies r g = true ↔ (g.acceptLevel.isSome = true → r ≠ .satA ∧ r ≠ .satB) ∧ (g.maxDepth.isSome = true → r = .parent)
      ∧ (g.baseUncertainty.isSome = true → r = .satA ∨ r = .satB) ∧ (g.allowance.isSome = true → r = .parent) := by
  unfold refGeneralApplies
  cases r <;> cases g.acceptLevel <;> cases g.maxDepth <;> cases g.baseUncertainty <;> cases g.allowance <;>
    simp [hasAcceptLevel, RefId.isSat]

theorem concernsSelector_iff (g : RefGeneralReq) :
    concernsSelector g = true ↔ g.enabled.isSome = true ∨ g.priority.isSome = true ∨ g.wtr.isSome = true ∨ g.revertive.isSome = true := by
  simp [concernsSelector, or_assoc]

/-- The checks of form 0, and the acts it does (R46, R47, R66). -/
theorem setReference_general {r : RefId} {g : RefGeneralReq} {s : State} :
    (¬ (refGeneralInRange g = true ∧ refGeneralApplies r g = true ∧ (s.entry r).settings.thresholds.Pairwise (fun a b => b < a)) →
      setReference r (.general g) s = (s, .range, []))
    ∧ (refGeneralInRange g = true ∧ refGeneralApplies r g = true ∧ (s.entry r).settings.thresholds.Pairwise (fun a b => b < a) →
      setReference r (.general g) s = (s.setGeneral r g, .ok, [])) := by
  have fit : (refGeneralInRange g && refGeneralApplies r g && descending (s.entry r).settings.thresholds) = true
      ↔ refGeneralInRange g = true ∧ refGeneralApplies r g = true ∧ (s.entry r).settings.thresholds.Pairwise (fun a b => b < a) := by
    rw [Bool.and_eq_true, Bool.and_eq_true, descending_iff, and_assoc]
  exact ⟨fun bad => if_neg (mt fit.mp bad), fun good => if_pos (fit.mpr good)⟩

/-- Settles O23. -/
theorem referenceRequests : Obligations.ReferenceRequests := by
  refine ⟨fun tag index page s idle => ⟨exec_refLookup_none idle, ?_⟩,
    fun tag index s idle => ⟨fun body => exec_refSet_none idle, ?_⟩⟩
  · rintro r rfl
    refine ⟨fun beyond => ?_, ?_, ?_, ?_⟩
    · rw [exec_refLookup_page idle, lookupPage_beyond beyond]
    · rintro rfl
      rw [exec_refLookup_page idle]
      cases r <;> rfl
    · rintro rfl
      rw [exec_refLookup_page idle, ← (applies_eq r _).1, ← (applies_eq r _).2.1, ← (applies_eq r _).2.2, ← (applies_eq r _).2.1]
      rfl
    · rintro rfl
      rw [exec_refLookup_page idle]
      rfl
  · rintro r rfl
    refine ⟨fun form => ?_, fun p => ⟨fun bad => ?_, fun good => ?_⟩, fun g => ?_⟩
    · rw [exec_refSet_entry idle]
      rfl
    · rw [exec_refSet_entry idle]
      have refused : setReference r (.thresholds p) s = (s, .range, []) := if_neg (mt (thresholdsFit_iff p _).mp bad)
      rw [refused]
    · rw [exec_refSet_entry idle]
      have taken : setReference r (.thresholds p) s = (s.updEntry r (RefEntry.setThresholds p), .ok, []) :=
        if_pos ((thresholdsFit_iff p _).mpr good)
      rw [taken]
      exact congrArg (fun t : State => Host.Outcome.next (t.respond tag .ok [])) (State.updEntry_congr s r _ _ rfl)
    · obtain ⟨refuses, takes⟩ := setReference_general (r := r) (g := g) (s := s)
      rw [refGeneralInRange_iff, refGeneralApplies_iff] at refuses takes
      simp only [and_assoc] at refuses takes
      refine ⟨fun bad => ?_, fun good apart => ?_, fun good concerns => ?_⟩
      · rw [exec_refSet_entry idle, refuses bad]
      · rw [exec_refSet_entry idle, takes good, State.setGeneral, if_neg (mt (concernsSelector_iff g).mp apart)]
        rfl
      · rw [exec_refSet_entry idle, takes good, State.setGeneral, if_pos ((concernsSelector_iff g).mpr concerns)]
        rfl

end Sys2Proof.Machine
end

section
/-! PROOF. What becomes of a sample. -/

namespace Sys2Proof.Machine

open Sys2Proof

/-! ### Differences (R38) -/

theorem wrapLine_range (x : Int) : ∃ k : Int, wrapLine x = x + 15625 * k ∧ -7812 ≤ wrapLine x ∧ wrapLine x ≤ 7812 := by
  have wrap : wrapLine x = (x + 7812) % 15625 - 7812 := rfl
  exact ⟨-((x + 7812) / 15625), by omega, by omega, by omega⟩

theorem difference_cases (r : RefId) (sample base steps : Int) :
    (r.isPhase = true → difference r sample base steps = sample - base + steps)
    ∧ (r.isPhase = false → ∃ w k : Int, w = 32 * (sample - base + steps) + 15625 * k ∧ -7812 ≤ w ∧ w ≤ 7812
        ∧ difference r sample base steps = Int.tdiv w 32) := by
  refine ⟨fun phase => if_pos phase, fun line => ?_⟩
  obtain ⟨k, is, low, high⟩ := wrapLine_range (32 * (sample - base + steps))
  exact ⟨_, k, is, low, high, if_neg (by rw [line]; decide)⟩

/-! ### The stages of a sample's disposal (R36, R37, R44) -/

/-- The entry once the sample has been counted by the gate. -/
def RefEntry.gatedBy (m : Formed) (e : RefEntry) : RefEntry := (e.appear m.ahead).countOutlier m.outlier

/-- The entry once the sample has been taken for window, base and timebase. -/
def RefEntry.takenBy (r : RefId) (m : Formed) (e : RefEntry) : RefEntry :=
  let based := if m.outlier then e.gatedBy m else (e.gatedBy m).rebase r m
  if m.outlier || m.verdict != .acceptable then based else based.accept r m (e.offered r m)

/-- The sample is the third outlier in a row. -/
def RefEntry.thirdOutlier (m : Formed) (e : RefEntry) : Bool := m.outlier && (e.gatedBy m).outlierRun == Config.runEnd

theorem RefEntry.dispose_eq (r : RefId) (m : Formed) (e : RefEntry) :
    e.dispose r m = ((e.takenBy r m).note m).sampleReport m.verdict (e.thirdOutlier m) := rfl

theorem RefEntry.gatedBy_eq (m : Formed) (e : RefEntry) :
    e.gatedBy m = { e with
      missRun := if e.state = .absent then 0 else e.missRun,
      windowEpochs := if e.state = .absent then some 0 else e.windowEpochs,
      windowAhead := if e.state = .absent then m.ahead else e.windowAhead,
      outlierRun := if m.outlier then min (e.outlierRun + 1) 3 else 0 } := by
  unfold RefEntry.gatedBy RefEntry.appear RefEntry.countOutlier
  by_cases absent : e.state = .absent
  · simp only [absent, if_true]; rfl
  · simp only [absent, if_false]; rfl

theorem RefEntry.addSquare_eq (ahead : Bool) (sq : Nat) (e : RefEntry) :
    e.addSquare ahead sq = { e with
      windowSum := (e.addSquare ahead sq).windowSum, windowCount := (e.addSquare ahead sq).windowCount,
      aheadSum := (e.addSquare ahead sq).aheadSum, aheadCount := (e.addSquare ahead sq).aheadCount } := by
  unfold RefEntry.addSquare
  (repeat' split) <;> rfl

theorem RefEntry.rebase_eq (r : RefId) (m : Formed) (e : RefEntry) :
    e.rebase r m = { e with
      base := some { value := m.value, boundary := m.boundary }, stepsSince := 0, windowSum := (e.rebase r m).windowSum,
      windowCount := (e.rebase r m).windowCount, aheadSum := (e.rebase r m).aheadSum, aheadCount := (e.rebase r m).aheadCount } := by
  unfold RefEntry.rebase
  dsimp only
  split
  · rw [RefEntry.addSquare_eq]
  · rfl

/-- What a report changes of an entry: its state, cause and counter, and the outlier run. -/
theorem RefEntry.sampleReport_eq (v : Verdict) (third : Bool) (e : RefEntry) :
    e.sampleReport v third = { e with
      state := (e.sampleReport v third).state, cause := (e.sampleReport v third).cause,
      qualify := (e.sampleReport v third).qualify, outlierRun := (e.sampleReport v third).outlierRun } := by
  unfold RefEntry.sampleReport RefEntry.disqualify RefEntry.qualifying
  by_cases absent : e.state = .absent <;> cases v <;> cases third <;> simp [absent, Verdict.cause]

theorem RefEntry.note_eq (m : Formed) (e : RefEntry) :
    e.note m = { e with
      nextEpoch := if m.ahead then some { verdict := m.verdict, outlier := m.outlier } else e.nextEpoch,
      thisEpoch := if m.ahead then e.thisEpoch else some { verdict := m.verdict, outlier := m.outlier } } := by
  unfold RefEntry.note
  cases m.ahead <;> rfl

/-! ### What the report makes of the state (R48 to R50) -/

theorem RefEntry.sampleReport_acceptable {third : Bool} {e : RefEntry} (last : third = false) :
    e.sampleReport .acceptable third = if e.state = .absent then e.qualifying else e := by
  rw [last]; rfl

theorem RefEntry.sampleReport_failed {v : Verdict} {c : Cause} {third : Bool} (failed : v.cause = some c) (last : third = false)
    (e : RefEntry) : e.sampleReport v third = (if e.state = .absent then e.qualifying else e).disqualify c := by
  rw [last]
  unfold RefEntry.sampleReport
  rw [failed]
  rfl

/-- The third outlier: DISQUALIFIED, with the run at 0 on entry and kept in an entry already there. -/
theorem RefEntry.sampleReport_third {v : Verdict} {e : RefEntry} (present : e.state ≠ .absent) :
    (e.sampleReport v true).state = .disqualified ∧ (e.sampleReport v true).cause = some .outlier
      ∧ (e.sampleReport v true).qualify = e.qualify
      ∧ (e.sampleReport v true).outlierRun = if e.state = .disqualified then e.outlierRun else 0 := by
  unfold RefEntry.sampleReport
  rw [if_neg present]
  cases v <;> exact ⟨rfl, rfl, rfl, rfl⟩

/-! ### The disposal, field by field -/

section Dispose

variable {r : RefId} {m : Formed} {e : RefEntry}

theorem RefEntry.takenBy_outlier (outlier : m.outlier = true) : e.takenBy r m = e.gatedBy m := by
  simp [RefEntry.takenBy, outlier]

theorem RefEntry.takenBy_refused (inside : m.outlier = false) (refused : m.verdict ≠ .acceptable) :
    e.takenBy r m = (e.gatedBy m).rebase r m := by
  simp [RefEntry.takenBy, inside, refused]

theorem RefEntry.takenBy_accepted (inside : m.outlier = false) (accepted : m.verdict = .acceptable) :
    e.takenBy r m = ((e.gatedBy m).rebase r m).accept r m (e.offered r m) := by
  simp [RefEntry.takenBy, inside, accepted]

/-- The fields that taking a sample can change. -/
theorem RefEntry.takenBy_eq : e.takenBy r m = { e.gatedBy m with
    base := (e.takenBy r m).base, stepsSince := (e.takenBy r m).stepsSince, windowSum := (e.takenBy r m).windowSum,
    windowCount := (e.takenBy r m).windowCount, aheadSum := (e.takenBy r m).aheadSum, aheadCount := (e.takenBy r m).aheadCount,
    lastSample := (e.takenBy r m).lastSample, lastDeclared := (e.takenBy r m).lastDeclared, lastAge := (e.takenBy r m).lastAge,
    ageRuns := (e.takenBy r m).ageRuns, offer := (e.takenBy r m).offer } := by
  cases inside : m.outlier with
  | true => rw [RefEntry.takenBy_outlier inside]
  | false =>
    by_cases accepted : m.verdict = .acceptable
    · rw [RefEntry.takenBy_accepted inside accepted, RefEntry.rebase_eq]; rfl
    · rw [RefEntry.takenBy_refused inside accepted, RefEntry.rebase_eq]

/-- What of the disposed entry stands as it was taken: all but what the report changes, and the note. -/
theorem RefEntry.dispose_taken : e.dispose r m = { e.takenBy r m with
    state := (e.dispose r m).state, cause := (e.dispose r m).cause, qualify := (e.dispose r m).qualify,
    outlierRun := (e.dispose r m).outlierRun,
    nextEpoch := if m.ahead then some { verdict := m.verdict, outlier := m.outlier } else e.nextEpoch,
    thisEpoch := if m.ahead then e.thisEpoch else some { verdict := m.verdict, outlier := m.outlier } } := by
  have next : (e.takenBy r m).nextEpoch = e.nextEpoch := by rw [RefEntry.takenBy_eq, RefEntry.gatedBy_eq]
  have this : (e.takenBy r m).thisEpoch = e.thisEpoch := by rw [RefEntry.takenBy_eq, RefEntry.gatedBy_eq]
  rw [RefEntry.dispose_eq, RefEntry.sampleReport_eq, RefEntry.note_eq, next, this]

/-- The sample is noted for the epoch that its measuring boundary begins (R39, log 30). -/
theorem RefEntry.dispose_noted :
    (m.ahead = true → (e.dispose r m).nextEpoch = some { verdict := m.verdict, outlier := m.outlier } ∧ (e.dispose r m).thisEpoch = e.thisEpoch)
    ∧ (m.ahead = false → (e.dispose r m).thisEpoch = some { verdict := m.verdict, outlier := m.outlier } ∧ (e.dispose r m).nextEpoch = e.nextEpoch) := by
  rw [RefEntry.dispose_taken]
  refine ⟨fun ahead => ?_, fun ahead => ?_⟩ <;> rw [ahead] <;> exact ⟨rfl, rfl⟩

/-- What a sample never changes. -/
theorem RefEntry.dispose_kept : (e.dispose r m).settings = e.settings ∧ (e.dispose r m).declared = e.declared ∧ (e.dispose r m).wf = e.wf
    ∧ (e.dispose r m).q = e.q ∧ (e.dispose r m).worstQ = e.worstQ ∧ (e.dispose r m).lostLatch = e.lostLatch
    ∧ (e.dispose r m).edges = e.edges ∧ (e.dispose r m).waiting = e.waiting ∧ (e.dispose r m).recentParentU = e.recentParentU
    ∧ (e.dispose r m).windowRestart = e.windowRestart ∧ (e.dispose r m).epochAcceptable = e.epochAcceptable := by
  rw [RefEntry.dispose_taken, RefEntry.takenBy_eq, RefEntry.gatedBy_eq]
  exact ⟨rfl, rfl, rfl, rfl, rfl, rfl, rfl, rfl, rfl, rfl, rfl⟩

/-- The window's fields and the miss run, as the entry leaves ABSENT or stays present (R39, R40). -/
theorem RefEntry.dispose_window :
    (e.dispose r m).missRun = (if e.state = .absent then 0 else e.missRun)
    ∧ (e.dispose r m).windowEpochs = (if e.state = .absent then some 0 else e.windowEpochs)
    ∧ (e.dispose r m).windowAhead = (if e.state = .absent then m.ahead else e.windowAhead) := by
  rw [RefEntry.dispose_taken, RefEntry.takenBy_eq, RefEntry.gatedBy_eq]
  exact ⟨rfl, rfl, rfl⟩

/-- An outlier is kept out of base, window, last sample and offer (R36, R37). -/
theorem RefEntry.dispose_outlier (outlier : m.outlier = true) :
    ((e.dispose r m).base = e.base ∧ (e.dispose r m).stepsSince = e.stepsSince)
    ∧ ((e.dispose r m).windowSum = e.windowSum ∧ (e.dispose r m).windowCount = e.windowCount ∧ (e.dispose r m).aheadSum = e.aheadSum
      ∧ (e.dispose r m).aheadCount = e.aheadCount)
    ∧ ((e.dispose r m).lastSample = e.lastSample ∧ (e.dispose r m).lastDeclared = e.lastDeclared ∧ (e.dispose r m).lastAge = e.lastAge
      ∧ (e.dispose r m).ageRuns = e.ageRuns ∧ (e.dispose r m).offer = e.offer) := by
  rw [RefEntry.dispose_taken, RefEntry.takenBy_outlier outlier, RefEntry.gatedBy_eq]
  exact ⟨⟨rfl, rfl⟩, ⟨rfl, rfl, rfl, rfl⟩, rfl, rfl, rfl, rfl, rfl⟩

/-- Another sample becomes the difference base, and its difference joins the window. -/
theorem RefEntry.dispose_based (inside : m.outlier = false) :
    ((e.dispose r m).base = some { value := m.value, boundary := m.boundary } ∧ (e.dispose r m).stepsSince = 0)
    ∧ (e.dispose r m).windowSum = ((e.gatedBy m).rebase r m).windowSum ∧ (e.dispose r m).windowCount = ((e.gatedBy m).rebase r m).windowCount
    ∧ (e.dispose r m).aheadSum = ((e.gatedBy m).rebase r m).aheadSum ∧ (e.dispose r m).aheadCount = ((e.gatedBy m).rebase r m).aheadCount := by
  by_cases accepted : m.verdict = .acceptable
  · rw [RefEntry.dispose_taken, RefEntry.takenBy_accepted inside accepted]
    exact ⟨⟨rfl, rfl⟩, rfl, rfl, rfl, rfl⟩
  · rw [RefEntry.dispose_taken, RefEntry.takenBy_refused inside accepted]
    exact ⟨⟨rfl, rfl⟩, rfl, rfl, rfl, rfl⟩

theorem RefEntry.rebase_first (none : e.base = none) : ((e.gatedBy m).rebase r m).windowSum = e.windowSum
    ∧ ((e.gatedBy m).rebase r m).windowCount = e.windowCount ∧ ((e.gatedBy m).rebase r m).aheadSum = e.aheadSum
    ∧ ((e.gatedBy m).rebase r m).aheadCount = e.aheadCount := by
  have nothing : (e.gatedBy m).diff r m.value = Option.none := by rw [RefEntry.gatedBy_eq, RefEntry.diff, none]; rfl
  unfold RefEntry.rebase
  rw [nothing, RefEntry.gatedBy_eq]
  exact ⟨rfl, rfl, rfl, rfl⟩

/-- A difference in a running window (R41, log 30). -/
theorem RefEntry.rebase_running {b : DiffBase} {n : Nat} (base : e.base = some b) (running : e.windowEpochs = some n) (present : e.state ≠ .absent) :
    let d := (difference r m.value b.value e.stepsSince).natAbs
    let a := (e.gatedBy m).rebase r m
    (m.ahead = false → a.windowSum = min (e.windowSum + min (d * d) 4294967295) 4294967295
      ∧ a.windowCount = min (e.windowCount + 1) 64 ∧ a.aheadSum = e.aheadSum ∧ a.aheadCount = e.aheadCount)
    ∧ (m.ahead = true → a.aheadSum = min (e.aheadSum + min (d * d) 4294967295) 4294967295
      ∧ a.aheadCount = min (e.aheadCount + 1) 64 ∧ a.windowSum = e.windowSum ∧ a.windowCount = e.windowCount) := by
  have some : (e.gatedBy m).diff r m.value = Option.some (difference r m.value b.value e.stepsSince) := by
    rw [RefEntry.gatedBy_eq, RefEntry.diff, base]; rfl
  have epochs : (e.gatedBy m).windowEpochs.isNone = false := by
    rw [RefEntry.gatedBy_eq, running]
    simp only [present, if_false]
    rfl
  dsimp only
  unfold RefEntry.rebase RefEntry.addSquare
  rw [some]
  dsimp only
  rw [epochs, RefEntry.gatedBy_eq]
  refine ⟨fun now => ?_, fun ahead => ?_⟩
  · rw [now]; exact ⟨rfl, rfl, rfl, rfl⟩
  · rw [ahead]; exact ⟨rfl, rfl, rfl, rfl⟩

/-- A sample that is not ACCEPTABLE leaves the last sample and the offer. -/
theorem RefEntry.dispose_refused (inside : m.outlier = false) (refused : m.verdict ≠ .acceptable) :
    (e.dispose r m).lastSample = e.lastSample ∧ (e.dispose r m).lastDeclared = e.lastDeclared ∧ (e.dispose r m).lastAge = e.lastAge
      ∧ (e.dispose r m).ageRuns = e.ageRuns ∧ (e.dispose r m).offer = e.offer := by
  rw [RefEntry.dispose_taken, RefEntry.takenBy_refused inside refused, RefEntry.rebase_eq, RefEntry.gatedBy_eq]
  exact ⟨rfl, rfl, rfl, rfl, rfl⟩

/-- An ACCEPTABLE one becomes the last sample, and is offered (R37). -/
theorem RefEntry.dispose_accepted (inside : m.outlier = false) (accepted : m.verdict = .acceptable) :
    (e.dispose r m).lastSample = some m.value ∧ (e.dispose r m).lastAge = 0 ∧ (e.dispose r m).ageRuns = true
      ∧ (e.dispose r m).lastDeclared = (if r.isPhase then m.declared else none)
      ∧ (e.dispose r m).offer = if (e.offered r m).isSome then e.offered r m else e.offer := by
  have offer : (e.takenBy r m).offer = if (e.offered r m).isSome then e.offered r m else e.offer := by
    rw [RefEntry.takenBy_accepted inside accepted, RefEntry.rebase_eq, RefEntry.gatedBy_eq]
    rfl
  rw [RefEntry.dispose_taken]
  refine ⟨?_, ?_, ?_, ?_, offer⟩ <;> rw [RefEntry.takenBy_accepted inside accepted] <;> rfl

/-- The state as the report finds it. -/
theorem RefEntry.noted_report : ((e.takenBy r m).note m).state = e.state ∧ ((e.takenBy r m).note m).cause = e.cause
    ∧ ((e.takenBy r m).note m).qualify = e.qualify
    ∧ ((e.takenBy r m).note m).outlierRun = if m.outlier then min (e.outlierRun + 1) 3 else 0 := by
  rw [RefEntry.note_eq, RefEntry.takenBy_eq, RefEntry.gatedBy_eq]
  exact ⟨rfl, rfl, rfl, rfl⟩

theorem RefEntry.thirdOutlier_iff : e.thirdOutlier m = true ↔ m.outlier = true ∧ 2 ≤ e.outlierRun := by
  unfold RefEntry.thirdOutlier
  rw [RefEntry.gatedBy_eq, Bool.and_eq_true, beq_iff_eq]
  refine and_congr_right fun outlier => ?_
  rw [outlier]
  show min (e.outlierRun + 1) 3 = 3 ↔ _
  omega

/-- The state, the cause, the counter and the outlier run after a sample that is not the third outlier. -/
theorem RefEntry.dispose_report (last : ¬ (m.outlier = true ∧ 2 ≤ e.outlierRun)) :
    (m.verdict = .acceptable → (e.dispose r m).state = (if e.state = .absent then .qualifying else e.state)
        ∧ (e.dispose r m).cause = (if e.state = .absent then none else e.cause)
        ∧ (e.dispose r m).outlierRun = if m.outlier then min (e.outlierRun + 1) 3 else 0)
    ∧ (∀ c, m.verdict.cause = some c → (e.dispose r m).state = .disqualified ∧ (e.dispose r m).cause = some c
        ∧ (e.dispose r m).outlierRun = if e.state = .disqualified then (if m.outlier then min (e.outlierRun + 1) 3 else 0) else 0)
    ∧ (e.dispose r m).qualify = if e.state = .absent then 0 else e.qualify := by
  obtain ⟨state, cause, qualify, run⟩ := RefEntry.noted_report (r := r) (m := m) (e := e)
  have notThird : e.thirdOutlier m = false := Bool.eq_false_iff.mpr (mt RefEntry.thirdOutlier_iff.mp last)
  rw [RefEntry.dispose_eq]
  generalize (e.takenBy r m).note m = n at state cause qualify run ⊢
  rw [← state, ← cause, ← qualify, ← run]
  refine ⟨fun accepted => ?_, fun c failed => ?_, ?_⟩
  · rw [accepted, RefEntry.sampleReport_acceptable notThird]
    by_cases absent : n.state = .absent <;> simp [absent, RefEntry.qualifying]
  · rw [RefEntry.sampleReport_failed failed notThird]
    by_cases absent : n.state = .absent <;> simp [absent, RefEntry.qualifying, RefEntry.disqualify]
  · cases v : m.verdict.cause with
    | none =>
      have accepted : m.verdict = .acceptable := by cases h : m.verdict <;> rw [h] at v <;> first | rfl | cases v
      rw [accepted, RefEntry.sampleReport_acceptable notThird]
      by_cases absent : n.state = .absent <;> simp [absent, RefEntry.qualifying]
    | some c =>
      rw [RefEntry.sampleReport_failed v notThird]
      by_cases absent : n.state = .absent <;> simp [absent, RefEntry.qualifying, RefEntry.disqualify]

/-- The same after the third outlier of an entry that is present. -/
theorem RefEntry.dispose_third (outlier : m.outlier = true) (third : 2 ≤ e.outlierRun) (present : e.state ≠ .absent) :
    (e.dispose r m).state = .disqualified ∧ (e.dispose r m).cause = some .outlier ∧ (e.dispose r m).qualify = e.qualify
      ∧ (e.dispose r m).outlierRun = if e.state = .disqualified then 3 else 0 := by
  obtain ⟨state, -, qualify, run⟩ := RefEntry.noted_report (r := r) (m := m) (e := e)
  have isThird : e.thirdOutlier m = true := RefEntry.thirdOutlier_iff.mpr ⟨outlier, third⟩
  have ends : min (e.outlierRun + 1) 3 = 3 := by omega
  rw [outlier] at run
  simp only [if_true, ends] at run
  rw [RefEntry.dispose_eq, isThird, ← state, ← qualify, ← run]
  exact RefEntry.sampleReport_third (state ▸ present)

end Dispose

/-! ### The statement -/

/-- The gate's judgement in the statement's terms (R36, R48). -/
theorem State.formed_outlier_iff {s : State} {r : RefId} {value : Int} {info : EdgeInfo} :
    (s.formed r value info).outlier = true ↔ s.tb.state = .locked ∧ s.tb.selected = some r
      ∧ (s.entry r).settings.gateWidth < value.natAbs ∧ (s.entry r).state ≠ .absent := by
  simp only [State.formed, isOutlier, gated, Bool.and_eq_true, bne_iff_ne, beq_iff_eq, decide_eq_true_iff]
  constructor
  · rintro ⟨present, ⟨locked, selected⟩, wide⟩
    exact ⟨locked, selected, wide, present⟩
  · rintro ⟨locked, selected, wide, present⟩
    exact ⟨present, ⟨locked, selected⟩, wide⟩

theorem State.formed_ahead_iff {s : State} {r : RefId} {value : Int} {info : EdgeInfo} :
    (s.formed r value info).ahead = true ↔ s.rm.accounted < s.clock.boundaries := decide_eq_true_iff

/-- A change of an entry under the selector writes the entry alone of the RM's record. -/
theorem State.changeEntry_rm (s : State) (r : RefId) (f : RefEntry → RefEntry) :
    (s.changeEntry r f).rm = { s.rm with entries := s.rm.entries.update r f } := by
  unfold State.changeEntry
  dsimp only
  split
  · rfl
  · rw [State.selReact_rm]; rfl

/-- What a change of an entry under the selector leaves of the part. -/
theorem State.changeEntry_frame (s : State) (r : RefId) (f : RefEntry → RefEntry) :
    (∀ q, q ≠ r → (s.changeEntry r f).entry q = s.entry q) ∧ (s.changeEntry r f).tb = s.tb ∧ (s.changeEntry r f).clock = s.clock
      ∧ (s.changeEntry r f).published = s.published ∧ (s.changeEntry r f).older = s.older ∧ (s.changeEntry r f).stu = s.stu
      ∧ (s.changeEntry r f).links = s.links ∧ (s.changeEntry r f).atu = s.atu ∧ (s.changeEntry r f).port = s.port
      ∧ (s.changeEntry r f).pending = s.pending ∧ (s.changeEntry r f).rm.inputA = s.rm.inputA
      ∧ (s.changeEntry r f).rm.inputB = s.rm.inputB ∧ (s.changeEntry r f).rm.clockA = s.rm.clockA
      ∧ (s.changeEntry r f).rm.clockB = s.rm.clockB ∧ (s.changeEntry r f).rm.parentPresent = s.rm.parentPresent
      ∧ (s.changeEntry r f).rm.accounted = s.rm.accounted := by
  refine ⟨fun q other => State.changeEntry_entry_other s f other, ?_⟩
  rw [State.changeEntry_rm]
  simp

/-- An entry's disposal in the statement's terms: its conditions as propositions. -/
theorem RefEntry.dispose_outcome {r : RefId} {m : Formed} {e : RefEntry} {out ahead : Prop} (isOut : m.outlier = true ↔ out)
    (isAhead : m.ahead = true ↔ ahead) (present : out → e.state ≠ .absent) :
    let a := e.dispose r m
    let v := m.verdict
    let third := out ∧ 2 ≤ e.outlierRun
    let noted : SampleRec := { verdict := m.verdict, outlier := m.outlier }
    (ahead → a.nextEpoch = some noted ∧ a.thisEpoch = e.thisEpoch)
    ∧ (¬ ahead → a.thisEpoch = some noted ∧ a.nextEpoch = e.nextEpoch)
    ∧ (out ∨ e.base = none → a.windowSum = e.windowSum ∧ a.windowCount = e.windowCount ∧ a.aheadSum = e.aheadSum
        ∧ a.aheadCount = e.aheadCount)
    ∧ (out → a.base = e.base ∧ a.stepsSince = e.stepsSince)
    ∧ (¬ out → a.base = some { value := m.value, boundary := m.boundary } ∧ a.stepsSince = 0)
    ∧ (∀ b n, ¬ out → e.base = some b → e.windowEpochs = some n → e.state ≠ .absent →
        let d := (difference r m.value b.value e.stepsSince).natAbs
        (¬ ahead → a.windowSum = min (e.windowSum + min (d * d) 4294967295) 4294967295
          ∧ a.windowCount = min (e.windowCount + 1) 64 ∧ a.aheadSum = e.aheadSum ∧ a.aheadCount = e.aheadCount)
        ∧ (ahead → a.aheadSum = min (e.aheadSum + min (d * d) 4294967295) 4294967295
          ∧ a.aheadCount = min (e.aheadCount + 1) 64 ∧ a.windowSum = e.windowSum ∧ a.windowCount = e.windowCount))
    ∧ (out ∨ v ≠ .acceptable →
        a.lastSample = e.lastSample ∧ a.lastDeclared = e.lastDeclared ∧ a.lastAge = e.lastAge ∧ a.ageRuns = e.ageRuns
        ∧ a.offer = e.offer)
    ∧ (¬ out → v = .acceptable →
        a.lastSample = some m.value ∧ a.lastAge = 0 ∧ a.ageRuns = true
        ∧ a.lastDeclared = (if r.isPhase then m.declared else none)
        ∧ (r.isPhase = true → a.offer = some m.value)
        ∧ (∀ b, r.isPhase = false → e.base = some b → a.offer = some (difference r m.value b.value e.stepsSince))
        ∧ (r.isPhase = false → e.base = none → a.offer = e.offer))
    ∧ (e.state = .absent → a.qualify = 0 ∧ a.missRun = 0 ∧ a.windowEpochs = some 0 ∧ (a.windowAhead = true ↔ ahead))
    ∧ (e.state ≠ .absent → a.qualify = e.qualify ∧ a.missRun = e.missRun ∧ a.windowEpochs = e.windowEpochs
        ∧ a.windowAhead = e.windowAhead)
    ∧ (e.state = .absent → v = .acceptable → a.state = .qualifying ∧ a.cause = none)
    ∧ (e.state ≠ .absent → v = .acceptable → ¬ third → a.state = e.state ∧ a.cause = e.cause)
    ∧ (v = .declared → ¬ third → a.state = .disqualified ∧ a.cause = some .declared)
    ∧ (v = .chain → ¬ third → a.state = .disqualified ∧ a.cause = some .chain)
    ∧ (v = .time → ¬ third → a.state = .disqualified ∧ a.cause = some .time)
    ∧ (third → a.state = .disqualified ∧ a.cause = some .outlier)
    ∧ (¬ out → a.outlierRun = 0)
    ∧ (out → ¬ third → v = .acceptable ∨ e.state = .disqualified → a.outlierRun = e.outlierRun + 1)
    ∧ (out → v ≠ .acceptable → e.state ≠ .disqualified → a.outlierRun = 0)
    ∧ (third → e.state ≠ .disqualified → a.outlierRun = 0)
    ∧ (third → e.state = .disqualified → a.outlierRun = 3) := by
  have inside (not : ¬ out) : m.outlier = false := Bool.eq_false_iff.mpr (mt isOut.mp not)
  have now (not : ¬ ahead) : m.ahead = false := Bool.eq_false_iff.mpr (mt isAhead.mp not)
  have notAbsent (absent : e.state = .absent) : ¬ out := fun is => present is absent
  have report (last : ¬ (out ∧ 2 ≤ e.outlierRun)) := RefEntry.dispose_report (r := r) (m := m) (e := e) (by rwa [isOut])
  have thirdReport (third : out ∧ 2 ≤ e.outlierRun) :=
    RefEntry.dispose_third (r := r) (isOut.mpr third.1) third.2 (present third.1)
  have cause (refused : m.verdict ≠ .acceptable) : ∃ c, m.verdict.cause = some c := by
    cases h : m.verdict with
    | acceptable => exact absurd h refused
    | declared | chain | time => exact ⟨_, rfl⟩
  obtain ⟨misses, epochs, windowAhead⟩ := RefEntry.dispose_window (r := r) (m := m) (e := e)
  have qualify : (e.dispose r m).qualify = if e.state = .absent then 0 else e.qualify := by
    by_cases third : out ∧ 2 ≤ e.outlierRun
    · rw [(thirdReport third).2.2.1, if_neg (present third.1)]
    · exact (report third).2.2
  dsimp only
  refine ⟨fun is => RefEntry.dispose_noted.1 (isAhead.mpr is), fun not => RefEntry.dispose_noted.2 (now not), ?sums,
    fun is => (RefEntry.dispose_outlier (isOut.mpr is)).1, fun not => (RefEntry.dispose_based (inside not)).1, ?window, ?kept, ?last,
    fun absent => ?absent, fun stays => ?stays, fun absent accepted => ?appears, fun stays accepted last => ?same,
    fun failed last => ?_, fun failed last => ?_, fun failed last => ?_, fun third => ⟨(thirdReport third).1, (thirdReport third).2.1⟩,
    fun not => ?noRun, fun is last how => ?counts, fun is refused stays => ?enters, fun third stays => ?_, fun third was => ?_⟩
  case sums =>
    rintro (is | none)
    · exact (RefEntry.dispose_outlier (isOut.mpr is)).2.1
    · by_cases is : out
      · exact (RefEntry.dispose_outlier (isOut.mpr is)).2.1
      · obtain ⟨-, sum, count, aheadSum, aheadCount⟩ := RefEntry.dispose_based (r := r) (e := e) (inside is)
        rw [sum, count, aheadSum, aheadCount]
        exact RefEntry.rebase_first none
  case window =>
    intro b n not base running stays
    obtain ⟨-, sum, count, aheadSum, aheadCount⟩ := RefEntry.dispose_based (r := r) (e := e) (inside not)
    rw [sum, count, aheadSum, aheadCount]
    obtain ⟨isNow, isLater⟩ := RefEntry.rebase_running (r := r) (m := m) base running stays
    exact ⟨fun not => isNow (now not), fun is => isLater (isAhead.mpr is)⟩
  case kept =>
    intro refused
    by_cases is : out
    · exact (RefEntry.dispose_outlier (isOut.mpr is)).2.2
    · exact RefEntry.dispose_refused (inside is) (refused.resolve_left is)
  case last =>
    intro not accepted
    obtain ⟨last, age, runs, declared, offer⟩ := RefEntry.dispose_accepted (r := r) (e := e) (inside not) accepted
    refine ⟨last, age, runs, declared, fun phase => ?_, fun b line base => ?_, fun line none => ?_⟩ <;> rw [offer]
    · simp [RefEntry.offered, phase]
    · simp [RefEntry.offered, line, RefEntry.diff, base]
    · simp [RefEntry.offered, line, RefEntry.diff, none]
  case absent =>
    rw [qualify, misses, epochs, windowAhead]
    simp only [absent, if_true]
    exact ⟨trivial, trivial, trivial, isAhead⟩
  case stays =>
    rw [qualify, misses, epochs, windowAhead]
    simp only [stays, if_false]
    exact ⟨trivial, trivial, trivial, trivial⟩
  case appears =>
    obtain ⟨state, why, -⟩ := (report fun third => notAbsent absent third.1).1 accepted
    rw [state, why, if_pos absent, if_pos absent]
    exact ⟨rfl, rfl⟩
  case same =>
    obtain ⟨state, why, -⟩ := (report last).1 accepted
    rw [state, why, if_neg stays, if_neg stays]
    exact ⟨rfl, rfl⟩
  case noRun =>
    have last : ¬ (out ∧ 2 ≤ e.outlierRun) := fun third => not third.1
    by_cases accepted : m.verdict = .acceptable
    · rw [((report last).1 accepted).2.2, inside not]; rfl
    · obtain ⟨c, failed⟩ := cause accepted
      rw [((report last).2.1 c failed).2.2, inside not]
      split <;> rfl
  case counts =>
    have short : min (e.outlierRun + 1) 3 = e.outlierRun + 1 := by
      have : ¬ 2 ≤ e.outlierRun := fun two => last ⟨is, two⟩
      omega
    by_cases accepted : m.verdict = .acceptable
    · rw [((report last).1 accepted).2.2, isOut.mpr is, if_pos rfl, short]
    · obtain ⟨c, failed⟩ := cause accepted
      rw [((report last).2.1 c failed).2.2, if_pos (how.resolve_left accepted), isOut.mpr is, if_pos rfl, short]
  case enters =>
    by_cases third : out ∧ 2 ≤ e.outlierRun
    · rw [(thirdReport third).2.2.2, if_neg stays]
    · obtain ⟨c, failed⟩ := cause refused
      rw [((report third).2.1 c failed).2.2, if_neg stays]
  · obtain ⟨state, why, -⟩ := (report last).2.1 .declared (by rw [failed]; rfl)
    exact ⟨state, why⟩
  · obtain ⟨state, why, -⟩ := (report last).2.1 .chain (by rw [failed]; rfl)
    exact ⟨state, why⟩
  · obtain ⟨state, why, -⟩ := (report last).2.1 .time (by rw [failed]; rfl)
    exact ⟨state, why⟩
  · rw [(thirdReport third).2.2.2, if_neg stays]
  · rw [(thirdReport third).2.2.2, if_pos was]

/-- Settles O18: the disposal of `State.formed`, and the change of the entry under the selector. -/
theorem sampleDisposal : Obligations.SampleDisposal := by
  refine ⟨difference_cases, fun r value info s => ?_⟩
  have out := State.formed_outlier_iff (s := s) (r := r) (value := value) (info := info)
  have outcome := RefEntry.dispose_outcome (r := r) (e := s.entry r) out State.formed_ahead_iff fun is => is.2.2.2
  have isOut : (s.formed r value info).outlier = decide (s.tb.state = .locked ∧ s.tb.selected = some r
      ∧ (s.entry r).settings.gateWidth < value.natAbs ∧ (s.entry r).state ≠ .absent) :=
    Bool.eq_iff_iff.mpr (out.trans decide_eq_true_iff.symm)
  have entry : (s.formSample r value info).entry r = (s.entry r).dispose r (s.formed r value info) := State.changeEntry_entry_same s r _
  have kept := RefEntry.dispose_kept (r := r) (m := s.formed r value info) (e := s.entry r)
  obtain ⟨others, tb, clock, published, older, stu, links, atu, port, pending, inputA, inputB, clockA, clockB, present, accounted⟩ :=
    s.changeEntry_frame r (RefEntry.dispose r (s.formed r value info))
  obtain ⟨settings, declared, wf, q, worstQ, latch, edges, waiting, recentU, restart, acceptable⟩ := kept
  dsimp only at outcome ⊢
  rw [isOut] at outcome
  rw [entry]
  obtain ⟨noteAhead, noteNow, sumsKept, baseKept, baseTaken, sums, lastKept, lastTaken, fromAbsent, fromPresent, appears, stays,
    declaredFails, chainFails, timeFails, thirdFails, runZero, runCounts, runEntered, thirdEntered, thirdAgain⟩ := outcome
  exact ⟨others, tb, clock, published, older, stu, links, atu, port, pending, inputA, inputB, clockA, clockB, present, accounted,
    settings, declared, wf, q, worstQ, latch, edges, waiting, recentU, restart, acceptable,
    noteAhead, noteNow, sumsKept, baseKept, baseTaken, sums, lastKept, lastTaken, fromAbsent, fromPresent, appears, stays,
    declaredFails, chainFails, timeFails, thirdFails, runZero, runCounts, runEntered, thirdEntered, thirdAgain,
    State.changeEntry_sel_same s r _, State.changeEntry_sel_react s r _⟩

end Sys2Proof.Machine
end

section
/-! PROOF. The end of a window, and the epoch accounting. -/

namespace Sys2Proof.Machine

open Sys2Proof

/-! ### The window report (R53) -/

section Report

variable {e : RefEntry}

theorem RefEntry.windowReport_absent (absent : e.state = .absent) : e.windowReport = e := by
  simp only [RefEntry.windowReport, absent]

theorem RefEntry.windowReport_below (present : e.state ≠ .absent) (below : e.q < e.settings.floor) :
    e.windowReport = e.disqualify .quality := by
  cases state : e.state with
  | absent => exact absurd state present
  | qualifying | qualified | disqualified => simp only [RefEntry.windowReport, state, if_pos below]

theorem RefEntry.windowReport_above (good : e.settings.floor ≤ e.q) (state : e.state = .qualifying ∨ e.state = .qualified) :
    e.windowReport = e := by
  rcases state with state | state <;> simp only [RefEntry.windowReport, state, if_neg (not_lt.mpr good)]

/-- A DISQUALIFIED entry of a good window goes back to QUALIFYING after an acceptable epoch. -/
theorem RefEntry.windowReport_disqualified (good : e.settings.floor ≤ e.q) (state : e.state = .disqualified) :
    e.windowReport = if e.epochAcceptable = true then e.qualifying else e := by
  simp only [RefEntry.windowReport, state, if_neg (not_lt.mpr good)]

/-- What a window report can change. -/
theorem RefEntry.windowReport_eq (e : RefEntry) : e.windowReport = { e with
    state := e.windowReport.state, cause := e.windowReport.cause, qualify := e.windowReport.qualify,
    outlierRun := e.windowReport.outlierRun } := by
  rcases e.windowReport_cases with h | h | h <;> rw [h] <;> rfl

/-- The state, cause, counter and outlier run after a window report. -/
theorem RefEntry.windowReport_outcome (e : RefEntry) :
    let a := e.windowReport
    (e.state = .absent → a.state = .absent ∧ a.cause = e.cause ∧ a.qualify = e.qualify)
    ∧ (e.state ≠ .absent → e.q < e.settings.floor → a.state = .disqualified ∧ a.cause = some .quality ∧ a.qualify = e.qualify)
    ∧ (e.state = .qualifying ∨ e.state = .qualified → e.settings.floor ≤ e.q →
        a.state = e.state ∧ a.cause = e.cause ∧ a.qualify = e.qualify)
    ∧ (e.state = .disqualified → e.settings.floor ≤ e.q → e.epochAcceptable = true →
        a.state = .qualifying ∧ a.cause = none ∧ a.qualify = 0)
    ∧ (e.state = .disqualified → e.settings.floor ≤ e.q → e.epochAcceptable = false →
        a.state = .disqualified ∧ a.cause = e.cause ∧ a.qualify = e.qualify)
    ∧ (e.state = .qualifying ∨ e.state = .qualified → e.q < e.settings.floor → a.outlierRun = 0)
    ∧ (e.state = .absent ∨ e.state = .disqualified ∨ e.settings.floor ≤ e.q → a.outlierRun = e.outlierRun) := by
  dsimp only
  refine ⟨fun absent => ?_, fun present below => ?_, fun state good => ?_, fun state good shown => ?_, fun state good hidden => ?_,
    fun state below => ?_, fun state => ?_⟩
  · rw [RefEntry.windowReport_absent absent]; exact ⟨absent, rfl, rfl⟩
  · rw [RefEntry.windowReport_below present below]; exact ⟨rfl, rfl, rfl⟩
  · rw [RefEntry.windowReport_above good state]; exact ⟨rfl, rfl, rfl⟩
  · rw [RefEntry.windowReport_disqualified good state, if_pos shown]; exact ⟨rfl, rfl, rfl⟩
  · rw [RefEntry.windowReport_disqualified good state, if_neg (by rw [hidden]; decide)]; exact ⟨state, rfl, rfl⟩
  · have present : e.state ≠ .absent := by rcases state with state | state <;> rw [state] <;> decide
    have entered : e.state ≠ .disqualified := by rcases state with state | state <;> rw [state] <;> decide
    rw [RefEntry.windowReport_below present below]
    exact if_neg entered
  · by_cases absent : e.state = .absent
    · rw [RefEntry.windowReport_absent absent]
    · by_cases below : e.q < e.settings.floor
      · rw [RefEntry.windowReport_below absent below]
        exact if_pos ((state.resolve_left absent).resolve_right (not_le.mpr below))
      · rcases e.windowReport_cases with h | h | h <;> rw [h]
        · cases state' : e.state with
          | absent => exact absurd state' absent
          | disqualified => exact if_pos state'
          | qualifying | qualified =>
            rw [RefEntry.windowReport_above (not_lt.mp below) (by rw [state']; decide)] at h
            rw [← h]
        · rfl

end Report

/-! ### WINDOW_END (R41 to R43) -/

/-- The entry that the report of a window end meets. -/
def RefEntry.windowClosed (e : RefEntry) : RefEntry := e.grade.newWindow

theorem RefEntry.endWindow_eq (e : RefEntry) : e.endWindow = e.windowClosed.windowReport := rfl

/-- WF after a window end, by the window's differences. -/
def RefEntry.windowFigure (e : RefEntry) : Nat := if e.windowCount = 0 then e.wf else e.windowSum / e.windowCount

theorem RefEntry.windowClosed_eq (e : RefEntry) : e.windowClosed = { e with
    wf := e.windowFigure, q := newQuality e.settings e.windowCount e.windowFigure e.q,
    worstQ := min e.worstQ (newQuality e.settings e.windowCount e.windowFigure e.q),
    windowSum := e.aheadSum, windowCount := e.aheadCount, aheadSum := 0, aheadCount := 0, windowEpochs := some 0,
    windowAhead := false, windowRestart := false } := rfl

/-- What a window's end can change. -/
theorem RefEntry.endWindow_kept (e : RefEntry) : e.endWindow = { e with
    state := e.endWindow.state, cause := e.endWindow.cause, qualify := e.endWindow.qualify, outlierRun := e.endWindow.outlierRun,
    wf := e.windowFigure, q := newQuality e.settings e.windowCount e.windowFigure e.q,
    worstQ := min e.worstQ (newQuality e.settings e.windowCount e.windowFigure e.q),
    windowSum := e.aheadSum, windowCount := e.aheadCount, aheadSum := 0, aheadCount := 0, windowEpochs := some 0,
    windowAhead := false, windowRestart := false } := by
  rw [RefEntry.endWindow_eq, RefEntry.windowReport_eq]
  rfl

/-- WINDOW_END does nothing unless the window epochs stand at W with no restart asked for (log 2). -/
theorem execWindowEnd_idle {r : RefId} {s : State}
    (idle : ¬ ∃ n, (s.entry r).windowEpochs = some n ∧ (s.entry r).settings.window ≤ n ∧ (s.entry r).windowRestart = false) :
    execWindowEnd r s = .next s := by
  unfold execWindowEnd
  split
  · rename_i n running
    rw [if_neg fun both => idle ⟨n, running, both.1, both.2⟩]
  · rfl

/-- Settles O20. -/
theorem windowEndOutcome : Obligations.WindowEndOutcome := by
  intro r s
  refine ⟨fun idle => (exec_windowEnd r s).trans (execWindowEnd_idle idle), fun ⟨n, running, full, noRestart⟩ => ?_⟩
  refine ⟨s.changeEntry r RefEntry.endWindow, (exec_windowEnd r s).trans (execWindowEnd_ends running full noRestart), ?_⟩
  obtain ⟨others, tb, clock, published, older, stu, links, atu, port, pending, inputA, inputB, clockA, clockB, present, accounted⟩ :=
    s.changeEntry_frame r RefEntry.endWindow
  refine ⟨others, tb, clock, stu, links, atu, port, pending, published, older, inputA, inputB, clockA, clockB, present, accounted, ?_⟩
  have entry : (s.changeEntry r RefEntry.endWindow).entry r = (s.entry r).endWindow := State.changeEntry_entry_same s r _
  have same := State.changeEntry_sel_same s r RefEntry.endWindow
  have react := State.changeEntry_sel_react s r RefEntry.endWindow
  rw [entry]
  generalize s.entry r = e at same react ⊢
  have kept := e.endWindow_kept
  have q : e.endWindow.q = newQuality e.settings e.windowCount e.windowFigure e.q := congrArg RefEntry.q kept
  have closed : e.endWindow.q = e.windowClosed.q := q
  have wf : e.endWindow.wf = e.windowFigure := congrArg RefEntry.wf kept
  obtain ⟨absent, below, stays, returns, remains, runZero, runKept⟩ := e.windowClosed.windowReport_outcome
  dsimp only
  refine ⟨?_, fun state low => runZero state (closed ▸ low), fun state => runKept (closed ▸ state), (congrArg RefEntry.thisEpoch kept :),
    (congrArg RefEntry.nextEpoch kept :), (congrArg RefEntry.offer kept :), (congrArg RefEntry.edges kept :),
    (congrArg RefEntry.waiting kept :), fun none => wf.trans (if_pos none), fun some => wf.trans (if_neg some.ne'), ?_,
    (congrArg RefEntry.windowEpochs kept :), (congrArg RefEntry.windowSum kept :), (congrArg RefEntry.windowCount kept :),
    (congrArg RefEntry.base kept :), (congrArg RefEntry.lastSample kept :), (congrArg RefEntry.declared kept :),
    (congrArg RefEntry.settings kept :), (congrArg RefEntry.missRun kept :), (congrArg RefEntry.lostLatch kept :),
    absent, fun present low => below present (closed ▸ low), fun state good => stays state (closed ▸ good),
    fun state good => returns state (closed ▸ good), fun state good => remains state (closed ▸ good), same, react⟩
  · rw [RefEntry.endWindow_kept]
  · rw [q]; exact (congrArg RefEntry.worstQ kept :)

/-! ### The accounting of one entry (R39, R51, R52) -/

section Account

variable {r : RefId} {e : RefEntry}

/-- The third miss in a row (R39, R52). -/
def RefEntry.lost (e : RefEntry) : Prop := e.state ≠ .absent ∧ e.thisEpoch = none ∧ 2 ≤ e.missRun

/-- A good epoch of the entry (R51). -/
def RefEntry.hadGood (e : RefEntry) : Prop :=
  ∃ rec : SampleRec, e.thisEpoch = some rec ∧ rec.verdict = .acceptable ∧ rec.outlier = false ∧ e.settings.floor ≤ e.q

/-- The entry as the epoch report meets it. -/
def RefEntry.missCounted (e : RefEntry) : RefEntry := { e.countMisses with epochAcceptable := shownAcceptable e.thisEpoch }

theorem RefEntry.accountEpoch_absent (absent : e.state = .absent) : e.accountEpoch r = e := if_pos absent

theorem RefEntry.countMisses_lost : e.countMisses.missRun = Config.runEnd ↔ e.thisEpoch = none ∧ 2 ≤ e.missRun := by
  show (if e.thisEpoch.isSome then 0 else min (e.missRun + 1) 3) = 3 ↔ _
  cases e.thisEpoch with
  | none => simp
  | some rec => simp

theorem RefEntry.accountEpoch_lost (lost : e.lost) : e.accountEpoch r = e.countMisses.enterAbsent r := by
  obtain ⟨present, none, third⟩ := lost
  unfold RefEntry.accountEpoch
  rw [if_neg present]
  exact if_pos (RefEntry.countMisses_lost.mpr ⟨none, third⟩)

theorem RefEntry.accountEpoch_present (present : e.state ≠ .absent) (kept : ¬ e.lost) :
    e.accountEpoch r = e.missCounted.epochReport e.thisEpoch := by
  unfold RefEntry.accountEpoch
  rw [if_neg present]
  exact if_neg fun third => kept ⟨present, RefEntry.countMisses_lost.mp third⟩

theorem RefEntry.goodEpoch_iff {rec : SampleRec} :
    e.goodEpoch rec = true ↔ rec.verdict = .acceptable ∧ rec.outlier = false ∧ e.settings.floor ≤ e.q := by
  simp [RefEntry.goodEpoch, and_assoc]

/-- What an epoch report can change (R51). -/
theorem RefEntry.epochReport_eq (had : Option SampleRec) (e : RefEntry) :
    e.epochReport had = { e with state := (e.epochReport had).state, qualify := (e.epochReport had).qualify } := by
  unfold RefEntry.epochReport
  dsimp only
  (repeat' split) <;> rfl

/-- The epoch report by the state and the epoch just ended. -/
theorem RefEntry.epochReport_outcome (e : RefEntry) (had : Option SampleRec) :
    let a := e.epochReport had
    let good := ∃ rec, had = some rec ∧ rec.verdict = .acceptable ∧ rec.outlier = false ∧ e.settings.floor ≤ e.q
    (e.state = .qualifying → good → a.qualify = min (e.qualify + 1) 255
      ∧ a.state = if e.settings.qualifyPeriod ≤ min (e.qualify + 1) 255 then .qualified else .qualifying)
    ∧ (e.state = .qualifying → had = none → a.qualify = 0 ∧ a.state = .qualifying)
    ∧ (e.state = .qualifying → had.isSome = true → ¬ good → a.qualify = e.qualify ∧ a.state = .qualifying)
    ∧ (e.state ≠ .qualifying → a.qualify = e.qualify ∧ a.state = e.state) := by
  dsimp only
  refine ⟨fun state ⟨rec, is, good⟩ => ?_, fun state none => ?_, fun state some bad => ?_, fun other => ?_⟩
  · subst is
    unfold RefEntry.epochReport
    rw [if_pos state]
    dsimp only
    rw [if_pos (RefEntry.goodEpoch_iff.mpr good)]
    exact ⟨rfl, rfl⟩
  · subst none
    unfold RefEntry.epochReport
    rw [if_pos state]
    exact ⟨rfl, state⟩
  · obtain ⟨rec, rfl⟩ := Option.isSome_iff_exists.mp some
    unfold RefEntry.epochReport
    rw [if_pos state]
    dsimp only
    rw [if_neg fun good => bad ⟨rec, rfl, RefEntry.goodEpoch_iff.mp good⟩]
    exact ⟨rfl, state⟩
  · unfold RefEntry.epochReport
    rw [if_neg other]
    exact ⟨rfl, rfl⟩

theorem shownAcceptable_iff {had : Option SampleRec} :
    shownAcceptable had = true ↔ ∃ rec, had = some rec ∧ rec.verdict = .acceptable := by
  cases had <;> simp [shownAcceptable]

/-! ### The window's part of the accounting (R41, R47) -/

theorem RefEntry.accountWindow_none (none : e.windowEpochs = none) : e.accountWindow = e := by
  simp only [RefEntry.accountWindow, none]

theorem RefEntry.accountWindow_restart {n : Nat} (running : e.windowEpochs = some n) (restart : e.windowRestart = true) :
    e.accountWindow = e.newWindow := by
  simp only [RefEntry.accountWindow, running, restart, if_true]

theorem RefEntry.accountWindow_ends {n : Nat} (running : e.windowEpochs = some n) (noRestart : e.windowRestart = false)
    (full : e.settings.window ≤ if e.windowAhead then n else n + 1) : e.accountWindow = e.endWindow := by
  simp only [RefEntry.accountWindow, running, noRestart, RefEntry.epochsNow, Bool.false_eq_true, if_false]
  exact if_pos full

theorem RefEntry.accountWindow_goesOn {n : Nat} (running : e.windowEpochs = some n) (noRestart : e.windowRestart = false)
    (short : (if e.windowAhead then n else n + 1) < e.settings.window) :
    e.accountWindow = e.keepWindow (if e.windowAhead then n else n + 1) := by
  simp only [RefEntry.accountWindow, running, noRestart, RefEntry.epochsNow, Bool.false_eq_true, if_false]
  exact if_neg (not_le.mpr short)

end Account

end Sys2Proof.Machine
end

section
/-! PROOF. The epoch accounting of every entry. -/

namespace Sys2Proof.Machine

open Sys2Proof

/-! ### The selector under the accounting (R55) -/

theorem State.SameStanding.best {s t : State} (h : s.SameStanding t) : t.best = s.best := by
  have better : t.betterOf = s.betterOf := by
    funext found r
    simp only [State.betterOf, h.candidate, h.priority]
  rw [State.best, better]
  rfl

/-- The selector's reaction reads the selector and the entries' standing. -/
theorem State.SameStanding.selReact_sel {s t : State} (h : s.SameStanding t) (sel : t.sel = s.sel) :
    t.selReact.sel = s.selReact.sel := by
  unfold State.selReact State.searchFrom State.reselect
  simp only [sel, h.best, h.candidate, h.priority]
  cases s.sel.selected <;> cases s.best <;> simp only [apply_ite State.sel, sel]

theorem State.selReact_standing (s : State) : s.SameStanding s.selReact := fun r =>
  congrArg RefEntry.standing (State.entry_of_entries (congrArg Monitor.entries s.selReact_rm) r)

/-- An entry's state alone changed, with the selector's reaction where it moves into or out of QUALIFIED. -/
def State.moveEntry (u : State) (r : RefId) (st : RefState) : State :=
  let v := u.updEntry r (fun e => { e with state := st })
  if ((u.entry r).state = .qualified ↔ st = .qualified) then v else v.selReact

/-- The two states look alike to the selector, and it is in the same state. -/
def State.SelectsAlike (s t : State) : Prop := s.SameStanding t ∧ t.sel = s.sel

theorem State.SelectsAlike.refl (s : State) : s.SelectsAlike s := ⟨.refl s, rfl⟩

/-- To the selector a change of an entry that leaves its settings is the move of its state. -/
theorem State.SelectsAlike.moveEntry {s t : State} (h : s.SelectsAlike t) (r : RefId) {f : RefEntry → RefEntry} {st : RefState}
    (settings : (f (s.entry r)).settings = (s.entry r).settings) (state : (f (s.entry r)).state = st) :
    (s.changeEntry r f).SelectsAlike (t.moveEntry r st) := by
  obtain ⟨standing, sel⟩ := h
  have was : (t.entry r).state = (s.entry r).state := congrArg Prod.snd (standing r)
  have changed : (s.updEntry r f).SameStanding (t.updEntry r fun e => { e with state := st }) := by
    intro q
    by_cases isR : q = r
    · subst isR
      rw [State.updEntry_entry_same, State.updEntry_entry_same, RefEntry.standing, RefEntry.standing, settings, state]
      exact congrArg (·, st) (congrArg Prod.fst (standing q))
    · rw [State.updEntry_entry_other _ _ isR, State.updEntry_entry_other _ _ isR]
      exact standing q
  unfold State.moveEntry State.changeEntry
  dsimp only
  rw [was, State.updEntry_entry_same, state]
  by_cases same : (s.entry r).state = .qualified ↔ st = .qualified
  · rw [if_pos same, if_pos (by rw [beq_iff_eq, Bool.eq_iff_iff, beq_iff_eq, beq_iff_eq]; exact same)]
    exact ⟨changed, sel⟩
  · rw [if_neg same, if_neg (by rw [beq_iff_eq, Bool.eq_iff_iff, beq_iff_eq, beq_iff_eq]; exact same)]
    refine ⟨fun q => ?_, changed.selReact_sel sel⟩
    rw [State.selReact_standing _ q, State.selReact_standing _ q]
    exact changed q

/-- The entry after the accounting (R39, R41, R44). -/
def RefEntry.accounted (r : RefId) (e : RefEntry) : RefEntry := (e.accountEpoch r).accountWindow.nextAccount

theorem RefEntry.accounted_settings (r : RefId) (e : RefEntry) : (e.accounted r).settings = e.settings :=
  (RefEntry.accountWindow_settings _).trans (RefEntry.accountEpoch_settings r e)

theorem State.SelectsAlike.accountEntry {s t : State} (h : s.SelectsAlike t) (r : RefId) :
    (s.accountEntry r).SelectsAlike
      ((t.moveEntry r ((s.entry r).accountEpoch r).state).moveEntry r ((s.entry r).accounted r).state) := by
  have epoch := h.moveEntry r (f := RefEntry.accountEpoch r) (RefEntry.accountEpoch_settings r _) rfl
  have window := epoch.moveEntry r (f := RefEntry.accountWindow) (st := ((s.entry r).accounted r).state)
    (RefEntry.accountWindow_settings _) (by rw [State.changeEntry_entry_same]; rfl)
  obtain ⟨standing, sel⟩ := window
  refine ⟨fun q => (standing q).trans ?_, sel⟩
  exact (State.updEntry_standing _ r (f := RefEntry.nextAccount) rfl q).symm

/-- The entries in turn, each by its own two reports. -/
theorem State.SelectsAlike.accounting (rs : List RefId) : ∀ {s t : State}, rs.Nodup → s.SelectsAlike t →
    (rs.foldl State.accountEntry s).SelectsAlike
      (rs.foldl (fun u r => (u.moveEntry r ((s.entry r).accountEpoch r).state).moveEntry r ((s.entry r).accounted r).state) t) := by
  induction rs with
  | nil => exact fun _ h => h
  | cons r rs ih =>
    intro s t distinct h
    obtain ⟨fresh, distinct⟩ := List.nodup_cons.mp distinct
    have rest := ih distinct (h.accountEntry r)
    have same : ∀ (u : State), ∀ q ∈ rs,
        (u.moveEntry q (((s.accountEntry r).entry q).accountEpoch q).state).moveEntry q (((s.accountEntry r).entry q).accounted q).state
          = (u.moveEntry q ((s.entry q).accountEpoch q).state).moveEntry q ((s.entry q).accounted q).state := by
      intro u q m
      have other : q ≠ r := fun is => fresh (is ▸ m)
      rw [State.accountEntry_entry_other _ other]
    rw [List.foldl_ext _ _ _ same] at rest
    exact rest

/-! ### What the accounting leaves and makes (R39, R41, R51 to R53) -/

section Accounted

variable {r : RefId} {e : RefEntry}

/-- The fields that the window's part of the accounting can change. -/
theorem RefEntry.accountWindow_eq (e : RefEntry) : e.accountWindow = { e with
    state := e.accountWindow.state, cause := e.accountWindow.cause, qualify := e.accountWindow.qualify,
    outlierRun := e.accountWindow.outlierRun, wf := e.accountWindow.wf, q := e.accountWindow.q, worstQ := e.accountWindow.worstQ,
    windowSum := e.accountWindow.windowSum, windowCount := e.accountWindow.windowCount, aheadSum := e.accountWindow.aheadSum,
    aheadCount := e.accountWindow.aheadCount, windowEpochs := e.accountWindow.windowEpochs,
    windowAhead := e.accountWindow.windowAhead, windowRestart := e.accountWindow.windowRestart } := by
  unfold RefEntry.accountWindow
  (repeat' split)
  · rfl
  · rfl
  · rw [RefEntry.endWindow_kept]
  · rfl

/-- The window of the entry ends at this accounting. -/
def RefEntry.windowEnds (e : RefEntry) : Prop :=
  ∃ n, e.windowEpochs = some n ∧ e.windowRestart = false ∧ e.settings.window ≤ (if e.windowAhead then n else n + 1)

/-- The window of the entry goes on over this accounting. -/
def RefEntry.windowGoesOn (e : RefEntry) : Prop :=
  ∃ n, e.windowEpochs = some n ∧ e.windowRestart = false ∧ (if e.windowAhead then n else n + 1) < e.settings.window

/-- Without a window's end, the window's part of the accounting leaves what the reports change, and the figures. -/
theorem RefEntry.accountWindow_unended (goes : ¬ e.windowEnds) :
    e.accountWindow.state = e.state ∧ e.accountWindow.cause = e.cause ∧ e.accountWindow.qualify = e.qualify
      ∧ e.accountWindow.outlierRun = e.outlierRun ∧ e.accountWindow.wf = e.wf ∧ e.accountWindow.q = e.q
      ∧ e.accountWindow.worstQ = e.worstQ := by
  unfold RefEntry.accountWindow
  (repeat' split)
  · exact ⟨rfl, rfl, rfl, rfl, rfl, rfl, rfl⟩
  · exact ⟨rfl, rfl, rfl, rfl, rfl, rfl, rfl⟩
  · rename_i n running noRestart full
    exact absurd ⟨n, running, Bool.not_eq_true _ ▸ noRestart, full⟩ goes
  · exact ⟨rfl, rfl, rfl, rfl, rfl, rfl, rfl⟩

theorem RefEntry.accountWindow_ended (ends : e.windowEnds) : e.accountWindow = e.endWindow := by
  obtain ⟨n, running, noRestart, full⟩ := ends
  exact RefEntry.accountWindow_ends running noRestart full

/-- A running window leaves nothing formed ahead and no restart asked for. -/
theorem RefEntry.accountWindow_cleared (running : e.windowEpochs.isSome = true) :
    e.accountWindow.aheadSum = 0 ∧ e.accountWindow.aheadCount = 0 ∧ e.accountWindow.windowAhead = false
      ∧ e.accountWindow.windowRestart = false := by
  obtain ⟨n, running⟩ := Option.isSome_iff_exists.mp running
  unfold RefEntry.accountWindow
  rw [running]
  dsimp only
  (repeat' split)
  · exact ⟨rfl, rfl, rfl, rfl⟩
  · rw [RefEntry.endWindow_kept]; exact ⟨rfl, rfl, rfl, rfl⟩
  · rename_i noRestart _
    exact ⟨rfl, rfl, rfl, Bool.not_eq_true _ ▸ noRestart⟩

/-- The entry after the accounting of its epoch, where it stays: the report's state and counter, and the misses. -/
theorem RefEntry.accountEpoch_kept (present : e.state ≠ .absent) (kept : ¬ e.lost) :
    e.accountEpoch r = { e with
      state := (e.accountEpoch r).state, qualify := (e.accountEpoch r).qualify,
      missRun := if e.thisEpoch.isSome then 0 else e.missRun + 1, epochAcceptable := shownAcceptable e.thisEpoch } := by
  have misses : e.missCounted.missRun = if e.thisEpoch.isSome then 0 else e.missRun + 1 := by
    show (if e.thisEpoch.isSome then 0 else min (e.missRun + 1) 3) = _
    by_cases missed : e.thisEpoch = none
    · have : ¬ 2 ≤ e.missRun := fun third => kept ⟨present, missed, third⟩
      rw [missed]
      exact min_eq_left (by omega)
    · rw [if_pos (Option.isSome_iff_ne_none.mpr missed), if_pos (Option.isSome_iff_ne_none.mpr missed)]
  rw [RefEntry.accountEpoch_present present kept, RefEntry.epochReport_eq, ← misses]
  rfl

/-- The counter and the state that the epoch report leaves in a present entry. -/
theorem RefEntry.accountEpoch_outcome (present : e.state ≠ .absent) (kept : ¬ e.lost) :
    let c := e.accountEpoch r
    (e.state = .qualifying → e.hadGood → c.qualify = min (e.qualify + 1) 255
      ∧ c.state = if e.settings.qualifyPeriod ≤ min (e.qualify + 1) 255 then .qualified else .qualifying)
    ∧ (e.state = .qualifying → e.thisEpoch = none → c.qualify = 0 ∧ c.state = .qualifying)
    ∧ (e.state = .qualifying → e.thisEpoch.isSome = true → ¬ e.hadGood → c.qualify = e.qualify ∧ c.state = .qualifying)
    ∧ (e.state ≠ .qualifying → c.qualify = e.qualify ∧ c.state = e.state) := by
  rw [RefEntry.accountEpoch_present present kept]
  exact e.missCounted.epochReport_outcome e.thisEpoch

/-- An epoch's accounting moves a present entry from QUALIFYING to QUALIFIED at most. -/
theorem RefEntry.accountEpoch_state (present : e.state ≠ .absent) (kept : ¬ e.lost) :
    (e.state = .qualifying → (e.accountEpoch r).state = .qualifying ∨ (e.accountEpoch r).state = .qualified)
      ∧ (e.state ≠ .qualifying → (e.accountEpoch r).state = e.state) := by
  obtain ⟨counts, missed, bad, other⟩ := RefEntry.accountEpoch_outcome (r := r) present kept
  refine ⟨fun state => ?_, fun state => (other state).2⟩
  by_cases good : e.hadGood
  · rw [(counts state good).2]
    split
    · exact .inr rfl
    · exact .inl rfl
  · by_cases had : e.thisEpoch = none
    · exact .inl (missed state had).2
    · exact .inl (bad state (Option.isSome_iff_ne_none.mpr had) good).2

theorem RefEntry.accountEpoch_entered (present : e.state ≠ .absent) (kept : ¬ e.lost) (entered : e.state ≠ .disqualified) :
    (e.accountEpoch r).state = .qualifying ∨ (e.accountEpoch r).state = .qualified := by
  obtain ⟨qualifying, other⟩ := RefEntry.accountEpoch_state (r := r) present kept
  cases state : e.state with
  | absent => exact absurd state present
  | disqualified => exact absurd state entered
  | qualifying => exact qualifying state
  | qualified => exact .inr ((other (by rw [state]; decide)).trans state)

theorem RefEntry.windowGoesOn.unended (goes : e.windowGoesOn) : ¬ e.windowEnds := by
  rintro ⟨m, running, -, full⟩
  obtain ⟨n, also, -, short⟩ := goes
  cases Option.some.inj (running.symm.trans also)
  omega

/-- The entry that the reports leave, by the statement's figures: the window ended, with the window report after the epoch's. -/
theorem RefEntry.accounted_ended (present : e.state ≠ .absent) (kept : ¬ e.lost) (ends : e.windowEnds) :
    let a := e.accounted r
    let c := e.accountEpoch r
    let q := newQuality e.settings e.windowCount e.windowFigure e.q
    (a.wf = e.windowFigure ∧ a.q = q ∧ a.worstQ = min e.worstQ q ∧ a.windowEpochs = some 0 ∧ a.windowSum = e.aheadSum
      ∧ a.windowCount = e.aheadCount)
    ∧ (q < e.settings.floor → a.state = .disqualified ∧ a.cause = some .quality ∧ a.qualify = c.qualify)
    ∧ (c.state = .qualifying ∨ c.state = .qualified → e.settings.floor ≤ q →
        a.state = c.state ∧ a.cause = e.cause ∧ a.qualify = c.qualify)
    ∧ (c.state = .disqualified → e.settings.floor ≤ q → shownAcceptable e.thisEpoch = true →
        a.state = .qualifying ∧ a.cause = none ∧ a.qualify = 0)
    ∧ (c.state = .disqualified → e.settings.floor ≤ q → shownAcceptable e.thisEpoch = false →
        a.state = .disqualified ∧ a.cause = e.cause ∧ a.qualify = c.qualify)
    ∧ (c.state = .qualifying ∨ c.state = .qualified → q < e.settings.floor → a.outlierRun = 0)
    ∧ (c.state = .disqualified ∨ e.settings.floor ≤ q → a.outlierRun = e.outlierRun) := by
  have stays := RefEntry.accountEpoch_kept (r := r) present kept
  have here : (e.accountEpoch r).state ≠ .absent := by
    obtain ⟨qualifying, other⟩ := RefEntry.accountEpoch_state (r := r) present kept
    by_cases state : e.state = .qualifying
    · rcases qualifying state with state | state <;> rw [state] <;> decide
    · rw [other state]; exact present
  have accounted : e.accounted r = (e.accountEpoch r).endWindow.nextAccount := by
    unfold RefEntry.accounted
    rw [RefEntry.accountWindow_ended (by rw [RefEntry.windowEnds, stays]; exact ends)]
  have outcome := (e.accountEpoch r).windowClosed.windowReport_outcome
  have figures := (e.accountEpoch r).endWindow_kept
  dsimp only
  rw [accounted]
  generalize e.accountEpoch r = c at stays here outcome figures ⊢
  have q : c.windowClosed.q = newQuality e.settings e.windowCount e.windowFigure e.q :=
    (congrArg (fun e : RefEntry => e.windowClosed.q) stays :)
  have floor : c.windowClosed.settings.floor = e.settings.floor := (congrArg (fun e : RefEntry => e.settings.floor) stays :)
  have shown : c.windowClosed.epochAcceptable = shownAcceptable e.thisEpoch := (congrArg RefEntry.epochAcceptable stays :)
  have cause : c.windowClosed.cause = e.cause := (congrArg RefEntry.cause stays :)
  have run : c.windowClosed.outlierRun = e.outlierRun := (congrArg RefEntry.outlierRun stays :)
  rw [q, floor, shown, cause, run] at outcome
  obtain ⟨-, below, above, returns, remains, runZero, runKept⟩ := outcome
  refine ⟨⟨?_, ?_, ?_, ?_, ?_, ?_⟩, below here, above, returns, remains, runZero, fun h => runKept (.inr h)⟩
  · exact (congrArg RefEntry.wf figures :).trans (congrArg RefEntry.windowFigure stays :)
  · exact (congrArg RefEntry.q figures :).trans q
  · exact (congrArg RefEntry.worstQ figures :).trans (congrArg₂ min (congrArg RefEntry.worstQ stays :) q)
  · exact (congrArg RefEntry.windowEpochs figures :)
  · exact (congrArg RefEntry.windowSum figures :).trans (congrArg RefEntry.aheadSum stays :)
  · exact (congrArg RefEntry.windowCount figures :).trans (congrArg RefEntry.aheadCount stays :)

/-- The state that the epoch report leaves (R51, R52). -/
def RefEntry.reportedState (e : RefEntry) : RefState :=
  if e.state ≠ .absent ∧ e.thisEpoch = none ∧ 2 ≤ e.missRun then RefState.absent
  else if e.state = .qualifying
    ∧ (e.thisEpoch.any (fun rec => rec.verdict == .acceptable && !rec.outlier) = true ∧ e.settings.floor ≤ e.q)
    ∧ e.settings.qualifyPeriod ≤ min (e.qualify + 1) 255 then .qualified
  else e.state

theorem RefEntry.accountEpoch_reported (e : RefEntry) (r : RefId) : (e.accountEpoch r).state = e.reportedState := by
  unfold RefEntry.reportedState
  have goodIff : (e.thisEpoch.any (fun rec => rec.verdict == .acceptable && !rec.outlier) = true ∧ e.settings.floor ≤ e.q)
      ↔ e.hadGood := by
    unfold RefEntry.hadGood
    cases e.thisEpoch <;> simp [and_assoc]
  by_cases lost : e.state ≠ .absent ∧ e.thisEpoch = none ∧ 2 ≤ e.missRun
  · rw [if_pos lost, RefEntry.accountEpoch_lost lost]; rfl
  · rw [if_neg lost]
    by_cases absent : e.state = .absent
    · rw [RefEntry.accountEpoch_absent absent, if_neg fun h => by rw [absent] at h; exact absurd h.1 (by decide)]
    · obtain ⟨counts, missed, bad, other⟩ := RefEntry.accountEpoch_outcome (r := r) absent lost
      by_cases state : e.state = .qualifying
      · by_cases good : e.hadGood
        · rw [(counts state good).2]
          exact if_congr ⟨fun full => ⟨state, goodIff.mpr good, full⟩, fun h => h.2.2⟩ rfl state.symm
        · rw [if_neg fun h => good (goodIff.mp h.2.1), state]
          by_cases had : e.thisEpoch = none
          · exact (missed state had).2
          · exact (bad state (Option.isSome_iff_ne_none.mpr had) good).2
      · rw [if_neg fun h => state h.1]
        exact (other state).2

/-- The facts of the accounting that hold of every entry. -/
theorem RefEntry.accounted_frame (r : RefId) (e : RefEntry) :
    (e.accounted r).settings = e.settings ∧ (e.accounted r).thisEpoch = e.nextEpoch ∧ (e.accounted r).nextEpoch = none
      ∧ (e.accounted r).offer = e.offer ∧ (e.accounted r).edges = e.edges ∧ (e.accounted r).waiting = e.waiting
      ∧ (e.accounted r).lastAge = e.lastAge ∧ (e.accounted r).ageRuns = e.ageRuns := by
  have epoch : (e.accountEpoch r).nextEpoch = e.nextEpoch ∧ (e.accountEpoch r).offer = e.offer ∧ (e.accountEpoch r).edges = e.edges
      ∧ (e.accountEpoch r).waiting = e.waiting ∧ (e.accountEpoch r).lastAge = e.lastAge
      ∧ (e.accountEpoch r).ageRuns = e.ageRuns := by
    by_cases absent : e.state = .absent
    · rw [RefEntry.accountEpoch_absent absent]; exact ⟨rfl, rfl, rfl, rfl, rfl, rfl⟩
    · by_cases lost : e.lost
      · rw [RefEntry.accountEpoch_lost lost]; exact ⟨rfl, rfl, rfl, rfl, rfl, rfl⟩
      · rw [RefEntry.accountEpoch_kept absent lost]; exact ⟨rfl, rfl, rfl, rfl, rfl, rfl⟩
  refine ⟨RefEntry.accounted_settings r e, ?_⟩
  unfold RefEntry.accounted
  rw [RefEntry.accountWindow_eq]
  obtain ⟨next, offer, edges, waiting, age, runs⟩ := epoch
  exact ⟨next, rfl, offer, edges, waiting, age, runs⟩

theorem RefEntry.accounted_absent (absent : e.state = .absent) :
    (e.accounted r).state = .absent ∧ (e.accounted r).missRun = e.missRun ∧ (e.accounted r).qualify = e.qualify
      ∧ (e.accounted r).lostLatch = e.lostLatch := by
  unfold RefEntry.accounted
  rw [RefEntry.accountEpoch_absent absent]
  have state : e.accountWindow.state = .absent ∧ e.accountWindow.qualify = e.qualify := by
    by_cases ends : e.windowEnds
    · obtain ⟨stays, -⟩ := e.windowClosed.windowReport_outcome
      rw [RefEntry.accountWindow_ended ends]
      exact ⟨(stays absent).1, (stays absent).2.2⟩
    · obtain ⟨state, -, qualify, -⟩ := RefEntry.accountWindow_unended ends
      exact ⟨state.trans absent, qualify⟩
  rw [RefEntry.accountWindow_eq]
  exact ⟨state.1, rfl, state.2, rfl⟩

/-- The entry that becomes ABSENT has no window for the accounting to go on with (R52). -/
theorem RefEntry.accounted_lost (lost : e.lost) : e.accounted r = (e.countMisses.enterAbsent r).nextAccount := by
  unfold RefEntry.accounted
  rw [RefEntry.accountEpoch_lost lost, RefEntry.accountWindow_none rfl]

/-- Without a window's end a present entry is as its epoch report left it. -/
theorem RefEntry.accounted_unended (present : e.state ≠ .absent) (kept : ¬ e.lost) (goes : ¬ e.windowEnds) :
    (e.accounted r).state = (e.accountEpoch r).state ∧ (e.accounted r).cause = e.cause
      ∧ (e.accounted r).qualify = (e.accountEpoch r).qualify ∧ (e.accounted r).outlierRun = e.outlierRun
      ∧ (e.accounted r).wf = e.wf ∧ (e.accounted r).q = e.q ∧ (e.accounted r).worstQ = e.worstQ := by
  have stays := RefEntry.accountEpoch_kept (r := r) present kept
  obtain ⟨state, cause, qualify, run, wf, q, worst⟩ :=
    RefEntry.accountWindow_unended (e := e.accountEpoch r) (by rw [RefEntry.windowEnds, stays]; exact goes)
  exact ⟨state, cause.trans (congrArg RefEntry.cause stays :), qualify, run.trans (congrArg RefEntry.outlierRun stays :),
    wf.trans (congrArg RefEntry.wf stays :), q.trans (congrArg RefEntry.q stays :), worst.trans (congrArg RefEntry.worstQ stays :)⟩

/-- A window that starts again, or goes on, in a present entry. -/
theorem RefEntry.accounted_window (present : e.state ≠ .absent) (kept : ¬ e.lost) :
    (e.windowRestart = true → e.windowEpochs.isSome = true → (e.accounted r).windowEpochs = some 0
        ∧ (e.accounted r).windowSum = e.aheadSum ∧ (e.accounted r).windowCount = e.aheadCount)
    ∧ (e.windowGoesOn → (e.accounted r).windowEpochs = e.windowEpochs.map (fun n => if e.windowAhead then n else n + 1)
        ∧ (e.accounted r).windowSum = min (e.windowSum + e.aheadSum) 4294967295
        ∧ (e.accounted r).windowCount = min (e.windowCount + e.aheadCount) 64) := by
  have stays := RefEntry.accountEpoch_kept (r := r) present kept
  unfold RefEntry.accounted
  refine ⟨fun restart running => ?_, fun ⟨n, running, noRestart, short⟩ => ?_⟩
  · obtain ⟨n, running⟩ := Option.isSome_iff_exists.mp running
    rw [RefEntry.accountWindow_restart (n := n) (by rw [stays]; exact running) (by rw [stays]; exact restart), stays]
    exact ⟨rfl, rfl, rfl⟩
  · rw [RefEntry.accountWindow_goesOn (n := n) (by rw [stays]; exact running) (by rw [stays]; exact noRestart)
      (by rw [stays]; exact short), stays, running]
    exact ⟨rfl, rfl, rfl⟩

/-- A present entry's accounting changes its states and figures, the window and the epochs. -/
theorem RefEntry.accounted_kept (present : e.state ≠ .absent) (kept : ¬ e.lost) :
    let a := e.accounted r
    a = { e with
      state := a.state, cause := a.cause, qualify := a.qualify, missRun := if e.thisEpoch.isSome then 0 else e.missRun + 1,
      wf := a.wf, q := a.q, worstQ := a.worstQ, windowSum := a.windowSum, windowCount := a.windowCount, aheadSum := a.aheadSum,
      aheadCount := a.aheadCount, windowEpochs := a.windowEpochs, windowAhead := a.windowAhead,
      windowRestart := a.windowRestart, outlierRun := a.outlierRun, thisEpoch := a.thisEpoch, nextEpoch := a.nextEpoch,
      epochAcceptable := shownAcceptable e.thisEpoch } := by
  dsimp only
  unfold RefEntry.accounted
  rw [RefEntry.accountWindow_eq, RefEntry.accountEpoch_kept present kept]
  rfl

end Accounted

/-! ### The accounting of the part -/

/-- Every entry accounted, in the order of the table. -/
def State.accountedAll (s : State) : State := RefId.all.foldl State.accountEntry s

/-- What the accounting of an entry, and so of all, leaves of the part. -/
theorem State.accountEntry_frame (s : State) (r : RefId) :
    (s.accountEntry r).tb = s.tb ∧ (s.accountEntry r).clock = s.clock ∧ (s.accountEntry r).published = s.published
      ∧ (s.accountEntry r).older = s.older ∧ (s.accountEntry r).stu = s.stu ∧ (s.accountEntry r).links = s.links
      ∧ (s.accountEntry r).atu = s.atu ∧ (s.accountEntry r).port = s.port ∧ (s.accountEntry r).pending = s.pending
      ∧ (s.accountEntry r).rm.inputA = s.rm.inputA ∧ (s.accountEntry r).rm.inputB = s.rm.inputB
      ∧ (s.accountEntry r).rm.clockA = s.rm.clockA ∧ (s.accountEntry r).rm.clockB = s.rm.clockB
      ∧ (s.accountEntry r).rm.parentPresent = s.rm.parentPresent := by
  unfold State.accountEntry
  simp [State.updEntry, State.changeEntry_rm]

theorem State.accountedAll_frame (s : State) :
    s.accountedAll.tb = s.tb ∧ s.accountedAll.clock = s.clock ∧ s.accountedAll.published = s.published
      ∧ s.accountedAll.older = s.older ∧ s.accountedAll.stu = s.stu ∧ s.accountedAll.links = s.links
      ∧ s.accountedAll.atu = s.atu ∧ s.accountedAll.port = s.port ∧ s.accountedAll.pending = s.pending
      ∧ s.accountedAll.rm.inputA = s.rm.inputA ∧ s.accountedAll.rm.inputB = s.rm.inputB
      ∧ s.accountedAll.rm.clockA = s.rm.clockA ∧ s.accountedAll.rm.clockB = s.rm.clockB
      ∧ s.accountedAll.rm.parentPresent = s.rm.parentPresent := by
  unfold State.accountedAll
  induction RefId.all generalizing s with
  | nil => exact ⟨rfl, rfl, rfl, rfl, rfl, rfl, rfl, rfl, rfl, rfl, rfl, rfl, rfl, rfl⟩
  | cons r rs ih =>
    obtain ⟨tb, clock, published, older, stu, links, atu, port, pending, inputA, inputB, clockA, clockB, present⟩ := s.accountEntry_frame r
    have rest := ih (s.accountEntry r)
    rw [tb, clock, published, older, stu, links, atu, port, pending, inputA, inputB, clockA, clockB, present] at rest
    exact rest

theorem State.accountedAll_entry (s : State) (r : RefId) : s.accountedAll.entry r = (s.entry r).accounted r := s.accounting_entry r

/-- The selector after the accounting: each entry's epoch report, then its window report, the entries in turn. -/
theorem State.accountedAll_sel (s : State) : s.accountedAll.sel
    = (RefId.all.foldl (fun u r => (u.moveEntry r (s.entry r).reportedState).moveEntry r (s.accountedAll.entry r).state) s).sel := by
  have moves := (State.SelectsAlike.accounting RefId.all (by decide) (.refl s)).2
  have step : (fun (u : State) r => (u.moveEntry r ((s.entry r).accountEpoch r).state).moveEntry r ((s.entry r).accounted r).state)
      = fun u r => (u.moveEntry r (s.entry r).reportedState).moveEntry r (s.accountedAll.entry r).state := by
    funext u r
    rw [RefEntry.accountEpoch_reported, State.accountedAll_entry]
  rw [step] at moves
  exact moves.symm

/-- Settles O21: every entry by its own two reports and the epoch that follows, the selector by the moves of the states. -/
theorem epochAccounting : Obligations.EpochAccounting := by
  intro s
  obtain ⟨tb, clock, published, older, stu, links, atu, port, pending, inputA, inputB, clockA, clockB, present⟩ := s.accountedAll_frame
  have entries := s.accountedAll_entry
  have moves := s.accountedAll_sel
  have runs : exec .rmEpochAccounting s
      = .next { s.accountedAll with rm := { s.accountedAll.rm with accounted := s.accountedAll.clock.boundaries } } := rfl
  rw [runs]
  generalize s.accountedAll = u at *
  refine ⟨_, rfl, (congrArg Clock.boundaries clock :), tb, clock, published, older, stu, links, atu, port, pending, inputA, inputB,
    clockA, clockB, present, moves, fun r => ?entry⟩
  case entry =>
    have entry : State.entry { u with rm := { u.rm with accounted := u.clock.boundaries } } r = (s.entry r).accounted r := entries r
    dsimp only
    rw [entry]
    generalize s.entry r = e
    obtain ⟨settings, this, next, offer, edges, waiting, age, runs⟩ := RefEntry.accounted_frame r e
    refine ⟨settings, this, next, offer, edges, waiting, age, runs, RefEntry.accounted_absent, fun lost => ?lost,
      fun present kept => ?kept⟩
    case lost =>
      rw [RefEntry.accounted_lost lost]
      exact ⟨rfl, rfl, rfl, rfl, rfl, rfl, rfl, rfl, rfl, rfl, rfl, rfl, rfl, rfl, rfl, rfl⟩
    case kept =>
      have stays := RefEntry.accounted_kept (r := r) present kept
      have misses : (e.accounted r).missRun = if e.thisEpoch.isSome then 0 else e.missRun + 1 := (congrArg RefEntry.missRun stays :)
      have shown : (e.accounted r).epochAcceptable = shownAcceptable e.thisEpoch := (congrArg RefEntry.epochAcceptable stays :)
      obtain ⟨counts, missed, bad, other⟩ := RefEntry.accountEpoch_outcome (r := r) present kept
      obtain ⟨restarts, goesOn⟩ := RefEntry.accounted_window (r := r) present kept
      refine ⟨(congrArg RefEntry.lastSample stays :), (congrArg RefEntry.base stays :), (congrArg RefEntry.declared stays :),
        (congrArg RefEntry.lostLatch stays :), fun had => misses.trans (if_pos had), fun none => misses.trans (by rw [none]; rfl),
        ?fields, ?cleared, ?shown, ?runZero, ?runKept, ?goesOn, ?restarts, ?unended, ?ended⟩
      case fields => rw [misses, shown]; exact stays
      case cleared =>
        intro running
        have epoch := RefEntry.accountEpoch_kept (r := r) present kept
        exact RefEntry.accountWindow_cleared (e := e.accountEpoch r) (by rw [epoch]; exact running)
      case shown => rw [shown]; exact shownAcceptable_iff
      case runZero =>
        intro ends low entered
        obtain ⟨-, -, -, -, -, runZero, -⟩ := RefEntry.accounted_ended (r := r) present kept ends
        exact runZero (RefEntry.accountEpoch_entered present kept entered) low
      case runKept =>
        intro stay
        by_cases ends : e.windowEnds
        · obtain ⟨-, -, -, -, -, -, runKept⟩ := RefEntry.accounted_ended (r := r) present kept ends
          refine runKept ?_
          by_cases out : e.state = .disqualified
          · exact .inl (by rw [RefEntry.accountEpoch_state present kept |>.2 (by rw [out]; decide), out])
          · exact .inr (not_lt.mp fun low => stay ⟨ends, low, out⟩)
        · exact (RefEntry.accounted_unended present kept ends).2.2.2.1
      case goesOn =>
        intro goes
        obtain ⟨-, cause, -, -, wf, q, worst⟩ := RefEntry.accounted_unended (r := r) present kept (RefEntry.windowGoesOn.unended goes)
        exact ⟨wf, q, worst, cause, goesOn goes⟩
      case restarts =>
        intro restart running
        have unended : ¬ e.windowEnds := fun ⟨_, _, noRestart, _⟩ => absurd (restart.symm.trans noRestart) (by decide)
        obtain ⟨-, cause, -, -, wf, q, worst⟩ := RefEntry.accounted_unended (r := r) present kept unended
        exact ⟨wf, q, worst, cause, restarts restart running⟩
      case unended =>
        intro unended
        obtain ⟨state, -, qualify, -⟩ := RefEntry.accounted_unended (r := r) present kept unended
        rw [state, qualify]
        exact ⟨fun ⟨qualifying, good⟩ => counts qualifying good, missed, bad, other⟩
      case ended =>
        intro ends
        obtain ⟨⟨wf, q, worst, epochs, sum, count⟩, below, above, returns, remains, -⟩ :=
          RefEntry.accounted_ended (r := r) present kept ends
        have entered := RefEntry.accountEpoch_entered (r := r) present kept
        have counter (notOut : e.state ≠ .disqualified) : (e.accounted r).qualify = (e.accountEpoch r).qualify := by
          rcases lt_or_ge (newQuality e.settings e.windowCount e.windowFigure e.q) e.settings.floor with low | good
          · exact (below low).2.2
          · exact (above (entered notOut) good).2.2
        have qualifyingIn (state : e.state = .qualifying) : e.state ≠ .disqualified := by rw [state]; decide
        have qualifiedIn (state : e.state = .qualified) : e.state ≠ .disqualified := by rw [state]; decide
        have out (state : e.state = .disqualified) : (e.accountEpoch r).state = .disqualified ∧ (e.accountEpoch r).qualify = e.qualify := by
          have := other (by rw [state]; decide)
          exact ⟨this.2.trans state, this.1⟩
        refine ⟨wf, q, worst, epochs, sum, count, fun low => ⟨(below low).1, (below low).2.1⟩, ?counted, ?poor, ?stands, ?cause,
          ?counter, ?missed, ?bad, ?same, ?outKept, ?returns, ?remains⟩
        case counted =>
          intro high ⟨state, good⟩
          exact (above (entered (qualifyingIn state)) high).1.trans (counts state good).2
        case poor =>
          intro high state bad'
          refine (above (entered (qualifyingIn state)) high).1.trans ?_
          by_cases had : e.thisEpoch = none
          · exact (missed state had).2
          · exact (bad state (Option.isSome_iff_ne_none.mpr had) bad').2
        case stands =>
          intro high state
          exact (above (entered (qualifiedIn state)) high).1.trans ((other (by rw [state]; decide)).2.trans state)
        case cause =>
          intro high state
          exact (above (entered (state.elim qualifyingIn qualifiedIn)) high).2.1
        case counter => exact fun ⟨state, good⟩ => (counter (qualifyingIn state)).trans (counts state good).1
        case missed => exact fun state none => (counter (qualifyingIn state)).trans (missed state none).1
        case bad => exact fun state had notGood => (counter (qualifyingIn state)).trans (bad state had notGood).1
        case same => exact fun state => (counter (qualifiedIn state)).trans (other (by rw [state]; decide)).1
        case outKept =>
          intro state stay
          refine Eq.trans ?_ (out state).2
          rcases lt_or_ge (newQuality e.settings e.windowCount e.windowFigure e.q) e.settings.floor with low | high
          · exact (below low).2.2
          · have hidden : shownAcceptable e.thisEpoch = false :=
              Bool.eq_false_iff.mpr fun shown => stay ⟨high, shownAcceptable_iff.mp shown⟩
            exact (remains (out state).1 high hidden).2.2
        case returns =>
          intro high state acceptable
          obtain ⟨now, cause, counter⟩ := returns (out state).1 high (shownAcceptable_iff.mpr acceptable)
          exact ⟨now, counter, cause⟩
        case remains =>
          intro high state notAcceptable
          have hidden : shownAcceptable e.thisEpoch = false :=
            Bool.eq_false_iff.mpr fun shown => notAcceptable (shownAcceptable_iff.mp shown)
          obtain ⟨now, cause, -⟩ := remains (out state).1 high hidden
          exact ⟨now, cause⟩

end Sys2Proof.Machine
end

section
/-! PROOF. The site table's requests: creation, ENROL results, the lifecycle requests and the lookups. -/

namespace Sys2Proof.Machine

open Sys2Proof

/-! ### Ranges and indices -/

theorem inRange_iff {lo hi v : Nat} : inRange lo hi v = true ↔ lo ≤ v ∧ v ≤ hi := decide_eq_true_iff

theorem LinkId.exists_index {n : Nat} (h : n ≤ 5) : ∃ l : LinkId, l.index = n := by
  interval_cases n
  · exact ⟨.l0, rfl⟩
  · exact ⟨.l1, rfl⟩
  · exact ⟨.l2, rfl⟩
  · exact ⟨.l3, rfl⟩
  · exact ⟨.l4, rfl⟩
  · exact ⟨.l5, rfl⟩

/-! ### Creation (R69 to R74) -/

/-- A drop map entry that a new record fills, and the others. -/
theorem SiteTable.addRecord_dropEntry {t : SiteTable} {r : SiteRecord} (drop : 1 ≤ r.drop)
    (within : r.drop ≤ (t.dropMaps.get r.link).length) :
    (t.addRecord r).dropEntry r.link r.drop = some r.handle
      ∧ ∀ m d, 1 ≤ d → ¬ (m = r.link ∧ d = r.drop) → (t.addRecord r).dropEntry m d = t.dropEntry m d :=
  ⟨SiteTable.dropEntry_set_same t r.link r.drop (some r.handle) drop within,
    fun m d first other => SiteTable.dropEntry_set_other t r.link m r.drop d (some r.handle) drop first other⟩

section Create

variable {siteId drop : Nat} {l : LinkId} {s : State}

theorem createSite_role (role : (s.link l).role ≠ .serve) : createSite siteId l drop s = (s, .role, []) := if_pos role

theorem createSite_duplicate (role : (s.link l).role = .serve) (known : (s.stu.handleOf siteId).isSome = true) :
    createSite siteId l drop s = (s, .duplicate, []) := by
  rw [createSite, if_neg (not_not.mpr role), if_pos known]

theorem createSite_conflict (role : (s.link l).role = .serve) (unknown : s.stu.handleOf siteId = none)
    (taken : (s.stu.dropEntry l drop).isSome = true) : createSite siteId l drop s = (s, .conflict, []) := by
  rw [createSite, if_neg (not_not.mpr role), if_neg (by simp [unknown]), if_pos taken]

theorem createSite_full (role : (s.link l).role = .serve) (unknown : s.stu.handleOf siteId = none)
    (vacant : s.stu.dropEntry l drop = none) (full : s.stu.freeHandles = []) : createSite siteId l drop s = (s, .full, []) := by
  rw [createSite, if_neg (not_not.mpr role), if_neg (by simp [unknown]), if_neg (by simp [vacant])]
  simp only [full]

theorem createSite_ok {h : Nat} {rest : List Nat} (role : (s.link l).role = .serve) (unknown : s.stu.handleOf siteId = none)
    (vacant : s.stu.dropEntry l drop = none) (free : s.stu.freeHandles = h :: rest) :
    createSite siteId l drop s = (s.createRecord h siteId l drop none, .ok, [natItem 1 h]) := by
  rw [createSite, if_neg (not_not.mpr role), if_neg (by simp [unknown]), if_neg (by simp [vacant])]
  simp only [free]

theorem exec_siteCreate_range {tag link : Nat} (idle : s.port.state = .idle)
    (bad : ¬ (siteId ≠ 0 ∧ link ≤ 5 ∧ 1 ≤ drop ∧ drop ≤ 15)) :
    exec (.siteCreate tag siteId link drop) s = .next (s.respond tag .range []) := by
  show Host.Outcome.next (request tag _ s) = _
  rw [request_idle idle]
  by_cases within : link ≤ 5
  · obtain ⟨l, rfl⟩ := LinkId.exists_index within
    rw [LinkId.ofIndex_index]
    dsimp only
    rw [if_pos]
    by_contra good
    obtain ⟨siteId, drop⟩ := not_or.mp good
    exact bad ⟨siteId, within, inRange_iff.mp (Bool.not_eq_false _ ▸ drop)⟩
  · rw [LinkId.ofIndex_none (by omega)]

theorem exec_siteCreate_within {tag : Nat} (idle : s.port.state = .idle) (id : siteId ≠ 0) (within : 1 ≤ drop ∧ drop ≤ 15) :
    exec (.siteCreate tag siteId l.index drop) s = .next ((createSite siteId l drop s).1.respond tag
      (createSite siteId l drop s).2.1 (createSite siteId l drop s).2.2) := by
  show Host.Outcome.next (request tag _ s) = _
  rw [request_idle idle, LinkId.ofIndex_index]
  dsimp only
  rw [if_neg]
  rintro (zero | out)
  · exact id zero
  · exact absurd (inRange_iff.mpr within) (by rw [Bool.not_eq_true]; exact out)

end Create

/-- Settles O27: the tests of R74 in turn, and the record made. -/
theorem siteCreateOutcome : Obligations.SiteCreateOutcome := by
  intro tag siteId link drop s idle
  refine ⟨exec_siteCreate_range idle, fun l isLink ⟨id, _, within⟩ => ?_⟩
  subst isLink
  rw [exec_siteCreate_within idle id within]
  refine ⟨fun role => ?_, fun role known => ?_, fun role unknown taken => ?_, fun role unknown vacant full => ?_,
    fun h rest role unknown vacant free size => ?_⟩
  · rw [createSite_role role]
  · rw [createSite_duplicate role known]
  · rw [createSite_conflict role unknown taken]
  · rw [createSite_full role unknown vacant full]
  · rw [createSite_ok role unknown vacant free]
    obtain ⟨filled, others⟩ := SiteTable.addRecord_dropEntry (t := s.stu)
      (r := SiteRecord.new h siteId l drop none s.stu.provisionalTimeout) within.1 (within.2.trans size.ge)
    refine ⟨s.createRecord h siteId l drop none, rfl, rfl, rfl, fun r => ?_, fun p => ?_, fun k => ?_, filled, others⟩
    · exact SiteTable.mem_addRecord.trans or_comm
    · exact (mem_insertPair (siteId, h) p s.stu.index).trans or_comm
    · show k ∈ s.stu.freeHandles.filter (fun j => j != h) ↔ _
      simp

/-! ### ENROL results (R75, R76) -/

section Enrol

variable {l : LinkId} {e : EnrolResult} {s : State}

theorem State.decideEnrol_known {r : SiteRecord} (known : (s.stu.handleOf e.siteId).bind s.record? = some r)
    (here : r.link = l ∧ r.drop = e.drop) :
    s.decideEnrol l e = s.updRecord r.handle (SiteRecord.refresh e.capability s.stu.provisionalTimeout) := by
  simp only [State.decideEnrol, known]
  exact if_pos here

theorem State.decideEnrol_elsewhere {r : SiteRecord} (known : (s.stu.handleOf e.siteId).bind s.record? = some r)
    (elsewhere : ¬ (r.link = l ∧ r.drop = e.drop)) : s.decideEnrol l e = s.updLink l Link.countConflict := by
  simp only [State.decideEnrol, known]
  exact if_neg elsewhere

theorem State.decideEnrol_taken (unknown : (s.stu.handleOf e.siteId).bind s.record? = none)
    (taken : (s.stu.dropEntry l e.drop).isSome = true) : s.decideEnrol l e = s.updLink l Link.countConflict := by
  simp only [State.decideEnrol, unknown]
  exact if_pos taken

theorem State.decideEnrol_full (unknown : (s.stu.handleOf e.siteId).bind s.record? = none)
    (vacant : s.stu.dropEntry l e.drop = none) (full : s.stu.freeHandles = []) :
    s.decideEnrol l e = s.updLink l Link.countRefused := by
  simp [State.decideEnrol, unknown, vacant, full]

theorem State.decideEnrol_new {h : Nat} {rest : List Nat} (unknown : (s.stu.handleOf e.siteId).bind s.record? = none)
    (vacant : s.stu.dropEntry l e.drop = none) (free : s.stu.freeHandles = h :: rest) :
    s.decideEnrol l e = s.createRecord h e.siteId l e.drop (some e.capability) := by
  simp [State.decideEnrol, unknown, vacant, free]

end Enrol

/-- ENROL_RESULT takes the next result of the link, and decides it in SERVE role. -/
theorem exec_enrolResult {l : LinkId} {s : State} {e : EnrolResult} {rest : List EnrolResult} (next : (s.link l).toStu = e :: rest) :
    exec (.enrolResult l) s = .next (if (s.link l).role ≠ .serve then (s.updLink l (fun k => { k with toStu := rest })).updLink l
      Link.countRefused else (s.updLink l (fun k => { k with toStu := rest })).decideEnrol l e) := by
  show execEnrolResult l s = _
  simp only [execEnrolResult, next, State.updLink_link_same]

/-- Settles O28, by the role, what the site ID names, the drop and the free handles. -/
theorem enrolResultOutcome : Obligations.EnrolResultOutcome := by
  intro l s
  refine ⟨fun empty => ?_, fun e rest next => ?_⟩
  · show execEnrolResult l s = _
    simp only [execEnrolResult, empty]
  · rw [exec_enrolResult next]
    refine ⟨fun role => ?_, fun r role known here => ?_, fun r role known elsewhere => ?_, fun role unknown taken => ?_,
      fun role unknown vacant full => ?_, fun h more role unknown vacant free => ?_⟩
    · rw [if_pos role]; rfl
    · rw [if_neg (not_not.mpr role)]; exact congrArg Host.Outcome.next (State.decideEnrol_known known here)
    · rw [if_neg (not_not.mpr role)]; exact congrArg Host.Outcome.next (State.decideEnrol_elsewhere known elsewhere)
    · rw [if_neg (not_not.mpr role)]; exact congrArg Host.Outcome.next (State.decideEnrol_taken unknown taken)
    · rw [if_neg (not_not.mpr role)]; exact congrArg Host.Outcome.next (State.decideEnrol_full unknown vacant full)
    · rw [if_neg (not_not.mpr role)]; exact congrArg Host.Outcome.next (State.decideEnrol_new unknown vacant free)

/-! ### Suspension, resumption and retirement (R84 to R87) -/

section Lifecycle

variable {tag h : Nat} {s : State} {r : SiteRecord}

theorem exec_siteSuspend (idle : s.port.state = .idle) (found : s.record? h = some r) :
    exec (.siteSuspend tag h) s = .next (if r.lifecycle ≠ .active then s.respond tag .badState []
      else if r.protectedFlag = true then s.respond tag .protectedField [] else (s.updRecord h SiteRecord.suspend).respond tag .ok []) := by
  show Host.Outcome.next (request tag _ s) = _
  rw [request_idle idle]
  simp only [found]
  (repeat' split) <;> rfl

theorem exec_siteResume (idle : s.port.state = .idle) (found : s.record? h = some r) :
    exec (.siteResume tag h) s = .next (if r.lifecycle ≠ .suspended then s.respond tag .badState []
      else (s.updRecord h (fun q => { q with lifecycle := .active })).respond tag .ok []) := by
  show Host.Outcome.next (request tag _ s) = _
  rw [request_idle idle]
  simp only [found]
  split <;> rfl

theorem exec_siteRetire (idle : s.port.state = .idle) (found : s.record? h = some r) (now : Bool) :
    exec (.siteRetire tag h now) s
      = .next ((retireRecord now r s).1.respond tag (retireRecord now r s).2.1 (retireRecord now r s).2.2) := by
  show Host.Outcome.next (request tag _ s) = _
  rw [request_idle idle]
  simp only [found]

theorem retireRecord_protected (now : Bool) (guarded : r.protectedFlag = true) : retireRecord now r s = (s, .protectedField, []) :=
  if_pos guarded

/-- A PROVISIONAL record, and any with the now flag, is removed at once (R86, R87). -/
theorem retireRecord_now {now : Bool} (open' : r.protectedFlag = false) (atOnce : r.lifecycle = .provisional ∨ now = true) :
    retireRecord now r s = (s.removeRecord r, .ok, []) := by
  rw [retireRecord, if_neg (by rw [open']; decide)]
  rcases atOnce with state | now
  · simp only [state]
  · subst now
    cases r.lifecycle <;> rfl

theorem retireRecord_again (open' : r.protectedFlag = false) (state : r.lifecycle = .retiring) :
    retireRecord false r s = (s, .accepted, []) := by
  rw [retireRecord, if_neg (by rw [open']; decide)]
  simp only [state]
  rfl

theorem retireRecord_queued (open' : r.protectedFlag = false) (state : r.lifecycle = .active ∨ r.lifecycle = .suspended) :
    retireRecord false r s = (s.queueRetire r, .accepted, []) := by
  rw [retireRecord, if_neg (by rw [open']; decide)]
  rcases state with state | state <;> simp only [state] <;> rfl

end Lifecycle

/-- Settles O31, by the record found, its lifecycle and its protected flag. -/
theorem siteLifecycleOutcome : Obligations.SiteLifecycleOutcome := by
  intro tag h s idle
  refine ⟨fun none => ⟨?_, ?_, fun now => ?_⟩, fun r found => ?found⟩
  · show Host.Outcome.next (request tag _ s) = _
    rw [request_idle idle]; simp only [none]
  · show Host.Outcome.next (request tag _ s) = _
    rw [request_idle idle]; simp only [none]
  · show Host.Outcome.next (request tag _ s) = _
    rw [request_idle idle]; simp only [none]
  case found =>
    have handle : r.handle = h := (State.record?_some found).2
    simp only [exec_siteSuspend idle found, exec_siteResume idle found, exec_siteRetire idle found]
    refine ⟨fun state => ?_, fun state guarded => ?_, fun state open' => ?_, fun state => ?_, fun state => ?_, fun now guarded => ?_,
      fun now open' atOnce => ?_, fun open' state => ?_, fun open' state => ?_⟩
    · rw [if_pos state]
    · rw [if_neg (not_not.mpr state), if_pos guarded]
    · rw [if_neg (not_not.mpr state), if_neg (by rw [open']; decide)]; rfl
    · rw [if_pos state]
    · rw [if_neg (not_not.mpr state)]
    · rw [retireRecord_protected now guarded]
    · rw [retireRecord_now open' atOnce]
    · rw [retireRecord_again open' state]
    · rw [retireRecord_queued open' state, ← handle]; rfl

/-! ### Lookups (R91 to R93) -/

/-- The answer of a lookup: the body of the record found, or NO_RECORD. -/
def State.answerBody (s : State) (tag : Nat) : Option SiteRecord → State
  | some q => s.respond tag .ok q.items
  | none => s.respond tag .noRecord []

theorem bodyOf_respond (s : State) (tag : Nat) (r : Option SiteRecord) :
    (bodyOf s r).1.respond tag (bodyOf s r).2.1 (bodyOf s r).2.2 = s.answerBody tag r := by cases r <;> rfl

section Lookup

variable {tag : Nat} {s : State}

theorem exec_siteLookup_handle (idle : s.port.state = .idle) (h : Nat) :
    exec (.siteLookup tag (.byHandle h)) s = .next (s.answerBody tag (s.record? h)) := by
  show Host.Outcome.next (request tag _ s) = _
  rw [request_idle idle, bodyOf_respond]

theorem exec_siteLookup_siteId (idle : s.port.state = .idle) (i : Nat) :
    exec (.siteLookup tag (.bySiteId i)) s = .next (s.answerBody tag ((s.stu.handleOf i).bind s.record?)) := by
  show Host.Outcome.next (request tag _ s) = _
  rw [request_idle idle, bodyOf_respond]

theorem exec_siteLookup_drop (idle : s.port.state = .idle) (link d : Nat) :
    exec (.siteLookup tag (.byLinkDrop link d)) s = .next (s.answerBody tag (s.atLinkDrop link d)) := by
  show Host.Outcome.next (request tag _ s) = _
  rw [request_idle idle, bodyOf_respond]

theorem exec_siteNext (idle : s.port.state = .idle) (cursor : Nat) : exec (.siteNext tag cursor) s
    = .next (s.answerBody tag ((s.stu.index.find? (fun p => decide (cursor < p.1))).bind (fun p => s.record? p.2))) := by
  show Host.Outcome.next (request tag _ s) = _
  rw [request_idle idle, bodyOf_respond]

theorem State.atLinkDrop_none {link d : Nat} (out : 6 ≤ link ∨ d = 0) : s.atLinkDrop link d = none := by
  rcases out with beyond | zero
  · simp only [State.atLinkDrop, LinkId.ofIndex_none beyond]
  · subst zero
    unfold State.atLinkDrop
    cases LinkId.ofIndex link <;> rfl

theorem State.atLinkDrop_index (l : LinkId) {d : Nat} (first : 1 ≤ d) :
    s.atLinkDrop l.index d = (s.stu.dropEntry l d).bind s.record? := by
  have present : (d == 0) = false := by rw [beq_eq_false_iff_ne]; omega
  simp only [State.atLinkDrop, LinkId.ofIndex_index, State.recordAtDrop?, present, Bool.false_eq_true, if_false]
  show _ = (((s.stu.dropMaps.get l)[d - 1]?).join).bind s.record?
  cases ((s.stu.dropMaps.get l)[d - 1]?).join <;> rfl

end Lookup

/-- The record body, field by field in the order of its tables (R91). -/
theorem SiteRecord.items_eq (q : SiteRecord) : q.items =
    [natItem 1 q.handle, natItem 4 q.siteId, natItem 1 q.link.index, natItem 1 q.drop, natItem 1 q.lifecycle.code,
      optNat 1 (q.cls.map SiteClass.code), optNat 2 q.budget, optNat 1 q.rate, optNat 1 q.slotBase,
      optNat 1 (q.ackMode.map AckMode.code), optNat 1 q.window, natItem 1 q.groups.toNat, .flag q.protectedFlag, .flag q.squelch,
      .flag q.autoComp, optNat 1 (q.capability.map Capability.code), optNat 1 q.expiry, natItem 1 q.condition.code,
      optNat 1 (q.pending.cls.map SiteClass.code), optNat 2 q.pending.budget, optNat 1 q.pending.rate,
      optNat 1 q.pending.slotBase, optNat 1 (q.pending.ackMode.map AckMode.code), optNat 1 q.pending.window,
      optInt q.pending.compensation, .optFlag q.pending.squelch, intItem q.compensation, natItem 1 q.exchanges.length,
      natItem 1 q.missRun, natItem 1 q.silence.code, natItem 2 q.sent, natItem 2 q.onTime, natItem 2 q.late, natItem 2 q.missed,
      optNat 4 q.lastRoundTrip, .flag q.serviceStarted] := rfl

/-- Settles O33: each lookup's answer by what it finds, and the counts taken. -/
theorem siteReadsOutcome : Obligations.SiteReadsOutcome := by
  intro tag s idle
  refine ⟨fun q => ?items, fun h => ?handle, fun i => ?siteId, fun link d out => ?outside, fun l d first => ?drop, fun f => ?other,
    fun cursor below => ?none, fun cursor before p after split below above => ?next, fun h absent => ?noRecord,
    fun h r found => ?counts⟩
  case items =>
    rw [SiteRecord.items_eq]
    cases q.lifecycle <;> cases q.condition <;> cases q.silence <;> rfl
  case handle => refine (exec_siteLookup_handle idle h).trans ?_; cases s.record? h <;> rfl
  case siteId => refine (exec_siteLookup_siteId idle i).trans ?_; cases (s.stu.handleOf i).bind s.record? <;> rfl
  case outside => exact (exec_siteLookup_drop idle link d).trans (by rw [State.atLinkDrop_none out]; rfl)
  case drop =>
    refine (exec_siteLookup_drop idle l.index d).trans ?_
    rw [State.atLinkDrop_index l first]
    cases (s.stu.dropEntry l d).bind s.record? <;> rfl
  case other =>
    show Host.Outcome.next (request tag _ s) = _
    rw [request_idle idle]
  case none =>
    have last : s.stu.index.find? (fun p => decide (cursor < p.1)) = none := by
      rw [List.find?_eq_none]
      exact fun p m => by simpa using below p m
    exact (exec_siteNext idle cursor).trans (by rw [last]; rfl)
  case next =>
    have first : s.stu.index.find? (fun p => decide (cursor < p.1)) = some p := by
      rw [split, List.find?_append, List.find?_eq_none.mpr fun q m => by simpa using below q m]
      simp [above]
    refine (exec_siteNext idle cursor).trans ?_
    rw [first]
    show Host.Outcome.next (s.answerBody tag (s.record? p.2)) = _
    cases s.record? p.2 <;> rfl
  case noRecord =>
    show Host.Outcome.next (request tag _ s) = _
    rw [request_idle idle]; simp only [absent]
  case counts =>
    show Host.Outcome.next (request tag _ s) = _
    rw [request_idle idle]; simp only [found]; rfl

end Sys2Proof.Machine
end

section
/-! PROOF. The epoch plan's blocks, and admission. -/

namespace Sys2Proof.Machine

open Sys2Proof

/-! ### Blocks of slots (R101, R103) -/

theorem inBlock_iff {base rate k : Nat} : inBlock base rate k = true ↔ base ≤ k ∧ k < base + rate := decide_eq_true_iff

theorem inBlock_false {base rate k : Nat} : inBlock base rate k = false ↔ ¬ (base ≤ k ∧ k < base + rate) := decide_eq_false_iff_not

theorem usableBy_iff {h : Nat} {e : SlotEntry} : usableBy h e = true ↔ e = .free ∨ e = .held h ∨ e = .reserved h := by
  simp [usableBy, or_assoc]

/-- A block inside the map passes where each of its slots does. -/
theorem blockPasses_iff {test : SlotEntry → Bool} {base rate : Nat} {slots : List SlotEntry} (within : base + rate ≤ slots.length) :
    blockPasses test base rate slots = true ↔ ∀ k, base ≤ k → k < base + rate → test (slotAt slots k) = true := by
  rw [blockPasses, List.all_eq_true]
  constructor
  · intro all k low high
    have here : slots[k]? = some slots[k] := List.getElem?_eq_getElem (by omega)
    rw [slotAt, here]
    refine all _ (List.mem_iff_getElem?.mpr ⟨k - base, ?_⟩)
    rw [List.getElem?_take_of_lt (by omega), List.getElem?_drop, show base + (k - base) = k by omega, here]
    rfl
  · intro all e m
    obtain ⟨i, at'⟩ := List.mem_iff_getElem?.mp m
    have short : i < rate := by
      by_contra long
      rw [List.getElem?_eq_none (by rw [List.length_take]; omega)] at at'
      exact absurd at' (by simp)
    rw [List.getElem?_take_of_lt short, List.getElem?_drop] at at'
    have := all (base + i) (by omega) (by omega)
    rwa [slotAt, at'] at this

/-- The aligned bases of a rate below the effective split, in ascending order. -/
def Link.bases (l : Link) (rate : Nat) : List Nat := (List.range (l.effectiveSplit / rate)).map (fun i => i * rate)

theorem Link.mem_bases {l : Link} {rate b : Nat} (rated : 0 < rate) : b ∈ l.bases rate ↔ b % rate = 0 ∧ b + rate ≤ l.effectiveSplit := by
  have below (i : Nat) : i < l.effectiveSplit / rate ↔ i * rate + rate ≤ l.effectiveSplit := by
    rw [Nat.lt_iff_add_one_le, Nat.le_div_iff_mul_le rated, Nat.add_mul, Nat.one_mul]
  simp only [Link.bases, List.mem_map, List.mem_range]
  constructor
  · rintro ⟨i, inside, rfl⟩
    exact ⟨Nat.mul_mod_left i rate, (below i).mp inside⟩
  · rintro ⟨aligned, inside⟩
    have is : b / rate * rate = b := Nat.div_mul_cancel (Nat.dvd_of_mod_eq_zero aligned)
    exact ⟨b / rate, (below _).mpr (by rw [is]; exact inside), is⟩

theorem Link.bases_ascend (l : Link) {rate : Nat} (rated : 0 < rate) : (l.bases rate).Pairwise (· < ·) :=
  List.pairwise_lt_range.map _ fun _ _ lower => Nat.mul_lt_mul_of_pos_right lower rated

section Place

variable {l : Link} {test : SlotEntry → Bool} {rate b : Nat}

theorem Link.placeBlock_align (unaligned : b % rate ≠ 0) : l.placeBlock test rate (.explicit b) = .error .align := if_pos unaligned

theorem Link.placeBlock_region (aligned : b % rate = 0) (beyond : l.effectiveSplit < b + rate) :
    l.placeBlock test rate (.explicit b) = .error .region := by
  rw [Link.placeBlock, if_neg (not_not.mpr aligned), if_pos beyond]

theorem Link.placeBlock_conflict (aligned : b % rate = 0) (inside : b + rate ≤ l.effectiveSplit)
    (taken : ¬ blockPasses test b rate l.slots = true) : l.placeBlock test rate (.explicit b) = .error .conflict := by
  rw [Link.placeBlock, if_neg (not_not.mpr aligned), if_neg (not_lt.mpr inside), if_neg taken]

theorem Link.placeBlock_ok (aligned : b % rate = 0) (inside : b + rate ≤ l.effectiveSplit)
    (passes : blockPasses test b rate l.slots = true) : l.placeBlock test rate (.explicit b) = .ok b := by
  rw [Link.placeBlock, if_neg (not_not.mpr aligned), if_neg (not_lt.mpr inside), if_pos passes]

/-- "Any" takes the lowest base that passes. -/
theorem Link.placeBlock_any (rated : 0 < rate) (base : b ∈ l.bases rate) (passes : blockPasses test b rate l.slots = true)
    (lowest : ∀ c ∈ l.bases rate, blockPasses test c rate l.slots = true → b ≤ c) : l.placeBlock test rate .any = .ok b := by
  have found : l.lowestBase test rate = some b := by
    show (l.bases rate).find? (fun b => blockPasses test b rate l.slots) = some b
    have ascend := l.bases_ascend rated
    obtain ⟨before, after, split⟩ := List.append_of_mem base
    rw [split] at ascend lowest ⊢
    rw [List.find?_eq_some_iff_append]
    refine ⟨passes, before, after, rfl, fun c m => ?_⟩
    rw [Bool.not_eq_true']
    refine Bool.eq_false_iff.mpr fun also => ?_
    have lower : c < b := (List.pairwise_append.mp ascend).2.2 c m b List.mem_cons_self
    exact absurd (lowest c (List.mem_append_left _ m) also) (not_le.mpr lower)
  simp only [Link.placeBlock, found]

theorem Link.placeBlock_noSlots (nowhere : ∀ c ∈ l.bases rate, ¬ blockPasses test c rate l.slots = true) :
    l.placeBlock test rate .any = .error .noSlots := by
  have found : l.lowestBase test rate = none := List.find?_eq_none.mpr nowhere
  simp only [Link.placeBlock, found]

end Place

/-! ### What a claim, a reservation and a swap make of a slot -/

section Slots

variable {h base rate k : Nat} {slots : List SlotEntry}

theorem slotAt_claimSlots (within : k < slots.length) :
    slotAt (claimSlots h base rate slots) k = if inBlock base rate k = true then .held h else slotAt slots k :=
  slotAt_mapSlots _ _ _ within

theorem slotAt_reserveSlots (within : k < slots.length) : slotAt (reserveSlots h base rate slots) k =
    if inBlock base rate k = true then (if slotAt slots k = .held h then slotAt slots k else .reserved h)
    else if slotAt slots k = .reserved h then .free else slotAt slots k :=
  slotAt_mapSlots _ _ _ within

end Slots

/-- Settles O29: the placement test by test, then each change of the map slot by slot. -/
theorem blockPlacement : Obligations.BlockPlacement := by
  refine ⟨fun l test rate rated size split => ?place, fun l => ?effective, fun h e => usableBy_iff,
    fun h base rate k slots size within => ?slots⟩
  case place =>
    have passes {b : Nat} (inside : b + rate ≤ l.effectiveSplit) := blockPasses_iff (test := test) (base := b) (rate := rate)
      (slots := l.slots) (by omega)
    refine ⟨fun b => Link.placeBlock_align, fun b => Link.placeBlock_region,
      fun b aligned inside taken => Link.placeBlock_conflict aligned inside (mt (passes inside).mp taken),
      fun b ⟨aligned, inside, pass⟩ => Link.placeBlock_ok aligned inside ((passes inside).mpr pass),
      fun b ⟨aligned, inside, pass⟩ lowest => ?_, fun nowhere => ?_⟩
    · refine Link.placeBlock_any rated ((Link.mem_bases rated).mpr ⟨aligned, inside⟩) ((passes inside).mpr pass) fun c m also => ?_
      obtain ⟨aligned, inside⟩ := (Link.mem_bases rated).mp m
      exact lowest c ⟨aligned, inside, (passes inside).mp also⟩
    · refine Link.placeBlock_noSlots fun c m also => ?_
      obtain ⟨aligned, inside⟩ := (Link.mem_bases rated).mp m
      exact nowhere c ⟨aligned, inside, (passes inside).mp also⟩
  case effective => rfl
  case slots =>
    dsimp only
    rw [slotAt_claimSlots (by omega), slotAt_reserveSlots (by omega), slotAt_swapSlots, ← inBlock_iff]
    refine ⟨fun inside => if_pos inside, fun out => if_neg out, fun inside held => ?_, fun inside other => ?_, fun out reserved => ?_,
      fun out other => ?_, fun reserved => if_pos reserved, fun out held => ?_, fun inside held => ?_, fun notHeld notReserved => ?_⟩
    · rw [if_pos inside, if_pos held, held]
    · rw [if_pos inside, if_neg other]
    · rw [if_neg out, if_pos reserved]
    · rw [if_neg out, if_neg other]
    · rw [held, if_neg (by simp), if_pos ⟨rfl, Bool.eq_false_iff.mpr out⟩]
    · rw [held, if_neg (by simp), if_neg fun out => by rw [inside] at out; exact absurd out.2 (by decide)]
    · rw [if_neg notReserved, if_neg fun held => notHeld held.1]

/-! ### Admission (R80 to R82) -/

theorem budgetIn_iff {c : SiteClass} {b : Nat} : budgetIn c b = true ↔
    (c = .freq ∧ b = 0) ∨ (c = .phaseStd ∧ 1000 ≤ b ∧ b ≤ 65535) ∨ (c = .phaseTight ∧ 100 ≤ b ∧ b ≤ 1500) := by
  cases c <;> simp [budgetIn, inRange_iff]

theorem rateIn_iff {rate : Nat} : rateIn rate = true ↔ rate = 1 ∨ rate = 2 ∨ rate = 4 ∨ rate = 8 ∨ rate = 16 := by
  simp [rateIn, Config.rates]

theorem withinSigned_iff {limit v : Int} : withinSigned limit v = true ↔ -limit ≤ v ∧ v ≤ limit := decide_eq_true_iff

/-- The class and rate agree with what the record declared, if it declared anything (R81). -/
theorem capabilityAllows_iff {cap : Option Capability} {c : SiteClass} {rate : Nat} : capabilityAllows cap c rate = true ↔
    ∀ v, cap = some v → (c = .phaseStd → v.phase = true) ∧ (c = .phaseTight → v.phase = true ∧ v.tight = true) ∧ rate ≤ v.highest := by
  cases cap with
  | none => simp [capabilityAllows]
  | some v => cases c <;> simp [capabilityAllows, and_assoc]

theorem SiteClass.ofCode_none {v : Nat} (h : 3 ≤ v) : SiteClass.ofCode v = none := by
  obtain ⟨n, rfl⟩ := Nat.exists_eq_add_of_le h
  rw [Nat.add_comm]; rfl

theorem SiteClass.ofCode_code (c : SiteClass) : SiteClass.ofCode c.code = some c := by cases c <;> rfl

theorem SiteClass.ofCode_some {v : Nat} {c : SiteClass} : SiteClass.ofCode v = some c ↔ c.code = v := by
  constructor
  · intro is
    by_cases low : v ≤ 2
    · interval_cases v <;> cases is <;> rfl
    · rw [SiteClass.ofCode_none (by omega)] at is; exact absurd is (by simp)
  · rintro rfl; exact c.ofCode_code

theorem AckMode.ofCode_none {v : Nat} (h : 2 ≤ v) : AckMode.ofCode v = none := by
  obtain ⟨n, rfl⟩ := Nat.exists_eq_add_of_le h
  rw [Nat.add_comm]; rfl

theorem AckMode.ofCode_some {v : Nat} {m : AckMode} : AckMode.ofCode v = some m ↔ m.code = v := by
  constructor
  · intro is
    by_cases low : v ≤ 1
    · interval_cases v <;> cases is <;> rfl
    · rw [AckMode.ofCode_none (by omega)] at is; exact absurd is (by simp)
  · rintro rfl; cases m <;> rfl

section Admit

variable {p : AdmitReq} {r : SiteRecord} {s : State} {c : SiteClass} {m : AckMode}

/-- The values of an admission within their ranges, its class and mode among them (R80). -/
def admitFits (p : AdmitReq) : Prop :=
  ((p.cls = 0 ∧ p.budget = 0) ∨ (p.cls = 1 ∧ 1000 ≤ p.budget ∧ p.budget ≤ 65535)
    ∨ (p.cls = 2 ∧ 100 ≤ p.budget ∧ p.budget ≤ 1500))
  ∧ (p.rate = 1 ∨ p.rate = 2 ∨ p.rate = 4 ∨ p.rate = 8 ∨ p.rate = 16) ∧ p.window ≤ 7
  ∧ -100000 ≤ p.compensation ∧ p.compensation ≤ 100000 ∧ (p.ackMode = 0 ∨ p.ackMode = 1)
  ∧ (∀ b, p.slotBase = .explicit b → b ≤ 255)

theorem admitInRange_iff : admitInRange p c = true ↔ budgetIn c p.budget = true
    ∧ (p.rate = 1 ∨ p.rate = 2 ∨ p.rate = 4 ∨ p.rate = 8 ∨ p.rate = 16) ∧ p.window ≤ 7
    ∧ (-100000 ≤ p.compensation ∧ p.compensation ≤ 100000) ∧ (∀ b, p.slotBase = .explicit b → b ≤ 255) := by
  cases base : p.slotBase <;>
    simp [admitInRange, base, rateIn_iff, withinSigned_iff, inRange_iff, and_assoc]

theorem admitFits_iff : admitFits p ↔
    ∃ c m, SiteClass.ofCode p.cls = some c ∧ AckMode.ofCode p.ackMode = some m ∧ admitInRange p c = true := by
  simp only [SiteClass.ofCode_some, AckMode.ofCode_some, admitInRange_iff]
  constructor
  · rintro ⟨budget, rate, window, low, high, mode, base⟩
    have coded : ∃ c : SiteClass, c.code = p.cls ∧ budgetIn c p.budget = true := by
      rcases budget with ⟨is, b⟩ | ⟨is, b⟩ | ⟨is, b⟩
      · exact ⟨.freq, is.symm, budgetIn_iff.mpr (.inl ⟨rfl, b⟩)⟩
      · exact ⟨.phaseStd, is.symm, budgetIn_iff.mpr (.inr (.inl ⟨rfl, b⟩))⟩
      · exact ⟨.phaseTight, is.symm, budgetIn_iff.mpr (.inr (.inr ⟨rfl, b⟩))⟩
    have acked : ∃ m : AckMode, m.code = p.ackMode := by
      rcases mode with is | is
      · exact ⟨.confirmed, is.symm⟩
      · exact ⟨.unconfirmed, is.symm⟩
    obtain ⟨c, isC, budget⟩ := coded
    obtain ⟨m, isM⟩ := acked
    exact ⟨c, m, isC, isM, budget, rate, window, ⟨low, high⟩, base⟩
  · rintro ⟨c, m, isC, isM, budget, rate, window, ⟨low, high⟩, base⟩
    refine ⟨?_, rate, window, low, high, ?_, base⟩
    · rw [budgetIn_iff] at budget
      rw [← isC]
      rcases budget with ⟨rfl, b⟩ | ⟨rfl, b⟩ | ⟨rfl, b⟩
      · exact .inl ⟨rfl, b⟩
      · exact .inr (.inl ⟨rfl, b⟩)
      · exact .inr (.inr ⟨rfl, b⟩)
    · rw [← isM]
      cases m
      · exact Or.inl rfl
      · exact Or.inr rfl

theorem admitRecord_badState (state : r.lifecycle ≠ .provisional) : admitRecord p r s = (s, .badState, []) := if_pos state

theorem admitRecord_range (state : r.lifecycle = .provisional) (bad : ¬ admitFits p) : admitRecord p r s = (s, .range, []) := by
  rw [admitRecord, if_neg (not_not.mpr state)]
  cases isC : SiteClass.ofCode p.cls with
  | none => rfl
  | some c =>
    cases isM : AckMode.ofCode p.ackMode with
    | none => rfl
    | some m => exact if_pos (Bool.eq_false_iff.mpr fun fits => bad (admitFits_iff.mpr ⟨c, m, isC, isM, fits⟩))

theorem admitRecord_capability (state : r.lifecycle = .provisional) (isC : SiteClass.ofCode p.cls = some c)
    (isM : AckMode.ofCode p.ackMode = some m) (fits : admitInRange p c = true)
    (incapable : ¬ capabilityAllows r.capability c p.rate = true) : admitRecord p r s = (s, .capability, []) := by
  rw [admitRecord, if_neg (not_not.mpr state), isC, isM]
  dsimp only
  rw [if_neg (by rw [fits]; decide), if_pos (Bool.eq_false_iff.mpr incapable)]

theorem admitRecord_claim (state : r.lifecycle = .provisional) (isC : SiteClass.ofCode p.cls = some c)
    (isM : AckMode.ofCode p.ackMode = some m) (fits : admitInRange p c = true)
    (capable : capabilityAllows r.capability c p.rate = true) : admitRecord p r s = admitClaim p c m r s := by
  rw [admitRecord, if_neg (not_not.mpr state), isC, isM]
  dsimp only
  rw [if_neg (by rw [fits]; decide), if_neg (by rw [capable]; decide)]

theorem admitClaim_error {x : Result} (placed : (s.link r.link).placeBlock (fun e => e == .free) p.rate p.slotBase = .error x) :
    admitClaim p c m r s = (s, x, []) := by
  simp only [admitClaim, placed]

theorem admitClaim_ok {b : Nat} (placed : (s.link r.link).placeBlock (fun e => e == .free) p.rate p.slotBase = .ok b) :
    admitClaim p c m r s = ((s.updLink r.link (fun l => { l with slots := claimSlots r.handle b p.rate l.slots })).updRecord r.handle
      (SiteRecord.activate p c m b), .ok, [natItem 1 b]) := by
  simp only [admitClaim, placed]

/-- The capability check in the codes of the request. -/
theorem capabilityAllows_code (isC : SiteClass.ofCode p.cls = some c) : capabilityAllows r.capability c p.rate = true ↔
    ∀ v, r.capability = some v → (p.cls = 1 → v.phase = true) ∧ (p.cls = 2 → v.phase = true ∧ v.tight = true) ∧ p.rate ≤ v.highest := by
  rw [capabilityAllows_iff, ← SiteClass.ofCode_some.mp isC]
  cases c <;> simp [SiteClass.code]

theorem exec_siteAdmit {tag : Nat} (idle : s.port.state = .idle) (found : s.record? p.handle = some r) :
    exec (.siteAdmit tag p) s = .next ((admitRecord p r s).1.respond tag (admitRecord p r s).2.1 (admitRecord p r s).2.2) := by
  show Host.Outcome.next (request tag _ s) = _
  rw [request_idle idle]
  simp only [found]

end Admit

/-- Settles O30: the tests of R80 in turn, then the claim. -/
theorem siteAdmitOutcome : Obligations.SiteAdmitOutcome := by
  intro tag p s idle
  refine ⟨fun none => ?noRecord, fun r found => ?found⟩
  case noRecord =>
    show Host.Outcome.next (request tag _ s) = _
    rw [request_idle idle]; simp only [none]
  case found =>
    rw [exec_siteAdmit idle found]
    dsimp only
    refine ⟨fun state => by rw [admitRecord_badState state], fun state =>
      ⟨fun bad => by rw [admitRecord_range (p := p) state bad], fun fits incapable => ?_, fun x fits capable placed => ?_,
        fun b fits capable placed => ?_⟩⟩ <;> obtain ⟨c, m, isC, isM, ranges⟩ := admitFits_iff.mp fits
    · rw [admitRecord_capability state isC isM ranges (mt (capabilityAllows_code isC).mp incapable)]
    · rw [admitRecord_claim state isC isM ranges ((capabilityAllows_code isC).mpr capable), admitClaim_error placed]
    · rw [admitRecord_claim state isC isM ranges ((capabilityAllows_code isC).mpr capable), admitClaim_ok placed, isC, isM]; rfl

end Sys2Proof.Machine
end

section
/-! PROOF. Amendments: SITE_AMEND, SITE_AMEND_GROUP, and their application at a boundary. -/

namespace Sys2Proof.Machine

open Sys2Proof

/-! ### The tests of SITE_AMEND (R113 to R117) -/

section Tests

variable {p : AmendReq} {r : SiteRecord}

theorem carriesStaged_iff : carriesStaged p = true ↔ p.cls.isSome = true ∨ p.rate.isSome = true ∨ p.slotBase.isSome = true
    ∨ p.ackMode.isSome = true ∨ p.window.isSome = true ∨ p.compensation.isSome = true ∨ p.squelch.isSome = true := by
  simp only [carriesStaged, Bool.or_eq_true, or_assoc]

theorem carriesProtected_iff : carriesProtected p = true ↔ p.cls.isSome = true ∨ p.rate.isSome = true ∨ p.slotBase.isSome = true
    ∨ p.ackMode.isSome = true ∨ p.squelch.isSome = true := by
  simp only [carriesProtected, Bool.or_eq_true, or_assoc]

theorem amendAllowed_iff {l : Lifecycle} : amendAllowed l p = true ↔
    (l = .provisional → p.budget = none ∧ ¬ carriesStaged p = true) ∧ (l = .retiring → ¬ carriesStaged p = true) := by
  cases l <;> simp [amendAllowed]

/-- The budget agrees with a class (R80). -/
def budgetFits (c : SiteClass) (b : Nat) : Prop :=
  (c = .freq ∧ b = 0) ∨ (c = .phaseStd ∧ 1000 ≤ b ∧ b ≤ 65535) ∨ (c = .phaseTight ∧ 100 ≤ b ∧ b ≤ 1500)

theorem amendBudgetOk_iff {asked : Option SiteClass} {budget : Option Nat} : amendBudgetOk r asked budget = true ↔
    (∀ b, budget = some b → ∃ c, standingClass r asked = some c ∧ budgetIn c b = true)
      ∧ (∀ c, budget = none → asked = some c → budgetIn c ((standingBudget r).getD 0) = true) := by
  cases budget with
  | none => cases asked <;> simp [amendBudgetOk]
  | some b => cases standing : standingClass r asked <;> simp [amendBudgetOk, standing]

theorem optCodeOk_cls {v : Option Nat} : optCodeOk SiteClass.ofCode v = true ↔ ∀ n, v = some n → n ≤ 2 := by
  cases v with
  | none => simp [optCodeOk]
  | some n =>
    by_cases low : n ≤ 2
    · have : (SiteClass.ofCode n).isSome = true := by interval_cases n <;> rfl
      simpa [optCodeOk, this] using low
    · have : SiteClass.ofCode n = none := SiteClass.ofCode_none (by omega)
      simpa [optCodeOk, this] using low

theorem optCodeOk_ackMode {v : Option Nat} : optCodeOk AckMode.ofCode v = true ↔ ∀ n, v = some n → n ≤ 1 := by
  cases v with
  | none => simp [optCodeOk]
  | some n =>
    by_cases low : n ≤ 1
    · have : (AckMode.ofCode n).isSome = true := by interval_cases n <;> rfl
      simpa [optCodeOk, this] using low
    · have : AckMode.ofCode n = none := AckMode.ofCode_none (by omega)
      simpa [optCodeOk, this] using low

theorem optWithin_iff {limit : Int} {v : Option Int} : optWithin limit v = true ↔ ∀ x, v = some x → -limit ≤ x ∧ x ≤ limit := by
  cases v <;> simp [optWithin, withinSigned_iff]

theorem amendInRange_iff : amendInRange r p = true ↔ (∀ v, p.cls = some v → v ≤ 2) ∧ (∀ v, p.ackMode = some v → v ≤ 1)
    ∧ (∀ v, p.rate = some v → v = 1 ∨ v = 2 ∨ v = 4 ∨ v = 8 ∨ v = 16) ∧ (∀ b, p.slotBase = some (.explicit b) → b ≤ 255)
    ∧ (∀ v, p.window = some v → v ≤ 7) ∧ (∀ v, p.compensation = some v → -100000 ≤ v ∧ v ≤ 100000)
    ∧ (∀ b, p.budget = some b → ∃ c, standingClass r (p.cls.bind SiteClass.ofCode) = some c ∧ budgetFits c b)
    ∧ (∀ c, p.budget = none → p.cls.bind SiteClass.ofCode = some c → budgetFits c ((standingBudget r).getD 0)) := by
  have budget := amendBudgetOk_iff (r := r) (asked := p.cls.bind SiteClass.ofCode) (budget := p.budget)
  have window : optIn 0 7 p.window = true ↔ ∀ v, p.window = some v → v ≤ 7 := by simp [optIn_iff]
  simp only [budgetIn_iff] at budget
  unfold amendInRange
  rw [Bool.and_eq_true, budget]
  simp only [budgetFits]
  cases rate : p.rate <;> rcases base : p.slotBase with _ | _ | b <;>
    simp [Bool.and_eq_true, optCodeOk_cls, optCodeOk_ackMode, window, optWithin_iff, rateIn_iff, inRange_iff, and_assoc]

theorem amendCapable_iff : amendCapable r p = true ↔ (p.cls.isSome = true ∨ p.rate.isSome = true →
    ∀ cap c, r.capability = some cap → standingClass r (p.cls.bind SiteClass.ofCode) = some c →
      (c = .phaseStd → cap.phase = true) ∧ (c = .phaseTight → cap.phase = true ∧ cap.tight = true)
      ∧ standingRate r p ≤ cap.highest) := by
  unfold amendCapable
  by_cases carried : (p.cls.isSome || p.rate.isSome) = true
  · rw [if_pos carried]
    rw [Bool.or_eq_true] at carried
    cases standing : standingClass r (p.cls.bind SiteClass.ofCode) with
    | none => simp
    | some c =>
      simp only [carried, true_imp_iff, capabilityAllows_iff]
      exact ⟨fun all cap c' has is => by cases is; exact all cap has, fun all cap has => all cap c has rfl⟩
  · rw [if_neg carried]
    rw [Bool.or_eq_true] at carried
    exact ⟨fun _ is => absurd is carried, fun _ => rfl⟩

theorem stagesBudget_iff : stagesBudget r p = true ↔ p.cls.isSome = true ∨ r.pending.cls.isSome = true := by
  simp [stagesBudget]

end Tests

/-! ### SITE_AMEND (R113, R118) -/

section Amend

variable {p : AmendReq} {r : SiteRecord} {s : State}

theorem amendRecord_badState (bad : ¬ amendAllowed r.lifecycle p = true) : amendRecord p r s = (s, .badState, []) :=
  if_pos (Bool.eq_false_iff.mpr bad)

theorem amendRecord_protected (allowed : amendAllowed r.lifecycle p = true)
    (blocked : r.protectedFlag = true ∧ carriesProtected p = true) : amendRecord p r s = (s, .protectedField, []) := by
  rw [amendRecord, if_neg (by rw [allowed]; decide), if_pos (by rw [Bool.and_eq_true]; exact blocked)]

/-- The tests that come before the ranges are passed (R113). -/
def amendOpen (p : AmendReq) (r : SiteRecord) : Prop :=
  amendAllowed r.lifecycle p = true ∧ ¬ (r.protectedFlag = true ∧ carriesProtected p = true)

theorem amendRecord_range (passes : amendOpen p r) (bad : ¬ amendInRange r p = true) : amendRecord p r s = (s, .range, []) := by
  obtain ⟨allowed, open'⟩ := passes
  rw [amendRecord, if_neg (by rw [allowed]; decide), if_neg (by rw [Bool.and_eq_true]; exact open'),
    if_pos (Bool.eq_false_iff.mpr bad)]

theorem amendRecord_capability (passes : amendOpen p r) (fits : amendInRange r p = true) (bad : ¬ amendCapable r p = true) :
    amendRecord p r s = (s, .capability, []) := by
  obtain ⟨allowed, open'⟩ := passes
  rw [amendRecord, if_neg (by rw [allowed]; decide), if_neg (by rw [Bool.and_eq_true]; exact open'),
    if_neg (by rw [fits]; decide), if_pos (Bool.eq_false_iff.mpr bad)]

/-- The reservation that a request asks for. -/
theorem reserveFor_some (asks : p.rate.isSome = true ∨ p.slotBase.isSome = true) :
    reserveFor s r p = some ((s.link r.link).placeBlock (usableBy r.handle) (standingRate r p) (p.slotBase.getD .any)) :=
  if_pos (by rw [Bool.or_eq_true]; exact asks)

theorem reserveFor_none (asks : ¬ (p.rate.isSome = true ∨ p.slotBase.isSome = true)) : reserveFor s r p = none :=
  if_neg (by rw [Bool.or_eq_true]; exact asks)

section Passed

variable (passes : amendOpen p r) (fits : amendInRange r p = true) (capable : amendCapable r p = true)
include passes fits capable

theorem amendRecord_unreserved (reserve : reserveFor s r p = none) : amendRecord p r s = amendAct p r none s := by
  obtain ⟨allowed, open'⟩ := passes
  rw [amendRecord, if_neg (by rw [allowed]; decide), if_neg (by rw [Bool.and_eq_true]; exact open'),
    if_neg (by rw [fits]; decide), if_neg (by rw [capable]; decide), reserve]

theorem amendRecord_error {x : Result} (reserve : reserveFor s r p = some (.error x)) : amendRecord p r s = (s, x, []) := by
  obtain ⟨allowed, open'⟩ := passes
  rw [amendRecord, if_neg (by rw [allowed]; decide), if_neg (by rw [Bool.and_eq_true]; exact open'),
    if_neg (by rw [fits]; decide), if_neg (by rw [capable]; decide), reserve]

theorem amendRecord_reserved {b : Nat} (reserve : reserveFor s r p = some (.ok b)) :
    amendRecord p r s = amendAct p r (some b) s := by
  obtain ⟨allowed, open'⟩ := passes
  rw [amendRecord, if_neg (by rw [allowed]; decide), if_neg (by rw [Bool.and_eq_true]; exact open'),
    if_neg (by rw [fits]; decide), if_neg (by rw [capable]; decide), reserve]

end Passed

theorem exec_siteAmend {tag : Nat} (idle : s.port.state = .idle) (found : s.record? p.handle = some r) :
    exec (.siteAmend tag p) s = .next ((amendRecord p r s).1.respond tag (amendRecord p r s).2.1 (amendRecord p r s).2.2) := by
  show Host.Outcome.next (request tag _ s) = _
  rw [request_idle idle]
  simp only [found]

/-- With each handle held once, a change of a record under its handle is the record's own new contents. -/
theorem State.updRecord_own {t : State} {r : SiteRecord} {f : SiteRecord → SiteRecord}
    (once : (t.stu.records.map SiteRecord.handle).Nodup) (m : r ∈ t.stu.records) :
    t.updRecord r.handle f = t.updRecord r.handle (fun _ => f r) := by
  unfold State.updRecord
  rw [updRecords_congr t.stu.records r.handle f (fun _ => f r)
    fun q mq same => congrArg f (List.inj_on_of_nodup_map once mq m same)]

end Amend

/-- The record that SITE_AMEND leaves, in the statement's terms. -/
theorem SiteRecord.amend_eq (p : AmendReq) (base : Option Nat) (r : SiteRecord) :
    r.amend p base = { r with
      groups := p.groups.getD r.groups, protectedFlag := p.protectedFlag.getD r.protectedFlag,
      autoComp := p.autoComp.getD r.autoComp,
      budget := if p.cls.isSome = true ∨ r.pending.cls.isSome = true then r.budget else p.budget.or r.budget,
      pending := { cls := (p.cls.bind SiteClass.ofCode).or r.pending.cls,
                   budget := if p.cls.isSome = true then p.budget.or (r.pending.budget.or r.budget)
                             else if r.pending.cls.isSome = true then p.budget.or r.pending.budget
                             else r.pending.budget,
                   rate := if base.isSome then some (standingRate r p) else r.pending.rate,
                   slotBase := base.or r.pending.slotBase,
                   ackMode := (p.ackMode.bind AckMode.ofCode).or r.pending.ackMode,
                   window := p.window.or r.pending.window,
                   compensation := p.compensation.or r.pending.compensation,
                   squelch := p.squelch.or r.pending.squelch } } := by
  have budget : (if stagesBudget r p then r.budget else p.budget.or r.budget)
      = if p.cls.isSome = true ∨ r.pending.cls.isSome = true then r.budget else p.budget.or r.budget :=
    if_congr stagesBudget_iff rfl rfl
  unfold SiteRecord.amend
  rw [budget]
  rfl

theorem amendResult_eq (p : AmendReq) (r : SiteRecord) : amendResult r p =
    if (p.cls.isSome = true ∨ p.rate.isSome = true ∨ p.slotBase.isSome = true ∨ p.ackMode.isSome = true
        ∨ p.window.isSome = true ∨ p.compensation.isSome = true ∨ p.squelch.isSome = true)
      ∨ (p.budget.isSome = true ∧ (p.cls.isSome = true ∨ r.pending.cls.isSome = true)) then Result.accepted else .ok :=
  if_congr (by rw [Bool.or_eq_true, Bool.and_eq_true, carriesStaged_iff, stagesBudget_iff]) rfl rfl

/-- Settles O35: the tests of R113 in turn, then the amendment with its reservation. -/
theorem siteAmendOutcome : Obligations.SiteAmendOutcome := by
  intro tag p s idle
  refine ⟨fun none => ?noRecord, fun r found => ?found⟩
  case noRecord =>
    show Host.Outcome.next (request tag _ s) = _
    rw [request_idle idle]; simp only [none]
  case found =>
    rw [exec_siteAmend idle found]
    dsimp only
    rw [← amendResult_eq, ← carriesStaged_iff, ← carriesProtected_iff, ← amendAllowed_iff]
    have answered (t : State) (records : t.stu.records = s.stu.records) (base : Option Nat)
        (once : (s.stu.records.map SiteRecord.handle).Nodup) :
        t.updRecord r.handle (SiteRecord.amend p base) = t.updRecord r.handle (fun _ => r.amend p base) :=
      State.updRecord_own (by rw [records]; exact once) (by rw [records]; exact (State.record?_some found).1)
    refine ⟨fun bad => ?_, fun allowed blocked => ?_, fun allowed open' bad => ?_, fun allowed open' fits bad => ?_,
      fun allowed open' fits capable once => ⟨fun unasked => ?_, fun x asked placed => ?_, fun b asked placed => ?_⟩⟩
    · rw [amendRecord_badState bad]
    · rw [amendRecord_protected allowed blocked]
    · rw [amendRecord_range ⟨allowed, open'⟩ (mt amendInRange_iff.mp bad)]
    · rw [amendRecord_capability ⟨allowed, open'⟩ (amendInRange_iff.mpr fits) (mt amendCapable_iff.mp bad)]
    · rw [amendRecord_unreserved ⟨allowed, open'⟩ (amendInRange_iff.mpr fits) (amendCapable_iff.mpr capable) (reserveFor_none unasked),
        amendAct]
      dsimp only
      rw [answered s rfl none once, SiteRecord.amend_eq]
      rfl
    · rw [amendRecord_error ⟨allowed, open'⟩ (amendInRange_iff.mpr fits) (amendCapable_iff.mpr capable)
        ((reserveFor_some asked).trans (congrArg some placed))]
    · rw [amendRecord_reserved ⟨allowed, open'⟩ (amendInRange_iff.mpr fits) (amendCapable_iff.mpr capable)
        ((reserveFor_some asked).trans (congrArg some placed)), amendAct]
      dsimp only
      rw [answered (s.updLink r.link fun l => { l with slots := reserveSlots r.handle b (standingRate r p) l.slots }) rfl (some b) once,
        SiteRecord.amend_eq]
      rfl

/-! ### SITE_AMEND_GROUP (R122 to R124) -/

section Group

variable {p : AmendGroupReq} {r : SiteRecord} {s : State}

theorem amendGroupInRange_iff : amendGroupInRange p = true ↔
    p.mask ≠ 0 ∧ (∀ v, p.window = some v → v ≤ 7) ∧ (∀ v, p.delta = some v → -200000 ≤ v ∧ v ≤ 200000) := by
  simp [amendGroupInRange, optIn_iff, optWithin_iff, and_assoc]

theorem amendGroupEmpty_iff : amendGroupEmpty p = true ↔
    p.budget = none ∧ p.window = none ∧ p.squelch = none ∧ p.autoComp = none ∧ p.delta = none := by
  simp [amendGroupEmpty, and_assoc]

theorem SiteRecord.inGroups_iff {mask : BitVec 8} :
    r.inGroups mask = true ↔ (r.lifecycle = .active ∨ r.lifecycle = .suspended) ∧ r.groups &&& mask ≠ 0 := by
  simp [SiteRecord.inGroups]

theorem groupValuesOk_iff : groupValuesOk p r = true ↔
    (∀ b, p.budget = some b → ∃ c, r.pending.cls.or r.cls = some c ∧ budgetFits c b)
    ∧ (∀ d, p.delta = some d → -100000 ≤ deltaCompensation r d ∧ deltaCompensation r d ≤ 100000) := by
  have standing : standingClass r none = r.pending.cls.or r.cls := rfl
  unfold groupValuesOk
  simp only [standing, budgetFits, ← budgetIn_iff]
  cases p.budget <;> cases p.delta <;> cases r.pending.cls.or r.cls <;> simp [withinSigned_iff]

theorem exec_siteAmendGroup {tag : Nat} (idle : s.port.state = .idle) (fits : amendGroupInRange p = true)
    (some : ¬ amendGroupEmpty p = true) : exec (.siteAmendGroup tag p) s
      = .next ((amendGroupRecords p s).1.respond tag (amendGroupRecords p s).2.1 (amendGroupRecords p s).2.2) := by
  show Host.Outcome.next (request tag _ s) = _
  rw [request_idle idle, if_neg (by rw [fits]; decide), if_neg some]

/-- The first selected record that would be out of range refuses the request (R123). -/
theorem amendGroupRecords_refused {before rest : List SiteRecord} (split : s.stu.records = before ++ r :: rest)
    (chosen : r.inGroups p.mask = true) (bad : ¬ groupValuesOk p r = true)
    (good : ∀ q ∈ before, q.inGroups p.mask = true → groupValuesOk p q = true) :
    amendGroupRecords p s = (s, .range, [natItem 1 r.handle]) := by
  have first : (s.stu.records.filter (SiteRecord.inGroups p.mask)).find? (fun r => !groupValuesOk p r) = some r := by
    rw [split, List.filter_append, List.filter_cons_of_pos chosen, List.find?_append, List.find?_eq_none.mpr fun q m => ?_]
    · simp [bad]
    · obtain ⟨m, inside⟩ := List.mem_filter.mp m
      simp [good q m inside]
  simp only [amendGroupRecords, first]

theorem amendGroupRecords_ok (good : ∀ q ∈ s.stu.records, q.inGroups p.mask = true → groupValuesOk p q = true) :
    amendGroupRecords p s = ({ s with stu := { s.stu with
        records := s.stu.records.map (fun r => if r.inGroups p.mask then r.amendGroup p else r) } }, .ok,
      [natItem 1 ((s.stu.records.filter (SiteRecord.inGroups p.mask)).filter (groupReceives p)).length,
        natItem 1 ((s.stu.records.filter (SiteRecord.inGroups p.mask)).filter (groupSkips p)).length]) := by
  have none : (s.stu.records.filter (SiteRecord.inGroups p.mask)).find? (fun r => !groupValuesOk p r) = none := by
    rw [List.find?_eq_none]
    intro q m
    obtain ⟨m, inside⟩ := List.mem_filter.mp m
    simp [good q m inside]
  simp only [amendGroupRecords, none]

end Group

/-- A map's places, against those of the list. -/
theorem getElem?_map_place {α β : Type} {f : α → β} {as : List α} {k : Nat} {a : α} {b : β} (mapped : (as.map f)[k]? = some b)
    (is : as[k]? = some a) : b = f a := by
  rw [List.getElem?_map, is] at mapped
  exact (Option.some.inj mapped).symm

/-- Settles O36: the request's own tests, then the selected records in order. -/
theorem groupAmendOutcome : Obligations.GroupAmendOutcome := by
  intro tag p s idle
  dsimp only
  refine ⟨fun bad => ?bad, fun fits empty => ?empty, fun before r rest fits some split chosen fails good => ?refused,
    fun fits some good => ?ok⟩
  case bad =>
    show Host.Outcome.next (request tag _ s) = _
    rw [request_idle idle, if_pos (Bool.eq_false_iff.mpr (mt amendGroupInRange_iff.mp bad))]
  case empty =>
    show Host.Outcome.next (request tag _ s) = _
    rw [request_idle idle, if_neg (by rw [amendGroupInRange_iff.mpr fits]; decide), if_pos (amendGroupEmpty_iff.mpr empty)]
  case refused =>
    rw [exec_siteAmendGroup idle (amendGroupInRange_iff.mpr fits) (mt amendGroupEmpty_iff.mp some),
      amendGroupRecords_refused split (SiteRecord.inGroups_iff.mpr chosen) (mt groupValuesOk_iff.mp fails)
        fun q m inside => groupValuesOk_iff.mpr (good q m (SiteRecord.inGroups_iff.mp inside))]
  case ok =>
    rw [exec_siteAmendGroup idle (amendGroupInRange_iff.mpr fits) (mt amendGroupEmpty_iff.mp some),
      amendGroupRecords_ok fun q m inside => groupValuesOk_iff.mpr (good q m (SiteRecord.inGroups_iff.mp inside))]
    refine ⟨_, _, _, rfl, rfl, List.length_map .., fun k q r isQ isR => ?changed, fun unasked => ?_, fun asked => ?_, fun asked => ?_,
      fun budget window autoComp delta => ?_⟩
    case changed =>
      have is := getElem?_map_place isQ isR
      subst is
      exact ⟨fun chosen => if_pos (SiteRecord.inGroups_iff.mpr chosen), fun other => if_neg (mt SiteRecord.inGroups_iff.mp other)⟩
    · have nobody : groupSkips p = fun _ => false := by funext r; simp [groupSkips, unasked]
      rw [nobody]
      simp
    · have guarded : groupSkips p = SiteRecord.protectedFlag := by funext r; simp [groupSkips, asked]
      rw [guarded, List.filter_filter]
      simp only [Bool.and_comm]
    · have all : groupReceives p = fun _ => true := by
        funext r
        rcases asked with asked | asked | asked | asked <;> simp [groupReceives, asked]
      rw [all]
      simp
    · have squelch : p.squelch.isSome = true := by
        by_contra none
        exact some ⟨budget, window, Option.not_isSome_iff_eq_none.mp none, autoComp, delta⟩
      have plain : groupReceives p = fun r => !r.protectedFlag := by
        funext r
        simp [groupReceives, budget, window, autoComp, delta, squelch]
      rw [plain, List.filter_filter]
      simp only [Bool.and_comm]

/-! ### Application at a boundary (R104, R120) -/

/-- The pending amendments of the lifecycle apply at a boundary. -/
abbrev SiteRecord.applies (r : SiteRecord) : Prop := r.lifecycle = .active ∨ r.lifecycle = .suspended

/-- A pending amendment applied, field by field (R120). -/
theorem SiteRecord.applyPending_eq (b : Nat) (r : SiteRecord) : r.applyPending b = { r with
    cls := r.pending.cls.or r.cls, budget := r.pending.budget.or r.budget,
    condition := if r.pending.cls.isSome then .none else r.condition, rate := r.pending.rate.or r.rate,
    slotBase := r.pending.slotBase.or r.slotBase, ackMode := r.pending.ackMode.or r.ackMode,
    window := r.pending.window.or r.window, compensation := r.pending.compensation.getD r.compensation,
    squelch := r.pending.squelch.getD r.squelch,
    exchanges := if r.pending.ackMode = some .unconfirmed then [] else r.exchanges,
    missRun := if r.pending.ackMode = some .unconfirmed then 0 else r.missRun,
    silence := if r.pending.ackMode = some .unconfirmed then .none else r.silence,
    stagedCompAt := if r.pending.compensation.isSome then some b else r.stagedCompAt, pending := Pending.empty } := by
  unfold SiteRecord.applyPending SiteRecord.applyMode
  dsimp only
  rcases r.pending.ackMode with _ | _ | _ <;> rfl

theorem SiteRecord.applyPending_handle (b : Nat) (r : SiteRecord) : (r.applyPending b).handle = r.handle := by
  rw [SiteRecord.applyPending_eq]

theorem State.applyAmendment_idle {s : State} {r : SiteRecord} (idle : ¬ r.applies) : s.applyAmendment r = s := if_neg idle

theorem State.applyAmendment_applies {s : State} {r : SiteRecord} (applies : r.applies) : s.applyAmendment r
    = (s.updLink r.link (Link.swapPending r)).updRecord r.handle (SiteRecord.applyPending s.clock.boundaries) := if_pos applies

theorem Link.swapPending_eq (r : SiteRecord) (l : Link) : l.swapPending r = { l with slots := (l.swapPending r).slots } := by
  unfold Link.swapPending
  (repeat' split) <;> rfl

/-- What the application to one record leaves of the part and of its links. -/
theorem State.applyAmendment_frame (s : State) (r : SiteRecord) :
    s.applyAmendment r = { s with links := (s.applyAmendment r).links,
                                  stu := { s.stu with records := (s.applyAmendment r).stu.records } }
      ∧ ∀ l, (s.applyAmendment r).link l = { s.link l with slots := ((s.applyAmendment r).link l).slots } := by
  by_cases applies : r.applies
  · rw [State.applyAmendment_applies applies]
    refine ⟨rfl, fun l => ?_⟩
    show (s.updLink r.link (Link.swapPending r)).link l = { s.link l with slots := ((s.updLink r.link (Link.swapPending r)).link l).slots }
    by_cases here : l = r.link
    · rw [here, State.updLink_link_same]; exact Link.swapPending_eq r _
    · rw [State.updLink_link_other _ _ here]
  · rw [State.applyAmendment_idle applies]
    exact ⟨rfl, fun _ => rfl⟩

theorem State.applyAmendments_frame (rs : List SiteRecord) : ∀ s : State,
    rs.foldl State.applyAmendment s = { s with
        links := (rs.foldl State.applyAmendment s).links,
        stu := { s.stu with records := (rs.foldl State.applyAmendment s).stu.records } }
      ∧ ∀ l, (rs.foldl State.applyAmendment s).link l = { s.link l with slots := ((rs.foldl State.applyAmendment s).link l).slots } := by
  induction rs with
  | nil => exact fun s => ⟨rfl, fun _ => rfl⟩
  | cons r rs ih =>
    intro s
    obtain ⟨one, oneLinks⟩ := s.applyAmendment_frame r
    obtain ⟨rest, links⟩ := ih (s.applyAmendment r)
    refine ⟨?_, fun l => ?_⟩
    · rw [List.foldl_cons]
      exact rest.trans (by rw [one])
    · rw [List.foldl_cons]
      exact (links l).trans (by rw [oneLinks l])

/-- The table after the applications of records with a handle each: a record applied is one whose handle is theirs. -/
theorem State.applyAmendments_records (rs : List SiteRecord) : ∀ s : State, (rs.map SiteRecord.handle).Nodup →
    ∀ f : SiteRecord → SiteRecord, (∀ q, (∀ r ∈ rs, r.applies → r.handle ≠ q.handle) → f q = q) →
    (∀ q, (∃ r ∈ rs, r.applies ∧ r.handle = q.handle) → f q = q.applyPending s.clock.boundaries) →
    (rs.foldl State.applyAmendment s).stu.records = s.stu.records.map f := by
  induction rs with
  | nil =>
    intro s _ f other _
    have same : f = id := funext fun q => other q fun _ m => absurd m (by simp)
    rw [same, List.map_id]
    rfl
  | cons r rs ih =>
    intro s once f other own
    obtain ⟨fresh, once⟩ := List.nodup_cons.mp once
    rw [List.foldl_cons]
    by_cases applies : r.applies
    · have clock : (s.applyAmendment r).clock.boundaries = s.clock.boundaries := by rw [(s.applyAmendment_frame r).1]
      have ih := ih (s.applyAmendment r) once (fun q => if q.handle = r.handle then q else f q) (fun q none => ?_) (fun q some => ?_)
      · rw [ih, State.applyAmendment_applies applies]
        show (updRecords _ _ s.stu.records).map _ = _
        rw [updRecords_map, List.map_map]
        refine List.map_congr_left fun q _ => ?_
        by_cases is : q.handle = r.handle
        · have applied := own q ⟨r, List.mem_cons_self, applies, is.symm⟩
          simp only [Function.comp_apply, is, if_true, SiteRecord.applyPending_handle, applied]
        · simp only [Function.comp_apply, is, if_false]
      · by_cases is : q.handle = r.handle
        · exact if_pos is
        · simp only [is, if_false]
          refine other q fun x m active => ?_
          rcases List.mem_cons.mp m with rfl | m
          · exact fun same => is same.symm
          · exact none x m active
      · obtain ⟨x, m, active, same⟩ := some
        have is : q.handle ≠ r.handle := fun is => fresh (List.mem_map.mpr ⟨x, m, same.trans is⟩)
        rw [clock]
        simp only [is, if_false]
        exact own q ⟨x, List.mem_cons_of_mem _ m, active, same⟩
    · rw [State.applyAmendment_idle applies]
      refine ih s once f (fun q none => other q fun x m active => ?_) fun q ⟨x, m, active, same⟩ =>
        own q ⟨x, List.mem_cons_of_mem _ m, active, same⟩
      rcases List.mem_cons.mp m with rfl | m
      · exact absurd active applies
      · exact none x m active

/-- Without a swap on a link its slots stay. -/
theorem State.applyAmendments_noSwap {l : LinkId} (rs : List SiteRecord) : ∀ s : State,
    (∀ r ∈ rs, ∀ h rate base, ¬ r.swaps l h rate base) →
    ((rs.foldl State.applyAmendment s).link l).slots = (s.link l).slots := by
  induction rs with
  | nil => exact fun _ _ => rfl
  | cons r rs ih =>
    intro s none
    refine (ih (s.applyAmendment r) fun q m => none q (List.mem_cons_of_mem _ m)).trans ?_
    rcases s.applyAmendment_slots r l with ⟨rate, base, swaps, -⟩ | ⟨-, same⟩
    · exact absurd swaps (none r List.mem_cons_self _ _ _)
    · exact same

/-- One swap on a link. -/
theorem State.applyAmendment_swap {s : State} {r : SiteRecord} {l : LinkId} {h rate base : Nat} (swaps : r.swaps l h rate base) :
    ((s.applyAmendment r).link l).slots = swapSlots h base rate (s.link l).slots := by
  have ⟨_, _, own, rated, based⟩ := swaps
  subst own
  rcases s.applyAmendment_slots r l with ⟨rate', base', also, is⟩ | ⟨none, -⟩
  · rw [is]
    cases Option.some.inj (rated.symm.trans also.2.2.2.1)
    cases Option.some.inj (based.symm.trans also.2.2.2.2)
    rfl
  · exact absurd swaps (none _ _ _)

/-- Settles O37: the records by their handles, the slots by the swaps. -/
theorem amendmentApplicationOutcome : Obligations.AmendmentApplicationOutcome := by
  intro s once
  have runs : exec .amendmentApplication s = .next (s.stu.records.foldl State.applyAmendment s) := rfl
  obtain ⟨frame, links⟩ := State.applyAmendments_frame s.stu.records s
  have applied := State.applyAmendments_records s.stu.records s once
    (fun q => if ∃ r ∈ s.stu.records, r.applies ∧ r.handle = q.handle then q.applyPending s.clock.boundaries else q)
    (fun q none => if_neg fun ⟨r, m, applies, same⟩ => none r m applies same) (fun q some => if_pos some)
  have slots := fun l k => State.applyAmendments_slotAt l k s.stu.records s once
  have unswapped := fun l => State.applyAmendments_noSwap (l := l) s.stu.records s
  dsimp only
  refine ⟨_, runs, frame, by rw [applied, List.length_map], fun k q r isQ isR => ?records, links, fun l none => ?none,
    fun l r rate base only applies rated based => ?one, fun l => (slots l 0).1, fun l k => ?slots⟩
  case records =>
    rw [applied] at isQ
    have m : r ∈ s.stu.records := List.mem_of_getElem? isR
    have is := getElem?_map_place isQ isR
    subst is
    refine ⟨fun applies => ?_, fun idle => ?_⟩
    · rw [if_pos ⟨r, m, applies, rfl⟩]
      exact SiteRecord.applyPending_eq _ r
    · rw [if_neg]
      rintro ⟨x, mx, applies, same⟩
      rw [List.inj_on_of_nodup_map once mx m same] at applies
      exact idle applies
  case none =>
    refine unswapped l fun r m h rate base swaps => ?_
    obtain ⟨here, applies, -, rated, -⟩ := swaps
    exact absurd (rated.symm.trans (none r m here applies)) (by simp)
  case one =>
    obtain ⟨before, after, split, noneBefore, self, noneAfter⟩ := List.filter_eq_cons_iff.mp only
    have here : r.link = l := by simpa using (Bool.and_eq_true_iff.mp self).1
    have unswapping {q : SiteRecord} (other : ¬ (q.link == l && q.pending.rate.isSome) = true) (h rate base : Nat) :
        ¬ q.swaps l h rate base := fun swaps => other (by simp [swaps.1, swaps.2.2.2.1])
    rw [split, List.foldl_append, List.foldl_cons,
      State.applyAmendments_noSwap after _ fun q m => unswapping (List.filter_eq_nil_iff.mp noneAfter q m),
      State.applyAmendment_swap ⟨here, applies, rfl, rated, based⟩,
      State.applyAmendments_noSwap before _ fun q m => unswapping (noneBefore q m)]
  case slots =>
    obtain ⟨-, free, reserved, held⟩ := slots l k
    refine ⟨free, fun h is => ⟨fun ⟨rate, base, r, m, swaps⟩ => (reserved h is).1 ⟨r, m, rate, base, swaps⟩,
      fun none => (reserved h is).2 fun r m rate base swaps => none rate base ⟨r, m, swaps⟩⟩, fun h is => ⟨?_, fun none =>
        (held h is).2 fun r m rate base swaps => none rate base ⟨r, m, swaps⟩⟩⟩
    rintro rate base ⟨r, m, swaps⟩
    exact ((held h is).1 r m rate base swaps).trans (if_congr inBlock_iff rfl rfl)

end Sys2Proof.Machine
end

section
/-! PROOF. The link engines: line state, the link requests, and the boundary that a link takes. -/

namespace Sys2Proof.Machine

open Sys2Proof

/-! ### Links and their records -/

/-- A change of a link and a change of its records do not meet. -/
theorem State.updLinkRecords_updLink (s : State) (l m : LinkId) (f : SiteRecord → SiteRecord) (g : Link → Link) :
    (s.updLinkRecords l f).updLink m g = (s.updLink m g).updLinkRecords l f := rfl

theorem SiteRecord.countMiss_eq (r : SiteRecord) : r.countMiss = { r with
    missed := min (r.missed + 1) 65535, missRun := min (r.missRun + 1) 255,
    silence := if min (r.missRun + 1) 255 < 3 then .none else if min (r.missRun + 1) 255 < 32 then .short else .long } := rfl

theorem SiteRecord.closeHeld_none {r : SiteRecord} (none : (r.exchanges.filter Exchange.held).length = 0) : r.closeHeld = r := by
  have empty := List.length_eq_zero_iff.mp none
  have kept : r.exchanges.filter (fun x => !x.held) = r.exchanges := by
    rw [List.filter_eq_self]
    intro x m
    have := List.filter_eq_nil_iff.mp empty x m
    simpa using this
  rw [SiteRecord.closeHeld, empty, kept]
  rfl

theorem SiteRecord.closeHeld_some {r : SiteRecord} (some : 0 < (r.exchanges.filter Exchange.held).length) : r.closeHeld = { r with
    exchanges := r.exchanges.filter (fun x => !x.held),
    missed := min (r.missed + (r.exchanges.filter Exchange.held).length) 65535,
    missRun := min (r.missRun + (r.exchanges.filter Exchange.held).length) 255,
    silence := silenceOf (min (r.missRun + (r.exchanges.filter Exchange.held).length) 255) } := by
  rw [SiteRecord.closeHeld, countMiss_fold, if_neg some.ne']

/-! ### A link that leaves UP (R128, R146 to R148) -/

/-- What a link loses as it leaves UP. -/
def Link.leavesUp (q : Link) : Link :=
  if q.role = .parent ∧ q.parentState = .enrolled
  then { q with rx := none, dueEnrols := [], dueReplies := [], parentState := .unenrolled, parentSilence := 0, toRm := q.toRm ++ [.lost] }
  else { q with rx := none, dueEnrols := [], dueReplies := [] }

theorem Link.loseParent_enrolled {q : Link} (enrolled : q.role = .parent ∧ q.parentState = .enrolled) :
    q.loseParent = { q with parentState := .unenrolled, parentSilence := 0, toRm := q.toRm ++ [.lost] } := if_pos enrolled

theorem Link.loseParent_other {q : Link} (other : ¬ (q.role = .parent ∧ q.parentState = .enrolled)) : q.loseParent = q := if_neg other

theorem State.leaveUp_up {s : State} {l : LinkId} (up : (s.link l).state = .up) :
    s.leaveUp l = (s.updLink l Link.leavesUp).updLinkRecords l SiteRecord.closeHeld := by
  have link : (fun k : Link => ({ ({ k with rx := none } : Link) with dueEnrols := [], dueReplies := [] } : Link).loseParent)
      = Link.leavesUp := by
    funext q
    by_cases enrolled : q.role = .parent ∧ q.parentState = .enrolled
    · exact (Link.loseParent_enrolled (q := { q with rx := none, dueEnrols := [], dueReplies := [] }) enrolled).trans (if_pos enrolled).symm
    · exact (Link.loseParent_other (q := { q with rx := none, dueEnrols := [], dueReplies := [] }) enrolled).trans (if_neg enrolled).symm
  unfold State.leaveUp State.endFrame
  rw [if_pos up, State.updLinkRecords_updLink, State.updLink_updLink, link]

theorem State.leaveUp_other {s : State} {l : LinkId} (other : (s.link l).state ≠ .up) : s.leaveUp l = s := if_neg other

section Line

variable {s : State} {l : LinkId}

theorem State.restartLink_senseless (absent : (s.link l).sense = false) : s.restartLink l = s :=
  if_neg (by rw [absent]; decide)

theorem State.restartLink_other (sense : (s.link l).sense = true) (other : (s.link l).state ≠ .up) :
    s.restartLink l = s.updLink l (fun q => { q with state := .training, trainingCount := 0 }) := by
  rw [State.restartLink, if_pos sense, State.leaveUp_other other]

theorem State.restartLink_up (sense : (s.link l).sense = true) (up : (s.link l).state = .up) :
    s.restartLink l = (s.updLink l (fun q => { q.leavesUp with state := .training, trainingCount := 0 })).updLinkRecords l
      SiteRecord.closeHeld := by
  rw [State.restartLink, if_pos sense, State.leaveUp_up up, State.updLinkRecords_updLink, State.updLink_updLink]

theorem exec_lineSenseLost (s : State) (l : LinkId) : exec (.lineSenseLost l) s = .next ((s.leaveUp l).updLink l (fun k =>
    if k.state = .down then { k with sense := false } else ({ k with sense := false } : Link).goDown)) := rfl

theorem Link.leavesUp_state (q : Link) : q.leavesUp.state = q.state := by
  unfold Link.leavesUp
  split <;> rfl

theorem exec_lineSenseLost_up (up : (s.link l).state = .up) : exec (.lineSenseLost l) s = .next ((s.updLink l (fun q => { q.leavesUp with
    sense := false, state := .down, downLatch := true })).updLinkRecords l SiteRecord.closeHeld) := by
  have state : (s.link l).leavesUp.state = .up := (Link.leavesUp_state _).trans up
  rw [exec_lineSenseLost, State.leaveUp_up up, State.updLinkRecords_updLink, State.updLink_updLink]
  congr 2
  refine State.updLink_congr _ _ _ _ ?_
  rw [state, if_neg (by decide)]
  rfl

theorem exec_lineSenseLost_other (other : (s.link l).state ≠ .up) : exec (.lineSenseLost l) s = .next (s.updLink l (fun k =>
    if k.state = .down then { k with sense := false } else ({ k with sense := false } : Link).goDown)) := by
  rw [exec_lineSenseLost, State.leaveUp_other other]

end Line

/-- Settles O40: the misses of held exchanges, then each row by the state of the link. -/
theorem lineStateOutcome : Obligations.LineStateOutcome := by
  refine ⟨fun r => ⟨SiteRecord.closeHeld_none, SiteRecord.closeHeld_some⟩, fun l s => ?_⟩
  refine ⟨fun down => ⟨?_, ?_⟩, fun training => ?_, exec_lineSenseLost_up, fun notDown => ?_, State.restartLink_senseless,
    State.restartLink_other, State.restartLink_up⟩
  · rw [exec_lineSenseLost_other (by rw [down]; decide)]
    exact congrArg Host.Outcome.next (State.updLink_congr _ _ _ _ (if_pos down))
  · exact congrArg Host.Outcome.next (State.updLink_congr _ _ _ _ (if_pos down))
  · rw [exec_lineSenseLost_other (by rw [training]; decide)]
    refine congrArg Host.Outcome.next (State.updLink_congr _ _ _ _ ?_)
    rw [if_neg (by rw [training]; decide)]
    unfold Link.goDown
    dsimp only
    rw [if_pos training]
  · exact congrArg Host.Outcome.next (State.updLink_congr _ _ _ _ (if_neg notDown))

/-! ### The link requests (R99, R111, R130 to R134, R139) -/

/-- A request on a link is that link's act; beyond the links there is none. -/
theorem onLink_index (l : LinkId) (act : LinkId → State → State × Result × List Item) : onLink l.index act = act l := by
  funext t
  simp only [onLink, LinkId.ofIndex_index]

theorem request_onLink_beyond {tag link : Nat} {act : LinkId → State → State × Result × List Item} {s : State}
    (idle : s.port.state = .idle) (beyond : 6 ≤ link) : request tag (onLink link act) s = s.respond tag .noRecord [] := by
  rw [request_idle idle]
  simp only [onLink, LinkId.ofIndex_none beyond]

section SetLink

variable {role split : Option Nat} {l : LinkId} {s : State}

theorem LinkRole.ofCode_none {v : Nat} (h : 3 ≤ v) : LinkRole.ofCode v = none := by
  obtain ⟨n, rfl⟩ := Nat.exists_eq_add_of_le h
  rw [Nat.add_comm]; rfl

theorem linkSetInRange_iff : linkSetInRange role split = true ↔ (∀ v, role = some v → v ≤ 2) ∧ (∀ v, split = some v →
    v = 128 ∨ v = 144 ∨ v = 160 ∨ v = 176 ∨ v = 192 ∨ v = 208 ∨ v = 224 ∨ v = 240) := by
  have coded : optCodeOk LinkRole.ofCode role = true ↔ ∀ v, role = some v → v ≤ 2 := by
    cases role with
    | none => simp [optCodeOk]
    | some n =>
      by_cases low : n ≤ 2
      · have : (LinkRole.ofCode n).isSome = true := by interval_cases n <;> rfl
        simpa [optCodeOk, this] using low
      · have : LinkRole.ofCode n = none := LinkRole.ofCode_none (by omega)
        simpa [optCodeOk, this] using low
  cases split <;> simp [linkSetInRange, coded, Config.splits]

theorem State.otherParent_iff : s.otherParent l = true ↔ ∃ m, m ≠ l ∧ (s.link m).role = .parent := by
  simp [State.otherParent, LinkId.mem_all]

theorem State.roleAllowed_iff (within : ∀ v, role = some v → v ≤ 2) :
    s.roleAllowed l (role.bind LinkRole.ofCode) = true ↔
      (role = some 1 → ¬ (∃ d h : Nat, 1 ≤ d ∧ s.stu.dropEntry l d = some h) ∧ ∀ m, m ≠ l → (s.link m).role ≠ .parent)
      ∧ (role = some 2 → ¬ ∃ d h : Nat, 1 ≤ d ∧ s.stu.dropEntry l d = some h) := by
  rw [← State.holdsRecord_iff]
  have others : (∀ m, m ≠ l → (s.link m).role ≠ .parent) ↔ ¬ s.otherParent l = true := by
    rw [State.otherParent_iff]
    exact ⟨fun all ⟨m, other, parent⟩ => all m other parent, fun none m other parent => none ⟨m, other, parent⟩⟩
  rw [others]
  cases role with
  | none => simp [State.roleAllowed]
  | some v =>
    have low := within v rfl
    interval_cases v <;> simp [LinkRole.ofCode, State.roleAllowed]

theorem State.splitAllowed_iff : s.splitAllowed l split = true ↔ ∀ v, split = some v → ∀ j, v ≤ j → slotAt (s.link l).slots j = .free := by
  cases split with
  | none => simp [State.splitAllowed]
  | some v => simp [State.splitAllowed, occupiedFrom_iff]

theorem setLink_range (bad : ¬ linkSetInRange role split = true) : setLink role split l s = (s, .range, []) :=
  if_pos (Bool.eq_false_iff.mpr bad)

theorem setLink_role (fits : linkSetInRange role split = true) (bad : ¬ s.roleAllowed l (role.bind LinkRole.ofCode) = true) :
    setLink role split l s = (s, .role, []) := by
  rw [setLink, if_neg (by rw [fits]; decide), if_pos (Bool.eq_false_iff.mpr bad)]

theorem setLink_conflict (fits : linkSetInRange role split = true) (allowed : s.roleAllowed l (role.bind LinkRole.ofCode) = true)
    (bad : ¬ s.splitAllowed l split = true) : setLink role split l s = (s, .conflict, []) := by
  rw [setLink, if_neg (by rw [fits]; decide), if_neg (by rw [allowed]; decide), if_pos (Bool.eq_false_iff.mpr bad)]

theorem setLink_ok (fits : linkSetInRange role split = true) (allowed : s.roleAllowed l (role.bind LinkRole.ofCode) = true)
    (clear : s.splitAllowed l split = true) : setLink role split l s
      = ((s.setRole l (role.bind LinkRole.ofCode)).setSplit l split, linkSetResult (s.link l) split, []) := by
  rw [setLink, if_neg (by rw [fits]; decide), if_neg (by rw [allowed]; decide), if_neg (by rw [clear]; decide)]

/-- Neither a restart nor a new role moves the split. -/
theorem State.restartLink_split (s : State) (l : LinkId) : ((s.restartLink l).link l).split = (s.link l).split := by
  by_cases sense : (s.link l).sense = true
  · by_cases up : (s.link l).state = .up
    · rw [State.restartLink_up sense up]
      show ((s.updLink l _).link l).split = _
      rw [State.updLink_link_same]
      unfold Link.leavesUp
      dsimp only
      split <;> rfl
    · rw [State.restartLink_other sense up, State.updLink_link_same]
  · rw [State.restartLink_senseless (Bool.not_eq_true _ ▸ sense)]

theorem State.setRole_split (s : State) (l : LinkId) (role : Option LinkRole) : ((s.setRole l role).link l).split = (s.link l).split := by
  unfold State.setRole
  (repeat' split)
  · rfl
  · rw [State.restartLink_split, State.updLink_link_same]
    unfold Link.enterRole Link.leaveRole
    (repeat' split) <;> rfl
  · rfl

theorem State.setSplit_current {v : Nat} (current : v = (s.link l).split) :
    s.setSplit l (some v) = s.updLink l (fun q => { q with pendingSplit := none }) :=
  State.updLink_congr _ _ _ _ (if_pos current)

theorem State.setSplit_new {v : Nat} (new : v ≠ (s.link l).split) :
    s.setSplit l (some v) = s.updLink l (fun q => { q with pendingSplit := some v }) :=
  State.updLink_congr _ _ _ _ (if_neg new)

end SetLink

/-- Settles O41, request by request. -/
theorem linkRequestsOutcome : Obligations.LinkRequestsOutcome := by
  intro tag s idle
  have runs (l : LinkId) (act : LinkId → State → State × Result × List Item) :
      request tag (onLink l.index act) s = (act l s).1.respond tag (act l s).2.1 (act l s).2.2 := by
    rw [onLink_index, request_idle idle]
  have beyond (link : Nat) (out : 6 ≤ link) (act : LinkId → State → State × Result × List Item) :
      request tag (onLink link act) s = s.respond tag .noRecord [] := request_onLink_beyond idle out
  have next {t u : State} (same : t = u) : Host.Outcome.next t = (Host.Outcome.next u : Host.Outcome State Fault Refusal) :=
    congrArg Host.Outcome.next same
  refine ⟨fun link out => ⟨fun n => next (beyond link out _), next (beyond link out _), next (beyond link out _),
    fun take => next (beyond link out _), fun role split => next (beyond link out _)⟩, fun l n out => ?range,
    fun l n low high role => ?role, fun l n low high role => ?opened, fun l => ⟨next (runs l _), next (runs l _)⟩,
    fun l take => ?lookup, fun l role split => ?set⟩
  case range =>
    refine next ((runs l _).trans ?_)
    rw [if_pos (Bool.eq_false_iff.mpr fun within => by obtain ⟨low, high⟩ := inRange_iff.mp within; omega)]
  case role =>
    refine next ((runs l _).trans ?_)
    rw [if_neg (by rw [inRange_iff.mpr ⟨low, high⟩]; decide), if_pos role]
  case opened =>
    refine next ((runs l _).trans ?_)
    rw [if_neg (by rw [inRange_iff.mpr ⟨low, high⟩]; decide), if_neg (not_not.mpr role)]
  case lookup => exact next (runs l _)
  case set =>
    have answer : exec (.linkSet tag l.index role split) s = .next ((setLink role split l s).1.respond tag
        (setLink role split l s).2.1 (setLink role split l s).2.2) := next (runs l _)
    dsimp only
    rw [answer]
    refine ⟨fun bad => ?_, fun fits bad => ?_, fun fits allowed bad => ?_, fun fits allowed clear none => ?_,
      fun fits allowed clear current => ?_, fun v fits allowed clear asked new => ?_⟩
    · rw [setLink_range (mt linkSetInRange_iff.mp bad)]
    · rw [setLink_role (linkSetInRange_iff.mpr fits) (mt (State.roleAllowed_iff fits.1).mp bad)]
    · rw [setLink_conflict (linkSetInRange_iff.mpr fits) ((State.roleAllowed_iff fits.1).mpr allowed) (mt State.splitAllowed_iff.mp bad)]
    · rw [setLink_ok (linkSetInRange_iff.mpr fits) ((State.roleAllowed_iff fits.1).mpr allowed) (State.splitAllowed_iff.mpr clear), none]
      rfl
    · rw [setLink_ok (linkSetInRange_iff.mpr fits) ((State.roleAllowed_iff fits.1).mpr allowed) (State.splitAllowed_iff.mpr clear),
        current, State.setSplit_current (State.setRole_split s l _).symm, linkSetResult]
      dsimp only
      rw [if_pos rfl]
      rfl
    · rw [setLink_ok (linkSetInRange_iff.mpr fits) ((State.roleAllowed_iff fits.1).mpr allowed) (State.splitAllowed_iff.mpr clear),
        asked, State.setSplit_new (by rw [State.setRole_split]; exact new), linkSetResult]
      dsimp only
      rw [if_neg new]
      rfl

/-! ### The boundary that a link takes (R83, R100, R129, R139, R145, R148) -/

/-- The link after the pending split, the enrolment window and the training of a boundary. -/
def Link.trained (boundaryAt : Instant) (k : Link) : Link :=
  let n := min (k.trainingCount + 1) 2
  { k with split := k.pendingSplit.getD k.split, pendingSplit := none, window := k.window - 1,
           trainingCount := if k.state = .training then n else k.trainingCount,
           state := if k.state = .training ∧ 2 ≤ n then .up else k.state,
           hearsFrom := if k.state = .training ∧ 2 ≤ n then boundaryAt else k.hearsFrom }

theorem Link.applySplit_eq (k : Link) : k.applySplit = { k with split := k.pendingSplit.getD k.split, pendingSplit := none } := by
  obtain ⟨⟩ := k
  rename_i pending _ _ _ _ _ _ _ _ _ _ _ _ _ _ _ _ _ _ _
  cases pending <;> rfl

theorem Link.countTraining_eq (boundaryAt : Instant) (k : Link) : k.countTraining boundaryAt = { k with
    trainingCount := if k.state = .training then min (k.trainingCount + 1) 2 else k.trainingCount,
    state := if k.state = .training ∧ 2 ≤ min (k.trainingCount + 1) 2 then .up else k.state,
    hearsFrom := if k.state = .training ∧ 2 ≤ min (k.trainingCount + 1) 2 then boundaryAt else k.hearsFrom } := by
  unfold Link.countTraining Link.finishTraining
  by_cases training : k.state = .training
  · simp only [training, if_true, true_and]
    show (if 2 ≤ min (k.trainingCount + 1) 2 then _ else _) = _
    by_cases full : 2 ≤ min (k.trainingCount + 1) 2
    · simp only [full, if_true]; rfl
    · simp only [full, if_false]; rfl
  · simp only [training, if_false, false_and]

theorem Link.boundary_eq (boundaryAt : Instant) (k : Link) : k.boundary boundaryAt = (k.trained boundaryAt).countSilence := by
  unfold Link.boundary
  dsimp only
  rw [Link.applySplit_eq, Link.countTraining_eq]
  rfl

section Boundary

variable {k : Link}

theorem Link.countSilence_other (other : ¬ (k.role = .parent ∧ k.parentState = .enrolled)) : k.countSilence = k := if_neg other

theorem Link.finishSilence_short (short : k.parentSilence < 8) : k.finishSilence = k := if_neg (not_le.mpr short)

theorem Link.finishSilence_full (full : 8 ≤ k.parentSilence) : k.finishSilence = k.loseParent := if_pos full

theorem Link.countSilence_short (enrolled : k.role = .parent ∧ k.parentState = .enrolled) (short : min (k.parentSilence + 1) 8 < 8) :
    k.countSilence = { k with parentSilence := min (k.parentSilence + 1) 8 } :=
  (if_pos enrolled).trans (Link.finishSilence_short short)

theorem Link.countSilence_full (enrolled : k.role = .parent ∧ k.parentState = .enrolled) (full : min (k.parentSilence + 1) 8 = 8) :
    k.countSilence = { k with parentSilence := 0, parentState := .unenrolled, toRm := k.toRm ++ [.lost] } :=
  (if_pos enrolled).trans ((Link.finishSilence_full full.ge).trans (Link.loseParent_enrolled enrolled))

theorem Link.finishTraining_done (boundaryAt : Instant) (done : k.state = .training ∧ 2 ≤ k.trainingCount) :
    k.finishTraining boundaryAt = { k with state := .up, hearsFrom := boundaryAt } := if_pos done

theorem Link.finishTraining_other (boundaryAt : Instant) (other : ¬ (k.state = .training ∧ 2 ≤ k.trainingCount)) :
    k.finishTraining boundaryAt = k := if_neg other

theorem Link.closeCounted_eq (k : Link) : k.closeCounted = k := by
  unfold Link.closeCounted
  split
  · rename_i closed
    rw [← closed]
  · rfl

end Boundary

/-- An auto-compensation decision in the statement's terms (R145). -/
theorem SiteRecord.adjusts_iff {r : SiteRecord} {boundary : Nat} : r.adjusts boundary = true ↔ r.lifecycle = .active
    ∧ r.ackMode = some .confirmed ∧ r.autoComp = true ∧ r.onTimeSince = true ∧ r.silence ≠ .long ∧ r.stagedCompAt ≠ some boundary := by
  simp [SiteRecord.adjusts, and_assoc]

/-- The compensation that the decision of a boundary leaves. -/
def SiteRecord.adjusted (boundary tTurn : Nat) (r : SiteRecord) : Int :=
  if r.adjusts boundary = true then (match r.lastRoundTrip with
    | some t => autoCompensation t tTurn
    | none => r.compensation) else r.compensation

theorem SiteRecord.linkBoundary_eq (boundary tTurn : Nat) (r : SiteRecord) : r.linkBoundary boundary tTurn = { r with
    compensation := r.adjusted boundary tTurn, onTimeSince := false,
    serviceStarted := if r.lifecycle = .provisional then r.serviceStarted else true } := by
  have adjusted : r.autoAdjust boundary tTurn = { r with compensation := r.adjusted boundary tTurn } := by
    unfold SiteRecord.autoAdjust SiteRecord.adjusted
    by_cases adjusts : r.adjusts boundary = true
    · rw [if_pos adjusts, if_pos adjusts]
      rcases Option.eq_none_or_eq_some r.lastRoundTrip with trip | ⟨t, trip⟩
      · simp only [trip]; rw [← trip]
      · simp only [trip]
    · rw [if_neg adjusts, if_neg adjusts]
  unfold SiteRecord.linkBoundary
  rw [adjusted]

/-- Settles O42: the link and its records at the boundary, then the three threshold rows. -/
theorem linkBoundaryOutcome : Obligations.LinkBoundaryOutcome := by
  intro l s
  refine ⟨⟨_, rfl, rfl, fun m other => State.updLink_link_other s _ other, ?link, ?records⟩, ?expiry, fun done => ?_, fun other => ?_,
    fun ⟨parent, enrolled, full⟩ => ?_, fun other => ?_⟩
  case link =>
    have after : ((s.updLink l (Link.boundary s.clock.boundaryAt)).updLinkRecords l (SiteRecord.linkBoundary s.clock.boundaries s.port.tTurn)).link l
        = ((s.link l).trained s.clock.boundaryAt).countSilence := by
      show (s.updLink l (Link.boundary s.clock.boundaryAt)).link l = _
      rw [State.updLink_link_same, Link.boundary_eq]
    rw [after]
    exact ⟨fun other => Link.countSilence_other (k := (s.link l).trained s.clock.boundaryAt) other,
      fun enrolled short => Link.countSilence_short (k := (s.link l).trained s.clock.boundaryAt) enrolled short,
      fun enrolled full => Link.countSilence_full (k := (s.link l).trained s.clock.boundaryAt) enrolled full⟩
  case records =>
    refine List.map_congr_left fun r _ => ?_
    dsimp only
    refine if_congr beq_iff_eq ?_ rfl
    rw [SiteRecord.linkBoundary_eq, SiteRecord.adjusted, if_congr SiteRecord.adjusts_iff rfl rfl]
    rfl
  case expiry => exact congrArg Host.Outcome.next (State.updLink_id s l _ (Link.closeCounted_eq _))
  · exact congrArg Host.Outcome.next (State.updLink_congr _ _ _ _ (Link.finishTraining_done s.clock.boundaryAt done))
  · exact congrArg Host.Outcome.next (State.updLink_id s l _ (Link.finishTraining_other s.clock.boundaryAt other))
  · exact congrArg Host.Outcome.next (State.updLink_congr _ _ _ _
      ((Link.finishSilence_full full).trans (Link.loseParent_enrolled ⟨parent, enrolled⟩)))
  · refine congrArg Host.Outcome.next (State.updLink_id s l _ ?_)
    by_cases full : 8 ≤ (s.link l).parentSilence
    · exact (Link.finishSilence_full full).trans (Link.loseParent_other fun both => other ⟨both.1, both.2, full⟩)
    · exact Link.finishSilence_short (not_le.mp full)

end Sys2Proof.Machine
end

section
/-! PROOF. The link engines: what a delivery slot sends, the quality that a frame tells, and the ends of exchanges. -/

namespace Sys2Proof.Machine

open Sys2Proof

/-! ### A delivery slot (R97, R137, R138) -/

section Delivery

variable {s : State} {l : LinkId} {slot : Nat} {r : SiteRecord}

theorem slotStart_advance (s : State) (t : Instant) (slot : Nat) : slotStart (s.advance t).clock slot = slotStart s.clock slot := by
  show (s.clock.advance s.tb.f t).boundaryAt + _ = _
  rw [Clock.advance_boundaryAt]
  rfl

theorem State.servedIn_iff : s.servedIn l slot = some r ↔ (s.link l).role = .serve ∧ slot < (s.link l).split ∧ r.lifecycle = .active
    ∧ r.serviceStarted = true ∧ slotAt (s.link l).slots slot = .held r.handle ∧ s.record? r.handle = some r := by
  unfold State.servedIn
  by_cases serves : (s.link l).role = .serve ∧ slot < (s.link l).split
  · rw [if_pos serves]
    obtain ⟨role, below⟩ := serves
    cases held : slotAt (s.link l).slots slot with
    | free => simp
    | reserved h => simp
    | held h =>
      simp only [Option.filter_eq_some_iff, Bool.and_eq_true, beq_iff_eq, SlotEntry.held.injEq]
      constructor
      · rintro ⟨found, active, started⟩
        obtain rfl := (State.record?_some found).2
        exact ⟨role, below, active, started, rfl, found⟩
      · rintro ⟨-, -, active, started, rfl, found⟩
        exact ⟨found, active, started⟩
  · rw [if_neg serves]
    exact ⟨fun is => (nomatch is), fun all => absurd ⟨all.1, all.2.1⟩ serves⟩

theorem SiteRecord.squelched_iff : r.squelched = true ↔ r.squelch = true ∧ r.condition = .unusable := by simp [SiteRecord.squelched]

theorem State.serveSlot_silent {p : Published} (silent : r.squelch = true ∧ r.condition = .unusable) : s.serveSlot l slot p r = s :=
  if_pos (SiteRecord.squelched_iff.mpr silent)

section Loud

variable {p : Published} (loud : ¬ (r.squelch = true ∧ r.condition = .unusable))
include loud

theorem State.serveSlot_sent (up : (s.link l).state = .up) : s.serveSlot l slot p r
    = (s.updLink l (Link.send (slotStart s.clock slot) (.time (timeFrameOf s p r slot)))).updRecord r.handle
      (SiteRecord.sendTime slot (slotStart s.clock slot)) := by
  rw [State.serveSlot, if_neg (mt SiteRecord.squelched_iff.mp loud), if_pos up]

theorem State.serveSlot_missed (notUp : (s.link l).state ≠ .up) (confirmed : r.ackMode = some .confirmed) :
    s.serveSlot l slot p r = s.updRecord r.handle SiteRecord.countMiss := by
  rw [State.serveSlot, if_neg (mt SiteRecord.squelched_iff.mp loud), if_neg notUp, if_pos confirmed]

theorem State.serveSlot_unconfirmed (notUp : (s.link l).state ≠ .up) (unconfirmed : r.ackMode ≠ some .confirmed) :
    s.serveSlot l slot p r = s := by
  rw [State.serveSlot, if_neg (mt SiteRecord.squelched_iff.mp loud), if_neg notUp, if_neg unconfirmed]

end Loud

/-- A delivery slot serves the record that holds it, once local time has come to its start. -/
theorem exec_deliverySlotStart (older : Bool) (served : s.servedIn l slot = some r) : exec (.deliverySlotStart l slot older) s
    = .next ((s.advance (slotStart s.clock slot)).serveSlot l slot (s.copyHeld older) r) := by
  have there : (s.advance (slotStart s.clock slot)).servedIn l slot = some r := served
  show execDeliverySlotStart l slot older s = _
  simp only [execDeliverySlotStart, there]
  rfl

theorem exec_deliverySlotStart_none (older : Bool) (none : s.servedIn l slot = none) :
    exec (.deliverySlotStart l slot older) s = .next (s.advance (slotStart s.clock slot)) := by
  have there : (s.advance (slotStart s.clock slot)).servedIn l slot = Option.none := none
  show execDeliverySlotStart l slot older s = _
  simp only [execDeliverySlotStart, there]

end Delivery

/-- Settles O43, by the record served in the slot. -/
theorem deliverySlotOutcome : Obligations.DeliverySlotOutcome := by
  refine ⟨by decide, fun l slot older s => ⟨fun nobody => ?_, fun r served => ?_⟩⟩
  · refine exec_deliverySlotStart_none older ?_
    by_contra some
    obtain ⟨r, is⟩ := Option.ne_none_iff_exists'.mp some
    exact nobody r (State.servedIn_iff.mp is)
  · have run := exec_deliverySlotStart older (State.servedIn_iff.mpr served)
    have start := slotStart_advance s (slotStart s.clock slot) slot
    refine ⟨fun silent => run.trans ?_, fun loud up => run.trans ?_, fun loud notUp confirmed => run.trans ?_,
      fun loud notUp unconfirmed => run.trans ?_⟩
    · rw [State.serveSlot_silent (s := s.advance (slotStart s.clock slot)) silent]; rfl
    · rw [State.serveSlot_sent (s := s.advance (slotStart s.clock slot)) loud up, start]; rfl
    · rw [State.serveSlot_missed (s := s.advance (slotStart s.clock slot)) loud notUp confirmed]; rfl
    · rw [State.serveSlot_unconfirmed (s := s.advance (slotStart s.clock slot)) loud notUp unconfirmed]; rfl

/-! ### What a frame tells (R155 to R157) -/

section Quality

variable {p : Published} {r : SiteRecord}

/-- The condition that a frame goes by: an interim one in place of NONE (R156). -/
def SiteRecord.told (p : Published) (r : SiteRecord) : Condition := if r.condition = .none then judge p r .none else r.condition

/-- The code sent for a condition (R155). -/
def conditionCode (p : Published) : Condition → Nat
  | .unusable => 15
  | .degraded => 5
  | .inService => inServiceCode p
  | .none => inServiceCode p

theorem qualityCode_eq : qualityCode p r = conditionCode p (r.told p) := by
  have same : (if (r.condition == Condition.none) = true then judge p r .none else r.condition) = r.told p :=
    if_congr beq_iff_eq rfl rfl
  unfold qualityCode
  rw [same]
  cases r.told p <;> rfl

theorem inServiceCode_sat (locked : p.state = .locked) (sat : p.selected = some .satA ∨ p.selected = some .satB) :
    inServiceCode p = 0 := by
  unfold inServiceCode
  rw [locked]
  rcases sat with is | is <;> rw [is] <;> rfl

theorem inServiceCode_parent (locked : p.state = .locked) (parent : p.selected = some .parent) : inServiceCode p = 1 := by
  unfold inServiceCode
  rw [locked, parent]
  rfl

theorem inServiceCode_other : (p.state = .acquire → inServiceCode p = 2) ∧ (p.state = .freqHold → inServiceCode p = 3)
    ∧ (p.state = .holdover → inServiceCode p = 4) ∧ (p.state = .freerun → inServiceCode p = 5) := by
  unfold inServiceCode
  refine ⟨?_, ?_, ?_, ?_⟩ <;> intro state <;> rw [state]

end Quality

/-- Settles O44: the code by the condition told, the depth by the reference selected. -/
theorem frameQuality : Obligations.FrameQuality := by
  refine ⟨fun p r => ?quality, fun p depth => ?depth⟩
  case quality =>
    rw [qualityCode_eq]
    obtain ⟨acquire, freqHold, holdover, freerun⟩ := inServiceCode_other (p := p)
    refine ⟨fun c => (congrArg (conditionCode p) c :), fun c => (congrArg (conditionCode p) c :), fun c => ?_⟩
    rw [show r.told p = .inService from c]
    exact ⟨inServiceCode_sat, inServiceCode_parent, acquire, freqHold, holdover, freerun⟩
  case depth =>
    unfold chainDepth
    refine ⟨fun sat => ?_, fun d parent known => ?_, fun parent unknown => ?_, fun other => ?_⟩
    · rcases sat with is | is <;> rw [is]
    · rw [parent, known]
    · rw [parent, unknown]
    · rcases other with is | is | is <;> rw [is]

/-! ### Frames begun and cut off, and the ends of windows (R136, R143) -/

section Ends

variable {s : State} {l : LinkId}

theorem State.badFrame_eq (s : State) (l : LinkId) : s.badFrame l = (s.updLink l (fun q => { q with
    badFrames := min (q.badFrames + 1) 65535, rx := none })).updLinkRecords l SiteRecord.closeHeld := by
  unfold State.badFrame State.endFrame
  rw [State.updLink_updLink]
  rfl

theorem State.endFrame_eq (s : State) (l : LinkId) :
    s.endFrame l = (s.updLink l (fun q => { q with rx := none })).updLinkRecords l SiteRecord.closeHeld := rfl

theorem State.beginFrame_none {t : Instant} (none : (s.link l).rx = none) : s.beginFrame l t = s := by
  simp only [State.beginFrame, none]

theorem State.beginFrame_same {t : Instant} {f : RxFrame} (receiving : (s.link l).rx = some f) (same : f.instant = t) :
    s.beginFrame l t = s := by
  simp only [State.beginFrame, receiving, if_pos same]

theorem State.beginFrame_other {t : Instant} {f : RxFrame} (receiving : (s.link l).rx = some f) (other : f.instant ≠ t) :
    s.beginFrame l t = s.badFrame l := by
  simp only [State.beginFrame, receiving, if_neg other]

theorem Link.receives_iff {k : Link} : k.receives = true ↔ k.state = .up ∧ k.role ≠ .off := by simp [Link.receives]

theorem Link.hears_iff {k : Link} {t : Instant} : k.hears t = true ↔ k.state = .up ∧ k.role ≠ .off ∧ k.hearsFrom ≤ t := by
  simp [Link.hears, Link.receives_iff, and_assoc]

theorem Exchange.isOf_iff {slot index : Nat} {x : Exchange} : x.isOf slot index = true ↔ x.slot = slot ∧ x.index = index := by
  simp [Exchange.isOf]

/-- The record has the exchange open on the link. -/
def SiteRecord.awaits (l : LinkId) (slot index : Nat) (r : SiteRecord) : Prop :=
  r.link = l ∧ ∃ x ∈ r.exchanges, x.slot = slot ∧ x.index = index

theorem SiteRecord.awaits_iff {slot index : Nat} {r : SiteRecord} :
    (r.link = l ∧ r.exchanges.any (Exchange.isOf slot index) = true) ↔ r.awaits l slot index := by
  simp [SiteRecord.awaits, Exchange.isOf_iff]

section Window

variable {h slot index : Nat} {receiving : Option RxFrame}

theorem exec_exchangeWindowEnd_noRecord (absent : (s.nowReceiving l receiving).record? h = none) :
    exec (.exchangeWindowEnd l h slot index receiving) s = .next (s.nowReceiving l receiving) := by
  show execExchangeWindowEnd l h slot index receiving s = _
  simp only [execExchangeWindowEnd, absent]

theorem exec_exchangeWindowEnd_closed {r : SiteRecord} (found : (s.nowReceiving l receiving).record? h = some r)
    (closed : ¬ r.awaits l slot index) : exec (.exchangeWindowEnd l h slot index receiving) s = .next (s.nowReceiving l receiving) := by
  show execExchangeWindowEnd l h slot index receiving s = _
  simp only [execExchangeWindowEnd, found, if_neg (mt SiteRecord.awaits_iff.mp closed)]

theorem exec_exchangeWindowEnd_open {r : SiteRecord} (found : (s.nowReceiving l receiving).record? h = some r)
    (awaits : r.awaits l slot index) : exec (.exchangeWindowEnd l h slot index receiving) s
      = .next ((s.nowReceiving l receiving).endWindow l slot index r) := by
  show execExchangeWindowEnd l h slot index receiving s = _
  simp only [execExchangeWindowEnd, found, if_pos (SiteRecord.awaits_iff.mpr awaits)]

theorem State.endWindow_held {r : SiteRecord} {f : RxFrame} (receiving : (s.link l).rx = some f) (from' : byteAt f.bytes 0 = r.drop) :
    s.endWindow l slot index r = s.updRecord r.handle (SiteRecord.holdExchange slot index) := by
  simp only [State.endWindow, receiving]
  exact if_pos (by simpa [RxFrame.fromDrop] using from')

theorem State.endWindow_missed {r : SiteRecord} (other : ∀ f, (s.link l).rx = some f → byteAt f.bytes 0 ≠ r.drop) :
    s.endWindow l slot index r = s.updRecord r.handle (SiteRecord.missExchange slot index) := by
  cases rx : (s.link l).rx with
  | none => simp only [State.endWindow, rx]
  | some f =>
    simp only [State.endWindow, rx]
    exact if_neg (by simpa [RxFrame.fromDrop] using other f rx)

/-- What the operand tells of the frame being received, where the LE took its address character. -/
theorem State.nowReceiving_some (f : RxFrame) : s.nowReceiving l (some f)
    = if (s.link l).state = .up ∧ (s.link l).role ≠ .off ∧ (s.link l).hearsFrom ≤ f.instant
      then ((s.advance f.instant).beginFrame l f.instant).updLink l (fun q => { q with rx := some f }) else s.advance f.instant :=
  if_congr Link.hears_iff rfl rfl

/-- The end of a window, in the state that what was told left. -/
theorem exchangeWindowEnd_outcome {t : State} (told : s.nowReceiving l receiving = t) :
    let rx := (t.link l).rx
    let run := exec (.exchangeWindowEnd l h slot index receiving) s
    let theOne := fun x : Exchange => x.slot == slot && x.index == index
    (t.record? h = none → run = .next t)
    ∧ (∀ r, t.record? h = some r → ¬ r.awaits l slot index → run = .next t)
    ∧ (∀ r f, t.record? h = some r → r.awaits l slot index → rx = some f → byteAt f.bytes 0 = r.drop →
        run = .next (t.updRecord h (fun q => { q with
          exchanges := q.exchanges.map (fun x => if theOne x then { x with held := true } else x) })))
    ∧ (∀ r, t.record? h = some r → r.awaits l slot index → (∀ f, rx = some f → byteAt f.bytes 0 ≠ r.drop) →
        let n := fun q : SiteRecord => min (q.missRun + 1) 255
        run = .next (t.updRecord h (fun q => { q with
          exchanges := q.exchanges.filter (fun x => !theOne x), missed := min (q.missed + 1) 65535, missRun := n q,
          silence := if n q < 3 then .none else if n q < 32 then .short else .long }))) := by
  subst told
  refine ⟨exec_exchangeWindowEnd_noRecord, fun r found closed => exec_exchangeWindowEnd_closed found closed,
    fun r f found awaits receiving from' => ?_, fun r found awaits other => ?_⟩
  · dsimp only
    rw [exec_exchangeWindowEnd_open found awaits, State.endWindow_held receiving from', (State.record?_some found).2]
    rfl
  · dsimp only
    rw [exec_exchangeWindowEnd_open found awaits, State.endWindow_missed other, (State.record?_some found).2]
    rfl

end Window

end Ends

/-- Settles O46: the frame cut off, the end of a window, the gap. -/
theorem exchangeEnds : Obligations.ExchangeEnds := by
  refine ⟨fun l t s => ⟨State.beginFrame_none, fun f => State.beginFrame_same,
    fun f receiving other => (State.beginFrame_other receiving other).trans (State.badFrame_eq s l)⟩,
    fun l h slot index receiving s => ?window, fun l s => ⟨fun deaf => ?_, fun takes => ?_⟩⟩
  case window =>
    cases receiving with
    | none => exact exchangeWindowEnd_outcome rfl
    | some f => exact exchangeWindowEnd_outcome (State.nowReceiving_some f)
  · exact congrArg Host.Outcome.next (if_neg (mt Link.receives_iff.mp deaf))
  · exact congrArg Host.Outcome.next ((if_pos (Link.receives_iff.mpr takes)).trans (State.badFrame_eq s l))

end Sys2Proof.Machine
end

section
/-! PROOF. Frames taken: replies, ENROLs, discards, and the parent role. -/

namespace Sys2Proof.Machine

open Sys2Proof

/-! ### A frame taken whole (R135, R136) -/

theorem State.updLinkRecords_link (s : State) (l m : LinkId) (f : SiteRecord → SiteRecord) :
    (s.updLinkRecords l f).link m = s.link m := rfl

/-- A frame that begins leaves of its link all but the bad frames and what is received. -/
theorem State.beginFrame_link (s : State) (l : LinkId) (t : Instant) : (s.beginFrame l t).link l = { s.link l with
    badFrames := ((s.beginFrame l t).link l).badFrames, rx := ((s.beginFrame l t).link l).rx } := by
  cases rx : (s.link l).rx with
  | none => rw [State.beginFrame_none rx]
  | some f =>
    by_cases same : f.instant = t
    · rw [State.beginFrame_same rx same]
    · rw [State.beginFrame_other rx same, State.badFrame_eq]
      rw [State.updLinkRecords_link, State.updLink_link_same]

/-- A frame that begins changes nothing beside links and records. -/
theorem State.beginFrame_rest (s : State) (l : LinkId) (t : Instant) :
    (s.beginFrame l t).port = s.port ∧ (s.beginFrame l t).clock = s.clock := by
  unfold State.beginFrame
  (repeat' split) <;> exact ⟨rfl, rfl⟩

section Taken

variable {s : State} {l : LinkId} {t : Instant} {f : LinkFrame}

/-- The state in which a frame is judged: local time at its end, and another frame cut off. -/
def State.judging (s : State) (l : LinkId) (t : Instant) (f : LinkFrame) : State := (s.advance (frameEnd t f)).beginFrame l t

theorem State.judging_link (s : State) (l : LinkId) (t : Instant) (f : LinkFrame) : (s.judging l t f).link l = { s.link l with
    badFrames := ((s.judging l t f).link l).badFrames, rx := ((s.judging l t f).link l).rx } :=
  State.beginFrame_link (s.advance (frameEnd t f)) l t

theorem State.judging_role : ((s.judging l t f).link l).role = (s.link l).role := by rw [State.judging_link]

theorem State.frameTaken_deaf (deaf : ¬ ((s.link l).state = .up ∧ (s.link l).role ≠ .off ∧ (s.link l).hearsFrom ≤ t)) :
    s.frameTaken l t f = s.advance (frameEnd t f) :=
  if_neg (mt Link.hears_iff.mp deaf)

theorem State.takeFrame_hears (hears : (s.link l).hears t = true) :
    s.takeFrame l t f = (if (s.link l).role = .parent then s.parentFrame l t f else s.serveFrame l t f).endFrame l := if_pos hears

theorem State.judging_hears (takes : (s.link l).state = .up ∧ (s.link l).role ≠ .off ∧ (s.link l).hearsFrom ≤ t) :
    ((s.judging l t f).link l).hears t = true := by
  rw [Link.hears_iff, State.judging_link]
  exact takes

section Takes

variable (takes : (s.link l).state = .up ∧ (s.link l).role ≠ .off ∧ (s.link l).hearsFrom ≤ t)
include takes

theorem State.frameTaken_takes : s.frameTaken l t f = (s.judging l t f).takeFrame l t f :=
  if_pos (Link.hears_iff.mpr takes)

theorem State.frameTaken_parent (parent : (s.link l).role = .parent) :
    s.frameTaken l t f = ((s.judging l t f).parentFrame l t f).endFrame l := by
  rw [State.frameTaken_takes takes, State.takeFrame_hears (State.judging_hears takes), if_pos (State.judging_role.trans parent)]

theorem State.frameTaken_serve (serve : (s.link l).role = .serve) :
    s.frameTaken l t f = ((s.judging l t f).serveFrame l t f).endFrame l := by
  have notParent : ((s.judging l t f).link l).role ≠ .parent := by rw [State.judging_role, serve]; decide
  rw [State.frameTaken_takes takes, State.takeFrame_hears (State.judging_hears takes), if_neg notParent]

/-- A link that takes frames serves where it has no parent. -/
theorem Link.serves_of_takes (other : (s.link l).role ≠ .parent) : (s.link l).role = .serve := by
  cases role : (s.link l).role with
  | serve => rfl
  | parent => exact absurd role other
  | off => exact absurd role takes.2.1

end Takes

end Taken

/-! ### The end of each frame (R135, R194) -/

theorem frameEnd_of_length {f : LinkFrame} {n : Nat} {d : Int} (length : (encodeLinkFrame f).length = n)
    (lasts : (n : Int) * 5500000 = d) (t : Instant) : frameEnd t f = t + d := by
  rw [frameEnd, length, ← lasts]
  rfl

theorem encodeLinkFrame_time_length (f : TimeFrame) : (encodeLinkFrame (.time f)).length = 25 := by
  simp [encodeLinkFrame, withCheck, beSigned]

theorem encodeLinkFrame_call_length (addr hubId depth : Nat) (seconds : Seconds) :
    (encodeLinkFrame (.call addr hubId depth seconds)).length = 14 := by simp [encodeLinkFrame, withCheck]

theorem encodeLinkFrame_farewell_length (addr siteId hubId : Nat) : (encodeLinkFrame (.farewell addr siteId hubId)).length = 11 := by
  simp [encodeLinkFrame, withCheck]

theorem encodeLinkFrame_reply_length (addr slot index : Nat) : (encodeLinkFrame (.reply addr slot index)).length = 5 := by
  simp [encodeLinkFrame, withCheck]

theorem encodeLinkFrame_enrol_length (addr siteId : Nat) (cap : Byte) : (encodeLinkFrame (.enrol addr siteId cap)).length = 8 := by
  simp [encodeLinkFrame, withCheck]

theorem frameEnd_time (t : Instant) (f : TimeFrame) : frameEnd t (.time f) = t + 137500000 :=
  frameEnd_of_length (encodeLinkFrame_time_length f) (by norm_num) t

theorem frameEnd_call (t : Instant) (addr hubId depth : Nat) (seconds : Seconds) :
    frameEnd t (.call addr hubId depth seconds) = t + 77000000 :=
  frameEnd_of_length (encodeLinkFrame_call_length addr hubId depth seconds) (by norm_num) t

theorem frameEnd_farewell (t : Instant) (addr siteId hubId : Nat) : frameEnd t (.farewell addr siteId hubId) = t + 60500000 :=
  frameEnd_of_length (encodeLinkFrame_farewell_length addr siteId hubId) (by norm_num) t

theorem frameEnd_reply (t : Instant) (addr slot index : Nat) : frameEnd t (.reply addr slot index) = t + 27500000 :=
  frameEnd_of_length (encodeLinkFrame_reply_length addr slot index) (by norm_num) t

theorem frameEnd_enrol (t : Instant) (addr siteId : Nat) (cap : Byte) : frameEnd t (.enrol addr siteId cap) = t + 44000000 :=
  frameEnd_of_length (encodeLinkFrame_enrol_length addr siteId cap) (by norm_num) t

/-! ### Replies (R142) -/

theorem State.recordAtDrop?_eq (s : State) (l : LinkId) {d : Nat} (first : 1 ≤ d) :
    s.recordAtDrop? l d = (s.stu.dropEntry l d).bind s.record? := by
  have present : (d == 0) = false := by rw [beq_eq_false_iff_ne]; omega
  simp only [State.recordAtDrop?, present, Bool.false_eq_true, if_false]
  show _ = (((s.stu.dropMaps.get l)[d - 1]?).join).bind s.record?
  cases ((s.stu.dropMaps.get l)[d - 1]?).join <;> rfl

section Reply

variable {s : State} {l : LinkId} {t : Instant} {addr slot index : Nat} {r : SiteRecord}

theorem State.serveReply_malformed (bad : addr = 0 ∨ 15 < index) : s.serveReply l t addr slot index = s.updLink l Link.countBad :=
  if_pos bad

theorem State.serveReply_nobody (addressed : 1 ≤ addr) (within : index ≤ 15)
    (nobody : ∀ r, (s.stu.dropEntry l addr).bind s.record? = some r → r.lifecycle ≠ .active) :
    s.serveReply l t addr slot index = s.updLink l Link.countStray := by
  rw [State.serveReply, if_neg (by omega), State.recordAtDrop?_eq s l addressed]
  cases found : (s.stu.dropEntry l addr).bind s.record? with
  | none => rfl
  | some r => exact if_neg (nobody r found)

theorem State.serveReply_heard (addressed : 1 ≤ addr) (within : index ≤ 15)
    (found : (s.stu.dropEntry l addr).bind s.record? = some r) (active : r.lifecycle = .active) :
    s.serveReply l t addr slot index = s.hearReply l r t slot index := by
  rw [State.serveReply, if_neg (by omega), State.recordAtDrop?_eq s l addressed, found]
  exact if_pos active

theorem State.hearReply_stray (none : ∀ x ∈ r.exchanges, ¬ (x.slot = slot ∧ x.index = index)) :
    s.hearReply l r t slot index = if r.ackMode = some .confirmed then (s.updLink l Link.countStray).updRecord r.handle
      (fun q => q.withMissRun 0) else s.updLink l Link.countStray := by
  have absent : r.exchanges.find? (Exchange.isOf slot index) = Option.none := by
    rw [List.find?_eq_none]
    exact fun x m => mt Exchange.isOf_iff.mp (none x m)
  simp only [State.hearReply, absent]

theorem State.hearReply_matched {before after : List Exchange} {x : Exchange} (split : r.exchanges = before ++ x :: after)
    (is : x.slot = slot ∧ x.index = index) (first : ∀ y ∈ before, ¬ (y.slot = slot ∧ y.index = index)) :
    s.hearReply l r t slot index = s.updRecord r.handle (SiteRecord.classify x t) := by
  have found : r.exchanges.find? (Exchange.isOf slot index) = some x := by
    rw [split, List.find?_append, List.find?_eq_none.mpr fun y m => mt Exchange.isOf_iff.mp (first y m)]
    simp [Exchange.isOf_iff.mpr is]
  simp only [State.hearReply, found]

theorem SiteRecord.classify_onTime {x : Exchange} (inside : x.sendTime ≤ t ∧ t < x.sendTime + 3906250000) (q : SiteRecord) :
    q.classify x t = { q with
      exchanges := q.exchanges.filter (fun y => !(y.slot == x.slot && y.index == x.index)), onTime := min (q.onTime + 1) 65535,
      lastRoundTrip := some (((t - x.sendTime) / 1000).toNat), onTimeSince := true, missRun := 0, silence := .none } := by
  unfold SiteRecord.classify
  dsimp only
  rw [if_pos (show x.sendTime ≤ t ∧ t < x.sendTime + Config.slotPs from inside)]
  rfl

theorem SiteRecord.classify_late {x : Exchange} (outside : ¬ (x.sendTime ≤ t ∧ t < x.sendTime + 3906250000)) (q : SiteRecord) :
    q.classify x t = { q with
      exchanges := q.exchanges.filter (fun y => !(y.slot == x.slot && y.index == x.index)), late := min (q.late + 1) 65535,
      missRun := 0, silence := .none } := by
  unfold SiteRecord.classify
  dsimp only
  rw [if_neg (show ¬ (x.sendTime ≤ t ∧ t < x.sendTime + Config.slotPs) from outside)]
  rfl

end Reply

/-- Settles O47: whether the frame is taken, the role and the form, the record at the drop, and the exchange it matches. -/
theorem replyOutcome : Obligations.ReplyOutcome := by
  intro l t addr slot index s
  have run : exec (.replyFrame l t addr slot index) s = .next (s.frameTaken l t (.reply addr slot index)) := rfl
  have begun : (s.advance (t + 27500000)).beginFrame l t = s.judging l t (.reply addr slot index) := by
    rw [State.judging, frameEnd_reply]
  have late {x : Exchange} (out : t < x.sendTime ∨ x.sendTime + 3906250000 ≤ t) : ¬ (x.sendTime ≤ t ∧ t < x.sendTime + 3906250000) := by
    rintro ⟨low, high⟩
    rcases out with out | out
    · exact absurd low (not_le.mpr out)
    · exact absurd high (not_lt.mpr out)
  dsimp only
  rw [run, begun]
  refine ⟨fun v => State.endFrame_eq v l, fun deaf => ?_, fun takes bad => ?_, fun takes serve addressed within nobody => ?_,
    fun r takes serve addressed within found active => ⟨fun none => ⟨fun confirmed => ?_, fun unconfirmed => ?_⟩,
      fun before x after split is first => ⟨fun low high => ?_, fun out => ?_⟩⟩⟩
  · rw [State.frameTaken_deaf deaf, frameEnd_reply]
  · by_cases parent : (s.link l).role = .parent
    · rw [State.frameTaken_parent takes parent]; rfl
    · rw [State.frameTaken_serve takes (Link.serves_of_takes takes parent), State.serveFrame,
        State.serveReply_malformed (bad.resolve_left parent)]
      rfl
  · rw [State.frameTaken_serve takes serve, State.serveFrame, State.serveReply_nobody addressed within nobody]
    rfl
  · rw [State.frameTaken_serve takes serve, State.serveFrame, State.serveReply_heard addressed within found active,
      State.hearReply_stray none, if_pos confirmed]
    rfl
  · rw [State.frameTaken_serve takes serve, State.serveFrame, State.serveReply_heard addressed within found active,
      State.hearReply_stray none, if_neg unconfirmed]
    rfl
  · rw [State.frameTaken_serve takes serve, State.serveFrame, State.serveReply_heard addressed within found active,
      State.hearReply_matched split is first, funext (SiteRecord.classify_onTime (x := x) ⟨low, high⟩), is.1, is.2]
  · rw [State.frameTaken_serve takes serve, State.serveFrame, State.serveReply_heard addressed within found active,
      State.hearReply_matched split is first, funext (SiteRecord.classify_late (x := x) (late out)), is.1, is.2]

end Sys2Proof.Machine
end

section
/-! PROOF. Frames taken in PARENT role, and the sends scheduled there. -/

namespace Sys2Proof.Machine

open Sys2Proof

section Parent

variable {s : State} {l : LinkId} {t : Instant}

/-! ### The state in which a frame is judged -/

theorem State.judging_ownDrop {f : LinkFrame} : ((s.judging l t f).link l).ownDrop = (s.link l).ownDrop := by rw [State.judging_link]

theorem State.judging_parentState {f : LinkFrame} : ((s.judging l t f).link l).parentState = (s.link l).parentState := by
  rw [State.judging_link]

theorem State.judging_port {f : LinkFrame} : (s.judging l t f).port = s.port := (State.beginFrame_rest _ l t).1

theorem State.judging_clock {f : LinkFrame} : (s.judging l t f).clock = (s.advance (frameEnd t f)).clock :=
  (State.beginFrame_rest _ l t).2

/-! ### A CALL (R146) -/

section Call

variable {addr hubId depth : Nat} {seconds : Seconds}

theorem State.parentFrame_call_own (addressed : addr ≠ 0) (own : some addr = (s.link l).ownDrop) :
    s.parentFrame l t (.call addr hubId depth seconds) = s.updLink l Link.countBad := by
  simp only [State.parentFrame, if_neg addressed, if_pos own]

theorem State.parentFrame_call_other (addressed : addr ≠ 0) (other : some addr ≠ (s.link l).ownDrop) :
    s.parentFrame l t (.call addr hubId depth seconds) = s := by
  simp only [State.parentFrame, if_neg addressed, if_neg other]

theorem State.parentFrame_call_enrolled (enrolled : (s.link l).parentState = .enrolled) :
    s.parentFrame l t (.call 0 hubId depth seconds) = s := by
  have notUn : (s.link l).parentState ≠ .unenrolled := by rw [enrolled]; decide
  simp only [State.parentFrame, State.parentCall, if_true, if_neg notUn]

theorem State.parentFrame_call_unenrolled (unenrolled : (s.link l).parentState = .unenrolled) :
    s.parentFrame l t (.call 0 hubId depth seconds)
      = s.updLink l (fun q => { q with dueEnrols := q.dueEnrols ++ [t + s.port.tTurn * 1000] }) := by
  simp only [State.parentFrame, State.parentCall, if_true, if_pos unenrolled]
  rfl

end Call

/-! ### A TIME frame (R147) -/

section Time

variable {f : TimeFrame}

theorem State.parentFrame_time_foreign (foreign : f.addr ≠ 0 ∧ some f.addr ≠ (s.link l).ownDrop) :
    s.parentFrame l t (.time f) = s := by
  simp only [State.parentFrame]
  rw [if_pos ⟨foreign.2, foreign.1⟩]

theorem State.parentFrame_time_malformed (here : ¬ (f.addr ≠ 0 ∧ some f.addr ≠ (s.link l).ownDrop))
    (malformed : f.addr = 0 ∨ 239 < f.slot ∨ 15 < f.index) : s.parentFrame l t (.time f) = s.updLink l Link.countBad := by
  simp only [State.parentFrame]
  rw [if_neg fun h => here h.symm, if_pos malformed]

theorem State.parentFrame_time (here : ¬ (f.addr ≠ 0 ∧ some f.addr ≠ (s.link l).ownDrop))
    (sound : ¬ (f.addr = 0 ∨ 239 < f.slot ∨ 15 < f.index)) : s.parentFrame l t (.time f) = s.parentTime l t f := by
  simp only [State.parentFrame]
  rw [if_neg fun h => here h.symm, if_neg sound]

theorem State.parentTime_unasked (unasked : f.replyRequested = false) : s.parentTime l t f = s.updLink l (Link.takeTime t f) := by
  unfold State.parentTime
  rw [unasked]
  rfl

theorem State.parentTime_asked (asked : f.replyRequested = true) : s.parentTime l t f
    = (s.updLink l (Link.takeTime t f)).updLink l (fun q => { q with
        dueReplies := q.dueReplies ++ [{ due := t + s.port.tTurn * 1000, slot := f.slot, index := f.index }] }) := by
  unfold State.parentTime
  rw [asked]
  rfl

end Time

/-! ### A FAREWELL (R148) -/

section Farewell

variable {addr siteId hubId : Nat}

theorem State.parentFrame_farewell_zero : s.parentFrame l t (.farewell 0 siteId hubId) = s.updLink l Link.countBad := rfl

/-- The frame takes the parent away: own drop, the hub identity, and enrolled. -/
theorem State.parentFrame_farewell_leaves (parent : (s.link l).role = .parent) (addressed : addr ≠ 0)
    (leaves : some addr = (s.link l).ownDrop ∧ siteId = s.port.hubIdentity ∧ (s.link l).parentState = .enrolled) :
    s.parentFrame l t (.farewell addr siteId hubId) = s.updLink l (fun q => { q with
      parentState := .unenrolled, parentSilence := 0, toRm := q.toRm ++ [.lost] }) := by
  obtain ⟨own, hub, enrolled⟩ := leaves
  simp only [State.parentFrame, State.parentFarewell, if_neg addressed, if_pos own, if_pos hub]
  exact State.updLink_congr _ _ _ _ (Link.loseParent_enrolled ⟨parent, enrolled⟩)

theorem State.parentFrame_farewell_stays (addressed : addr ≠ 0)
    (stays : ¬ (some addr = (s.link l).ownDrop ∧ siteId = s.port.hubIdentity ∧ (s.link l).parentState = .enrolled)) :
    s.parentFrame l t (.farewell addr siteId hubId) = s := by
  simp only [State.parentFrame, State.parentFarewell, if_neg addressed]
  by_cases own : some addr = (s.link l).ownDrop
  · rw [if_pos own]
    by_cases hub : siteId = s.port.hubIdentity
    · rw [if_pos hub]
      exact State.updLink_id s l _ (Link.loseParent_other fun both => stays ⟨own, hub, both.2⟩)
    · rw [if_neg hub]
  · rw [if_neg own]

end Farewell

end Parent

/-- A frame that only a child takes is a bad one in SERVE role. -/
theorem State.serveFrame_foreign {s : State} {l : LinkId} {t : Instant} {f : LinkFrame}
    (child : ∀ s : State, s.serveFrame l t f = s.updLink l Link.countBad)
    (takes : (s.link l).state = .up ∧ (s.link l).role ≠ .off ∧ (s.link l).hearsFrom ≤ t) (serve : (s.link l).role = .serve) :
    s.frameTaken l t f = ((s.judging l t f).updLink l Link.countBad).endFrame l := by
  rw [State.frameTaken_serve takes serve, child]

/-- Settles O49: each frame by the role, its address and its form, then the sends. -/
theorem parentRoleOutcome : Obligations.ParentRoleOutcome := by
  refine ⟨fun l t s => ⟨fun addr hubId depth seconds => ?call, fun f => ?time, fun addr siteId hubId => ?farewell⟩,
    fun l s => ⟨fun none => ?_, fun d rest due => ?_, fun none => ?_, fun d rest due => ?_⟩⟩
  case call =>
    have run : exec (.parentCallFrame l t addr hubId depth seconds) s = .next (s.frameTaken l t (.call addr hubId depth seconds)) := rfl
    have begun : (s.advance (t + 77000000)).beginFrame l t = s.judging l t (.call addr hubId depth seconds) := by
      rw [State.judging, frameEnd_call]
    dsimp only
    rw [run, begun]
    refine ⟨fun deaf => ?_, fun takes bad => ?_, fun takes parent addressed other => ?_, fun takes parent zero enrolled => ?_,
      fun takes parent zero unenrolled => ?_⟩
    · rw [State.frameTaken_deaf deaf, frameEnd_call]
    · rcases bad with serve | ⟨addressed, own⟩
      · rw [State.serveFrame_foreign (fun _ => rfl) takes serve]; rfl
      · by_cases parent : (s.link l).role = .parent
        · rw [State.frameTaken_parent takes parent, State.parentFrame_call_own addressed (own.trans State.judging_ownDrop.symm)]; rfl
        · rw [State.serveFrame_foreign (fun _ => rfl) takes (Link.serves_of_takes takes parent)]; rfl
    · rw [State.frameTaken_parent takes parent, State.parentFrame_call_other addressed (by rw [State.judging_ownDrop]; exact other)]
    · subst zero
      rw [State.frameTaken_parent takes parent, State.parentFrame_call_enrolled (State.judging_parentState.trans enrolled)]
    · subst zero
      rw [State.frameTaken_parent takes parent, State.parentFrame_call_unenrolled (State.judging_parentState.trans unenrolled),
        State.judging_port]
  case time =>
    have run : exec (.parentTimeFrame l t f) s = .next (s.frameTaken l t (.time f)) := rfl
    have begun : (s.advance (t + 137500000)).beginFrame l t = s.judging l t (.time f) := by rw [State.judging, frameEnd_time]
    have own : ((s.judging l t (.time f)).link l).ownDrop = (s.link l).ownDrop := State.judging_ownDrop
    dsimp only
    rw [run, begun]
    refine ⟨fun deaf => ?_, fun takes bad => ?_, fun takes parent foreign => ?_, fun takes parent here sound unasked => ?_,
      fun takes parent here sound asked => ?_⟩
    · rw [State.frameTaken_deaf deaf, frameEnd_time]
    · rcases bad with serve | ⟨here, malformed⟩
      · rw [State.serveFrame_foreign (fun _ => rfl) takes serve]; rfl
      · by_cases parent : (s.link l).role = .parent
        · rw [State.frameTaken_parent takes parent, State.parentFrame_time_malformed (by rw [own]; exact here) malformed]; rfl
        · rw [State.serveFrame_foreign (fun _ => rfl) takes (Link.serves_of_takes takes parent)]; rfl
    · rw [State.frameTaken_parent takes parent, State.parentFrame_time_foreign (by rw [own]; exact foreign)]
    · rw [State.frameTaken_parent takes parent, State.parentFrame_time (by rw [own]; exact here) sound,
        State.parentTime_unasked unasked]
      rfl
    · rw [State.frameTaken_parent takes parent, State.parentFrame_time (by rw [own]; exact here) sound,
        State.parentTime_asked asked, State.judging_port]
      rfl
  case farewell =>
    have run : exec (.parentFarewellFrame l t addr siteId hubId) s = .next (s.frameTaken l t (.farewell addr siteId hubId)) := rfl
    have begun : (s.advance (t + 60500000)).beginFrame l t = s.judging l t (.farewell addr siteId hubId) := by
      rw [State.judging, frameEnd_farewell]
    have same : (some addr = ((s.judging l t (.farewell addr siteId hubId)).link l).ownDrop
          ∧ siteId = (s.judging l t (.farewell addr siteId hubId)).port.hubIdentity
          ∧ ((s.judging l t (.farewell addr siteId hubId)).link l).parentState = .enrolled)
        ↔ some addr = (s.link l).ownDrop ∧ siteId = s.port.hubIdentity ∧ (s.link l).parentState = .enrolled := by
      rw [State.judging_ownDrop, State.judging_port, State.judging_parentState]
    dsimp only
    rw [run, begun]
    refine ⟨fun deaf => ?_, fun takes bad => ?_, fun takes parent addressed stays => ?_, fun takes parent addressed leaves => ?_⟩
    · rw [State.frameTaken_deaf deaf, frameEnd_farewell]
    · rcases bad with serve | zero
      · rw [State.serveFrame_foreign (fun _ => rfl) takes serve]; rfl
      · by_cases parent : (s.link l).role = .parent
        · subst zero
          rw [State.frameTaken_parent takes parent, State.parentFrame_farewell_zero]; rfl
        · rw [State.serveFrame_foreign (fun _ => rfl) takes (Link.serves_of_takes takes parent)]; rfl
    · rw [State.frameTaken_parent takes parent, State.parentFrame_farewell_stays addressed (mt same.mp stays)]
    · rw [State.frameTaken_parent takes parent,
        State.parentFrame_farewell_leaves (State.judging_role.trans parent) addressed (same.mpr leaves)]
  · show execParentEnrolSend l s = _
    simp only [execParentEnrolSend, none]
  · show execParentEnrolSend l s = _
    simp only [execParentEnrolSend, due]
    exact congrArg Host.Outcome.next (State.updLink_congr _ _ _ _ rfl)
  · show execParentReplySend l s = _
    simp only [execParentReplySend, none]
  · show execParentReplySend l s = _
    simp only [execParentReplySend, due]
    exact congrArg Host.Outcome.next (State.updLink_congr _ _ _ _ rfl)

end Sys2Proof.Machine
end

section
/-! PROOF. ENROLs taken in SERVE role, and characters taken one by one. -/

namespace Sys2Proof.Machine

open Sys2Proof

/-! ### An ENROL (R75, R107, R140) -/

theorem Capability.ofByte_some {cap : Byte} (sound : cap.toNat / 4 % 8 ≤ 4) : Capability.ofByte cap
    = some { phase := cap.toNat.testBit 0, tight := cap.toNat.testBit 1, highest := 2 ^ (cap.toNat / 4 % 8) } := by
  unfold Capability.ofByte
  generalize cap.toNat / 4 % 8 = code at sound ⊢
  interval_cases code <;> rfl

theorem Capability.ofByte_none {cap : Byte} (bad : 4 < cap.toNat / 4 % 8) : Capability.ofByte cap = none := by
  have below : cap.toNat / 4 % 8 < 8 := Nat.mod_lt _ (by decide)
  unfold Capability.ofByte
  generalize cap.toNat / 4 % 8 = code at bad below ⊢
  interval_cases code <;> rfl

section Enrol

variable {s : State} {l : LinkId} {t : Instant} {addr siteId : Nat} {cap : Byte}

/-- The instant lies within the span of a calling epoch that has not ended by then (R107). -/
def State.spanned (s : State) (l : LinkId) (t : Instant) : Prop :=
  ∃ c, (s.link l).calling = some c ∧ c.instant ≤ t ∧ t < c.instant + 31250000000
    ∧ (c.boundary = s.clock.boundaries ∨ t < s.clock.boundaryAt)

theorem State.inSpan_iff : inSpan s.clock (s.link l).calling t = true ↔ s.spanned l t := by
  unfold State.spanned inSpan
  cases (s.link l).calling with
  | none => simp
  | some c =>
    simp only [Bool.and_eq_true, Bool.or_eq_true, decide_eq_true_eq, beq_iff_eq, Option.some.injEq, exists_eq_left', and_assoc]
    rfl

/-- The fields of an ENROL that the LE hands over. -/
def enrolSound (addr siteId : Nat) (cap : Byte) : Prop := siteId ≠ 0 ∧ 1 ≤ addr ∧ addr ≤ 15 ∧ cap.toNat / 4 % 8 ≤ 4

theorem State.serveEnrol_outside (outside : ¬ s.spanned l t) : s.serveEnrol l t addr siteId cap = s.updLink l Link.countBad :=
  if_neg (mt State.inSpan_iff.mp outside)

theorem State.serveEnrol_sound (inside : s.spanned l t) (sound : enrolSound addr siteId cap) : s.serveEnrol l t addr siteId cap
    = s.updLink l (fun q => { q with toStu := q.toStu ++ [{
        drop := addr, siteId := siteId,
        capability := { phase := cap.toNat.testBit 0, tight := cap.toNat.testBit 1, highest := 2 ^ (cap.toNat / 4 % 8) } }] }) := by
  obtain ⟨id, low, high, code⟩ := sound
  rw [State.serveEnrol, if_pos (State.inSpan_iff.mpr inside), Capability.ofByte_some code]
  refine if_neg ?_
  rintro (zero | out)
  · exact id zero
  · exact absurd (inRange_iff.mpr ⟨low, high⟩) (by rw [Bool.not_eq_true]; exact out)

theorem State.serveEnrol_unsound (inside : s.spanned l t) (unsound : ¬ enrolSound addr siteId cap) :
    s.serveEnrol l t addr siteId cap = s.updLink l Link.countBad := by
  rw [State.serveEnrol, if_pos (State.inSpan_iff.mpr inside)]
  by_cases code : cap.toNat / 4 % 8 ≤ 4
  · rw [Capability.ofByte_some code]
    refine if_pos ?_
    by_contra good
    obtain ⟨id, within⟩ := not_or.mp good
    obtain ⟨low, high⟩ := inRange_iff.mp (Bool.not_eq_false _ ▸ within)
    exact unsound ⟨id, low, high, code⟩
  · rw [Capability.ofByte_none (not_le.mp code)]

theorem State.judging_spanned {f : LinkFrame} : (s.judging l t f).spanned l t ↔ s.spanned l t := by
  have boundaries : (s.advance (frameEnd t f)).clock.boundaries = s.clock.boundaries := Clock.advance_boundaries _ _ _
  have boundaryAt : (s.advance (frameEnd t f)).clock.boundaryAt = s.clock.boundaryAt := Clock.advance_boundaryAt _ _ _
  unfold State.spanned
  rw [State.judging_link, State.judging_clock, boundaries, boundaryAt]

end Enrol

/-- An ENROL by whether it is taken, the role, the span and its form. -/
theorem enrolFrame_outcome (l : LinkId) (t : Instant) (addr siteId : Nat) (cap : Byte) (s : State) :
    let k := s.link l
    let u := s.advance (t + 44000000)
    let v := u.beginFrame l t
    let run := exec (.enrolFrame l t addr siteId cap) s
    let takes := k.state = .up ∧ k.role ≠ .off ∧ k.hearsFrom ≤ t
    let bad := (v.updLink l (fun q => { q with badFrames := min (q.badFrames + 1) 65535 })).endFrame l
    (¬ takes → run = .next u)
    ∧ (takes → ¬ (k.role = .serve ∧ s.spanned l t ∧ enrolSound addr siteId cap) → run = .next bad)
    ∧ (takes → k.role = .serve → s.spanned l t → enrolSound addr siteId cap →
        run = .next ((v.updLink l (fun q => { q with toStu := q.toStu ++ [{
          drop := addr, siteId := siteId,
          capability := { phase := cap.toNat.testBit 0, tight := cap.toNat.testBit 1,
                          highest := 2 ^ (cap.toNat / 4 % 8) } }] })).endFrame l)) := by
  have run : exec (.enrolFrame l t addr siteId cap) s = .next (s.frameTaken l t (.enrol addr siteId cap)) := rfl
  have begun : (s.advance (t + 44000000)).beginFrame l t = s.judging l t (.enrol addr siteId cap) := by rw [State.judging, frameEnd_enrol]
  dsimp only
  rw [run, begun]
  refine ⟨fun deaf => ?_, fun takes bad => ?_, fun takes serve inside sound => ?_⟩
  · rw [State.frameTaken_deaf deaf, frameEnd_enrol]
  · by_cases parent : (s.link l).role = .parent
    · rw [State.frameTaken_parent takes parent]; rfl
    · have serve := Link.serves_of_takes takes parent
      rw [State.frameTaken_serve takes serve, State.serveFrame]
      by_cases inside : s.spanned l t
      · rw [State.serveEnrol_unsound (State.judging_spanned.mpr inside) fun sound => bad ⟨serve, inside, sound⟩]; rfl
      · rw [State.serveEnrol_outside (mt State.judging_spanned.mp inside)]; rfl
  · rw [State.frameTaken_serve takes serve, State.serveFrame, State.serveEnrol_sound (State.judging_spanned.mpr inside) sound]

/-! ### What a character leaves of its link's line (R128, R132) -/

/-- The role and the line state of a link. -/
def State.line (s : State) (l : LinkId) : LinkRole × LinkState := ((s.link l).role, (s.link l).state)

theorem State.line_updLink {s : State} {l : LinkId} {f : Link → Link} (keeps : ∀ q, (f q).role = q.role ∧ (f q).state = q.state) :
    (s.updLink l f).line l = s.line l := by
  obtain ⟨role, state⟩ := keeps (s.link l)
  unfold State.line
  rw [State.updLink_link_same, role, state]

theorem State.line_endFrame (s : State) (l : LinkId) : (s.endFrame l).line l = s.line l :=
  State.line_updLink (f := fun k => { k with rx := none }) fun _ => ⟨rfl, rfl⟩

theorem State.line_beginFrame (s : State) (l : LinkId) (t : Instant) : (s.beginFrame l t).line l = s.line l := by
  unfold State.line
  rw [State.beginFrame_link]

theorem State.line_badFrame (s : State) (l : LinkId) : (s.badFrame l).line l = s.line l :=
  (State.line_endFrame _ l).trans (State.line_updLink fun _ => ⟨rfl, rfl⟩)

theorem State.line_serveFrame (s : State) (l : LinkId) (t : Instant) (f : LinkFrame) : (s.serveFrame l t f).line l = s.line l := by
  have bad : (s.updLink l Link.countBad).line l = s.line l := State.line_updLink fun _ => ⟨rfl, rfl⟩
  have stray : (s.updLink l Link.countStray).line l = s.line l := State.line_updLink fun _ => ⟨rfl, rfl⟩
  cases f with
  | time g => exact bad
  | call addr hubId depth seconds => exact bad
  | farewell addr siteId hubId => exact bad
  | reply addr slot index =>
    show (s.serveReply l t addr slot index).line l = _
    unfold State.serveReply State.hearReply
    dsimp only
    (repeat' split)
    · exact bad
    · rfl
    · exact stray
    · exact stray
    · exact stray
    · exact stray
  | enrol addr siteId cap =>
    show (s.serveEnrol l t addr siteId cap).line l = _
    unfold State.serveEnrol
    (repeat' split)
    · exact bad
    · exact State.line_updLink fun _ => ⟨rfl, rfl⟩
    · exact bad
    · exact bad

theorem Link.loseParent_line (q : Link) : q.loseParent.role = q.role ∧ q.loseParent.state = q.state := by
  unfold Link.loseParent
  split <;> exact ⟨rfl, rfl⟩

theorem State.line_parentFrame (s : State) (l : LinkId) (t : Instant) (f : LinkFrame) : (s.parentFrame l t f).line l = s.line l := by
  have bad : (s.updLink l Link.countBad).line l = s.line l := State.line_updLink fun _ => ⟨rfl, rfl⟩
  cases f with
  | reply addr slot index => exact bad
  | enrol addr siteId cap => exact bad
  | call addr hubId depth seconds =>
    simp only [State.parentFrame, State.parentCall]
    (repeat' split)
    · exact State.line_updLink fun _ => ⟨rfl, rfl⟩
    · rfl
    · exact bad
    · rfl
  | farewell addr siteId hubId =>
    simp only [State.parentFrame, State.parentFarewell]
    (repeat' split)
    · exact bad
    · exact State.line_updLink Link.loseParent_line
    · rfl
    · rfl
  | time g =>
    simp only [State.parentFrame, State.parentTime]
    (repeat' split)
    · rfl
    · exact bad
    · refine Eq.trans (State.line_updLink ?_) (State.line_updLink (f := Link.takeTime t g) fun _ => ⟨rfl, rfl⟩)
      exact fun _ => ⟨rfl, rfl⟩
    · exact State.line_updLink (f := Link.takeTime t g) fun _ => ⟨rfl, rfl⟩

theorem State.line_takeFrame (s : State) (l : LinkId) (t : Instant) (f : LinkFrame) : (s.takeFrame l t f).line l = s.line l := by
  unfold State.takeFrame
  (repeat' split)
  · exact (State.line_endFrame _ l).trans (State.line_parentFrame s l t f)
  · exact (State.line_endFrame _ l).trans (State.line_serveFrame s l t f)
  · rfl

theorem State.line_takeChar (s : State) (l : LinkId) (t : Instant) (c : LinkChar) : (s.takeChar l t c).line l = s.line l := by
  unfold State.takeChar
  (repeat' split)
  · refine Eq.trans (State.line_updLink ?_) (State.line_beginFrame s l t)
    exact fun _ => ⟨rfl, rfl⟩
  · rfl
  · rfl
  · dsimp only
    (repeat' split)
    · exact State.line_badFrame s l
    · exact State.line_updLink fun _ => ⟨rfl, rfl⟩
    · exact State.line_takeFrame (s.advance _) l _ _
    · exact State.line_badFrame s l

/-! ### Characters (R135, R136) -/

section Chars

variable {s : State} {l : LinkId} {t : Instant}

theorem exec_linkFrameDiscarded_deaf (deaf : ¬ ((s.link l).state = .up ∧ (s.link l).role ≠ .off)) (cs : List LinkChar) :
    exec (.linkFrameDiscarded l t cs) s = .next (s.advance t) :=
  congrArg Host.Outcome.next (if_neg (mt Link.receives_iff.mp deaf))

theorem exec_linkFrameDiscarded (takes : (s.link l).state = .up ∧ (s.link l).role ≠ .off) (cs : List LinkChar) :
    exec (.linkFrameDiscarded l t cs) s = .next ((s.advance t).takeChars l t cs) :=
  congrArg Host.Outcome.next (if_pos (Link.receives_iff.mpr takes))

/-- Local time has come to an instant for all the characters from it on. -/
theorem State.takeChars_advance (s : State) (l : LinkId) (t : Instant) (c : LinkChar) (cs : List LinkChar) :
    (s.advance t).takeChars l t (c :: cs) = ((s.advance t).takeChar l t c).takeChars l (t + 5500000) cs := by
  show (((s.advance t).advance t).takeChar l t c).takeChars l (t + 5500000) cs = _
  rw [State.advance_advance]

theorem exec_linkFrameDiscarded_one (takes : (s.link l).state = .up ∧ (s.link l).role ≠ .off) (c : LinkChar) :
    exec (.linkFrameDiscarded l t [c]) s = .next ((s.advance t).takeChar l t c) := by
  rw [exec_linkFrameDiscarded takes, State.takeChars_advance]
  rfl

theorem State.takeChar_mark {b : Byte} (hears : (s.link l).hears t = true) : s.takeChar l t { mark := true, byte := b }
    = (s.beginFrame l t).updLink l (fun q => { q with rx := some { instant := t, bytes := [b] } }) := by
  simp only [State.takeChar, hears, if_true]

theorem State.takeChar_unheard {b : Byte} (deaf : ¬ (s.link l).hears t = true) : s.takeChar l t { mark := true, byte := b } = s := by
  simp only [State.takeChar, if_neg deaf]

theorem State.takeChar_outside {b : Byte} (none : (s.link l).rx = none) : s.takeChar l t { mark := false, byte := b } = s := by
  simp only [State.takeChar, none]

section Receiving

variable {b : Byte} {f : RxFrame} (receiving : (s.link l).rx = some f)
include receiving

theorem State.takeChar_unknown (unknown : linkFrameLength (byteAt (f.bytes ++ [b]) 1) = none) :
    s.takeChar l t { mark := false, byte := b } = s.badFrame l := by
  simp only [State.takeChar, receiving, unknown]

theorem State.takeChar_more {n : Nat} (known : linkFrameLength (byteAt (f.bytes ++ [b]) 1) = some n)
    (short : (f.bytes ++ [b]).length < n) : s.takeChar l t { mark := false, byte := b }
      = s.updLink l (fun q => { q with rx := some { instant := f.instant, bytes := f.bytes ++ [b] } }) := by
  simp only [State.takeChar, receiving, known, if_pos short]

theorem State.takeChar_bad {n : Nat} (known : linkFrameLength (byteAt (f.bytes ++ [b]) 1) = some n)
    (full : n ≤ (f.bytes ++ [b]).length) (bad : decodeLinkFrame (f.bytes ++ [b]) = none) :
    s.takeChar l t { mark := false, byte := b } = s.badFrame l := by
  simp only [State.takeChar, receiving, known, if_neg (not_lt.mpr full), bad]

theorem State.takeChar_last {n : Nat} {g : LinkFrame} (known : linkFrameLength (byteAt (f.bytes ++ [b]) 1) = some n)
    (full : n ≤ (f.bytes ++ [b]).length) (good : decodeLinkFrame (f.bytes ++ [b]) = some g) :
    s.takeChar l t { mark := false, byte := b } = (s.advance (t + 5500000)).takeFrame l f.instant g := by
  simp only [State.takeChar, receiving, known, if_neg (not_lt.mpr full), good]
  rfl

/-- The frame being received, once its last character has been taken, is the frame that its row brings whole. -/
theorem State.takeFrame_received {g : LinkFrame} (ends : frameEnd f.instant g = t) :
    (s.advance t).takeFrame l f.instant g = s.frameTaken l f.instant g := by
  have same : (s.advance t).beginFrame l f.instant = s.advance t := State.beginFrame_same (s := s.advance t) receiving rfl
  unfold State.frameTaken
  rw [ends]
  dsimp only
  by_cases hears : ((s.advance t).link l).hears f.instant = true
  · rw [if_pos hears, same]
  · rw [if_neg hears]
    exact if_neg hears

end Receiving

/-- The row that brings a frame whole. -/
def frameRow (l : LinkId) (t : Instant) : LinkFrame → Instr
  | .reply addr slot index => .replyFrame l t addr slot index
  | .enrol addr siteId cap => .enrolFrame l t addr siteId cap
  | .call addr hubId depth seconds => .parentCallFrame l t addr hubId depth seconds
  | .time frame => .parentTimeFrame l t frame
  | .farewell addr siteId hubId => .parentFarewellFrame l t addr siteId hubId

theorem exec_frameRow (s : State) (l : LinkId) (t : Instant) (g : LinkFrame) : exec (frameRow l t g) s = .next (s.frameTaken l t g) := by
  cases g <;> rfl

end Chars

/-- A run of bytes that decodes has the length of its type, which is that of the frame it spells. -/
theorem decodeLinkFrame_length {bs : List Byte} {g : LinkFrame} (good : decodeLinkFrame bs = some g) :
    linkFrameLength (byteAt bs 1) = some bs.length ∧ (encodeLinkFrame g).length = bs.length := by
  unfold decodeLinkFrame at good
  split at good
  · rename_i sound
    obtain ⟨length, -⟩ := Bool.and_eq_true_iff.mp sound
    rw [beq_iff_eq] at length
    refine ⟨length, ?_⟩
    split at good <;> rename_i type
    · rw [type] at length
      rw [← Option.some.inj good, encodeLinkFrame_time_length]; exact Option.some.inj length
    · rw [type] at length
      rw [← Option.some.inj good, encodeLinkFrame_call_length]; exact Option.some.inj length
    · rw [type] at length
      rw [← Option.some.inj good, encodeLinkFrame_farewell_length]; exact Option.some.inj length
    · rw [type] at length
      rw [← Option.some.inj good, encodeLinkFrame_reply_length]; exact Option.some.inj length
    · rw [type] at length
      rw [← Option.some.inj good, encodeLinkFrame_enrol_length]; exact Option.some.inj length
    · exact absurd good (by simp)
  · exact absurd good (by simp)

/-- Settles O48: the ENROL frame, then the characters one by one. -/
theorem enrolAndDiscards : Obligations.EnrolAndDiscards := by
  refine ⟨fun l t addr siteId cap s => enrolFrame_outcome l t addr siteId cap s, fun l t s => ?chars⟩
  refine ⟨fun cs out => ?_, fun b takes none => ?_, fun b takes early => ?_, fun b takes heard => ?_, fun b f takes receiving =>
    ⟨fun unknown => ?_, fun n known short => ?_, fun n known full bad => ?_, fun n g known full good ends => ?_⟩,
    fun c cs u takes more one => ?_⟩
  · rcases out with deaf | empty
    · exact exec_linkFrameDiscarded_deaf deaf cs
    · subst empty
      by_cases takes : (s.link l).state = .up ∧ (s.link l).role ≠ .off
      · exact exec_linkFrameDiscarded takes []
      · exact exec_linkFrameDiscarded_deaf takes []
  · exact (exec_linkFrameDiscarded_one takes _).trans (congrArg _ (State.takeChar_outside none))
  · exact (exec_linkFrameDiscarded_one takes _).trans (congrArg _ (State.takeChar_unheard fun hears =>
      absurd (Link.hears_iff.mp hears).2.2 (not_le.mpr early)))
  · exact (exec_linkFrameDiscarded_one takes _).trans (congrArg _ (State.takeChar_mark
      (Link.hears_iff.mpr ⟨takes.1, takes.2, heard⟩)))
  · exact (exec_linkFrameDiscarded_one takes _).trans (congrArg _ (State.takeChar_unknown receiving unknown))
  · exact (exec_linkFrameDiscarded_one takes _).trans (congrArg _ (State.takeChar_more receiving known short))
  · exact (exec_linkFrameDiscarded_one takes _).trans (congrArg _ (State.takeChar_bad receiving known full bad))
  · obtain ⟨length, spelled⟩ := decodeLinkFrame_length good
    have whole : frameEnd f.instant g = t + 5500000 := by
      rw [frameEnd, spelled, ← Option.some.inj (known.symm.trans length)]
      exact ends
    have row : exec (frameRow l f.instant g) (s.advance t) = .next ((s.advance t).frameTaken l f.instant g) := exec_frameRow _ l _ g
    rw [← State.takeFrame_received (s := s.advance t) receiving whole, ← State.takeChar_last (s := s.advance t) receiving known full good,
      ← exec_linkFrameDiscarded_one takes] at row
    refine row.symm.trans ?_
    cases g <;> rfl
  · have first := exec_linkFrameDiscarded_one (t := t) takes c
    have is : (s.advance t).takeChar l t c = u := Host.Outcome.next.inj (first.symm.trans one)
    have line : u.line l = s.line l := by rw [← is, State.line_takeChar]; rfl
    have still : (u.link l).state = .up ∧ (u.link l).role ≠ .off := by
      rw [show (u.link l).state = (s.link l).state from congrArg Prod.snd line,
        show (u.link l).role = (s.link l).role from congrArg Prod.fst line]
      exact takes
    obtain ⟨d, ds, rfl⟩ := List.exists_cons_of_ne_nil more
    show exec (.linkFrameDiscarded l t (c :: d :: ds)) s = exec (.linkFrameDiscarded l (t + 5500000) (d :: ds)) u
    rw [exec_linkFrameDiscarded takes, exec_linkFrameDiscarded still, State.takeChars_advance, is, State.takeChars_advance]
    rfl

end Sys2Proof.Machine
end

section
/-! PROOF. The CALL and FAREWELL slots, and the bytes of the link frames. -/

namespace Sys2Proof.Machine

open Sys2Proof

/-! ### The CALL and FAREWELL slots (R106, R109) -/

section Slots

variable {s : State} {l : LinkId}

theorem exec_callSlot_calls {older : Bool} (calls : (s.link l).role = .serve ∧ (s.link l).state = .up ∧ 0 < (s.link l).window) :
    exec (.callSlot l older) s = .next ((s.advance (slotStart s.clock (s.link l).split)).updLink l (fun k => { k with
      tx := some { instant := slotStart s.clock (s.link l).split,
                   bytes := encodeLinkFrame (callFrameOf s (s.copyHeld older)) },
      calling := some { boundary := s.clock.boundaries, instant := slotStart s.clock (s.link l).split } })) := by
  have boundaries : (s.advance (slotStart s.clock (s.link l).split)).clock.boundaries = s.clock.boundaries := Clock.advance_boundaries _ _ _
  refine (congrArg Host.Outcome.next (if_pos calls)).trans ?_
  rw [boundaries]
  rfl

theorem exec_callSlot_idle {older : Bool} (idle : ¬ ((s.link l).role = .serve ∧ (s.link l).state = .up ∧ 0 < (s.link l).window)) :
    exec (.callSlot l older) s = .next (s.advance (slotStart s.clock (s.link l).split)) :=
  congrArg Host.Outcome.next (if_neg idle)

theorem exec_farewellSlot_closed {slot : Nat} (closed : ¬ ((s.link l).split < slot ∧ slot ≤ 255 ∧ (s.link l).state = .up)) :
    exec (.farewellSlot l slot) s = .next (s.advance (slotStart s.clock slot)) :=
  congrArg Host.Outcome.next (if_neg fun both => closed ⟨both.1, Nat.le_of_lt_succ both.2.1, both.2.2⟩)

section Open

variable {slot : Nat} (opened : (s.link l).split < slot ∧ slot ≤ 255 ∧ (s.link l).state = .up)
include opened

theorem exec_farewellSlot_nobody (nobody : (s.link l).retireQueue.head?.bind s.record? = none) :
    exec (.farewellSlot l slot) s = .next (s.advance (slotStart s.clock slot)) := by
  have there : ((s.advance (slotStart s.clock slot)).link l).retireQueue.head?.bind (s.advance (slotStart s.clock slot)).record? = none :=
    nobody
  refine (congrArg Host.Outcome.next (if_pos ⟨opened.1, Nat.lt_succ_of_le opened.2.1, opened.2.2⟩)).trans ?_
  simp only [there]

theorem exec_farewellSlot_sends {r : SiteRecord} (head : (s.link l).retireQueue.head?.bind s.record? = some r) :
    exec (.farewellSlot l slot) s = .next (((s.advance (slotStart s.clock slot)).updLink l (Link.send (slotStart s.clock slot)
      (.farewell r.drop r.siteId s.port.hubIdentity))).removeRecord r) := by
  have there : ((s.advance (slotStart s.clock slot)).link l).retireQueue.head?.bind (s.advance (slotStart s.clock slot)).record?
      = some r := head
  refine (congrArg Host.Outcome.next (if_pos ⟨opened.1, Nat.lt_succ_of_le opened.2.1, opened.2.2⟩)).trans ?_
  simp only [there]
  rfl

end Open

end Slots

/-! ### Bytes, words and counts of a frame (R191) -/

/-- A byte of a frame, 0 beyond its end. -/
def octetAt (bs : List Byte) (k : Nat) : Nat := (bs[k]?.getD 0).toNat

def wordAt (bs : List Byte) (k : Nat) : Nat :=
  octetAt bs k * 16777216 + octetAt bs (k + 1) * 65536 + octetAt bs (k + 2) * 256 + octetAt bs (k + 3)

def countAt (bs : List Byte) (k : Nat) : Nat := wordAt bs k * 65536 + octetAt bs (k + 4) * 256 + octetAt bs (k + 5)

theorem octetAt_lt (bs : List Byte) (k : Nat) : octetAt bs k < 256 := (bs[k]?.getD 0).isLt

theorem byteAt_eq_octetAt (bs : List Byte) (k : Nat) : byteAt bs k = octetAt bs k := byteAt_eq bs k

theorem octetAt_drop (bs : List Byte) (k i : Nat) : octetAt (bs.drop k) i = octetAt bs (k + i) := by
  rw [octetAt, octetAt, List.getElem?_drop]

theorem fieldAt_four {bs : List Byte} {k : Nat} (within : k + 4 ≤ bs.length) : fieldAt bs k 4 = wordAt bs k := by
  have long : 4 ≤ (bs.drop k).length := by rw [List.length_drop]; omega
  have words : wordAt bs k = octetAt (bs.drop k) 0 * 16777216 + octetAt (bs.drop k) 1 * 65536 + octetAt (bs.drop k) 2 * 256
      + octetAt (bs.drop k) 3 := by simp only [octetAt_drop]; rfl
  rw [fieldAt, words]
  match bs.drop k, long with
  | a :: b :: c :: d :: rest, _ =>
    show ((((0 * 256 + a.toNat) * 256 + b.toNat) * 256 + c.toNat) * 256 + d.toNat)
      = a.toNat * 16777216 + b.toNat * 65536 + c.toNat * 256 + d.toNat
    omega

theorem fieldAt_six {bs : List Byte} {k : Nat} (within : k + 6 ≤ bs.length) : fieldAt bs k 6 = countAt bs k := by
  have long : 6 ≤ (bs.drop k).length := by rw [List.length_drop]; omega
  have counts : countAt bs k = (octetAt (bs.drop k) 0 * 16777216 + octetAt (bs.drop k) 1 * 65536 + octetAt (bs.drop k) 2 * 256
      + octetAt (bs.drop k) 3) * 65536 + octetAt (bs.drop k) 4 * 256 + octetAt (bs.drop k) 5 := by simp only [octetAt_drop]; rfl
  rw [fieldAt, counts]
  match bs.drop k, long with
  | a :: b :: c :: d :: e :: f :: rest, _ =>
    show ((((((0 * 256 + a.toNat) * 256 + b.toNat) * 256 + c.toNat) * 256 + d.toNat) * 256 + e.toNat) * 256 + f.toNat)
      = (a.toNat * 16777216 + b.toNat * 65536 + c.toNat * 256 + d.toNat) * 65536 + e.toNat * 256 + f.toNat
    omega

/-- Four bytes spell a number modulo 2^32. -/
theorem word_of_bytes (v : Nat) : (byteOf (v / 256 ^ 3)).toNat * 16777216 + (byteOf (v / 256 ^ 2)).toNat * 65536
    + (byteOf (v / 256 ^ 1)).toNat * 256 + (byteOf (v / 256 ^ 0)).toNat = v % 4294967296 := by
  simp only [byteOf_toNat]
  omega

theorem count_of_bytes (v : Nat) : ((byteOf (v / 256 ^ 5)).toNat * 16777216 + (byteOf (v / 256 ^ 4)).toNat * 65536
    + (byteOf (v / 256 ^ 3)).toNat * 256 + (byteOf (v / 256 ^ 2)).toNat) * 65536 + (byteOf (v / 256 ^ 1)).toNat * 256
    + (byteOf (v / 256 ^ 0)).toNat = v % 281474976710656 := by
  simp only [byteOf_toNat]
  omega

theorem encodeLinkFrame_sum (f : LinkFrame) : ((encodeLinkFrame f).map BitVec.toNat).sum % 256 = 0 := by
  rw [← checkHolds_iff, checkHolds, beq_iff_eq]
  cases f <;> exact byteSum_withCheck _

theorem linkFrameLength_eq (n : Nat) : linkFrameLength n
    = if n = 0x31 then some 25 else if n = 0x32 then some 14 else if n = 0x33 then some 11
      else if n = 0x34 then some 5 else if n = 0x35 then some 8 else none := by
  unfold linkFrameLength
  split <;> simp_all

/-! ### Frames read (R194) -/

/-- A run of bytes of a frame's length, sum, type and address. -/
def framedAs (bs : List Byte) (n type addr : Nat) : Prop :=
  bs.length = n ∧ (bs.map BitVec.toNat).sum % 256 = 0 ∧ octetAt bs 1 = type ∧ octetAt bs 0 = addr % 256

section Decode

variable {bs : List Byte}

theorem decodeLinkFrame_none (bad : (bs.map BitVec.toNat).sum % 256 ≠ 0 ∨ linkFrameLength (octetAt bs 1) ≠ some bs.length) :
    decodeLinkFrame bs = none := by
  refine if_neg ?_
  rw [Bool.and_eq_true, beq_iff_eq, checkHolds_iff, byteAt_eq_octetAt]
  rintro ⟨length, sum⟩
  exact bad.elim (fun no => no sum) fun no => no length

theorem decodeLinkFrame_sound {n type addr : Nat} (framed : framedAs bs n type addr) (known : linkFrameLength type = some n) :
    (linkFrameLength (byteAt bs 1) == some bs.length && checkHolds bs) = true := by
  obtain ⟨length, sum, isType, -⟩ := framed
  rw [Bool.and_eq_true, beq_iff_eq, checkHolds_iff, byteAt_eq_octetAt, isType, length]
  exact ⟨known, sum⟩

theorem decodeLinkFrame_time (framed : framedAs bs 25 0x31 (octetAt bs 0)) : decodeLinkFrame bs = some (.time {
    addr := octetAt bs 0, seconds := BitVec.ofNat 48 (countAt bs 2), slot := octetAt bs 8, index := octetAt bs 9,
    offset := signedOf (wordAt bs 10), quality := octetAt bs 14 / 16, depth := octetAt bs 14 % 16,
    appliedStep := signedOf (wordAt bs 15), senderU := wordAt bs 19, replyRequested := octetAt bs 23 % 2 == 1 }) := by
  obtain ⟨length, -, isType, -⟩ := id framed
  rw [decodeLinkFrame, if_pos (decodeLinkFrame_sound framed rfl)]
  simp only [byteAt_eq_octetAt, isType]
  rw [fieldAt_six (by omega), fieldAt_four (by omega), fieldAt_four (by omega), fieldAt_four (by omega), Nat.testBit_zero]
  rfl

theorem decodeLinkFrame_call (framed : framedAs bs 14 0x32 (octetAt bs 0)) : decodeLinkFrame bs
    = some (.call (octetAt bs 0) (wordAt bs 2) (octetAt bs 6) (BitVec.ofNat 48 (countAt bs 7))) := by
  obtain ⟨length, -, isType, -⟩ := id framed
  rw [decodeLinkFrame, if_pos (decodeLinkFrame_sound framed rfl)]
  simp only [byteAt_eq_octetAt, isType]
  rw [fieldAt_six (by omega), fieldAt_four (by omega)]

theorem decodeLinkFrame_farewell (framed : framedAs bs 11 0x33 (octetAt bs 0)) :
    decodeLinkFrame bs = some (.farewell (octetAt bs 0) (wordAt bs 2) (wordAt bs 6)) := by
  obtain ⟨length, -, isType, -⟩ := id framed
  rw [decodeLinkFrame, if_pos (decodeLinkFrame_sound framed rfl)]
  simp only [byteAt_eq_octetAt, isType]
  rw [fieldAt_four (by omega), fieldAt_four (by omega)]

theorem decodeLinkFrame_reply (framed : framedAs bs 5 0x34 (octetAt bs 0)) :
    decodeLinkFrame bs = some (.reply (octetAt bs 0) (octetAt bs 2) (octetAt bs 3)) := by
  obtain ⟨-, -, isType, -⟩ := id framed
  rw [decodeLinkFrame, if_pos (decodeLinkFrame_sound framed rfl)]
  simp only [byteAt_eq_octetAt, isType]

theorem decodeLinkFrame_enrol (framed : framedAs bs 8 0x35 (octetAt bs 0)) :
    decodeLinkFrame bs = some (.enrol (octetAt bs 0) (wordAt bs 2) (BitVec.ofNat 8 (octetAt bs 6))) := by
  obtain ⟨length, -, isType, -⟩ := id framed
  rw [decodeLinkFrame, if_pos (decodeLinkFrame_sound framed rfl)]
  simp only [byteAt_eq_octetAt, isType]
  rw [fieldAt_four (by omega)]
  rfl

end Decode

/-! ### Frames written (R194) -/

theorem encodeLinkFrame_time (f : TimeFrame) :
    let bs := encodeLinkFrame (.time f)
    framedAs bs 25 0x31 f.addr ∧ countAt bs 2 = f.seconds.toNat ∧ octetAt bs 8 = f.slot % 256 ∧ octetAt bs 9 = f.index % 256
      ∧ (wordAt bs 10 : Int) = f.offset % 4294967296 ∧ octetAt bs 14 = (f.quality * 16 + f.depth) % 256
      ∧ (wordAt bs 15 : Int) = f.appliedStep % 4294967296 ∧ wordAt bs 19 = f.senderU % 4294967296
      ∧ octetAt bs 23 = if f.replyRequested then 1 else 0 := by
  have signed (v : Int) (w : Nat) (is : w = (v % 4294967296).toNat % 4294967296) : (w : Int) = v % 4294967296 := by omega
  have seconds := f.seconds.isLt
  refine ⟨⟨encodeLinkFrame_time_length f, encodeLinkFrame_sum _, rfl, byteOf_toNat _⟩, ?_, byteOf_toNat _, byteOf_toNat _,
    signed _ _ (word_of_bytes _), byteOf_toNat _, signed _ _ (word_of_bytes _), word_of_bytes _, ?_⟩
  · exact (count_of_bytes _).trans (Nat.mod_eq_of_lt seconds)
  · refine (byteOf_toNat _).trans ?_
    cases f.replyRequested <;> rfl

theorem encodeLinkFrame_call (addr hubId depth : Nat) (seconds : Seconds) :
    let bs := encodeLinkFrame (.call addr hubId depth seconds)
    framedAs bs 14 0x32 addr ∧ wordAt bs 2 = hubId % 4294967296 ∧ octetAt bs 6 = depth % 256 ∧ countAt bs 7 = seconds.toNat :=
  ⟨⟨encodeLinkFrame_call_length .., encodeLinkFrame_sum _, rfl, byteOf_toNat _⟩, word_of_bytes _, byteOf_toNat _,
    (count_of_bytes _).trans (Nat.mod_eq_of_lt seconds.isLt)⟩

theorem encodeLinkFrame_farewell (addr siteId hubId : Nat) :
    let bs := encodeLinkFrame (.farewell addr siteId hubId)
    framedAs bs 11 0x33 addr ∧ wordAt bs 2 = siteId % 4294967296 ∧ wordAt bs 6 = hubId % 4294967296 :=
  ⟨⟨encodeLinkFrame_farewell_length .., encodeLinkFrame_sum _, rfl, byteOf_toNat _⟩, word_of_bytes _, word_of_bytes _⟩

theorem encodeLinkFrame_reply (addr slot index : Nat) :
    let bs := encodeLinkFrame (.reply addr slot index)
    framedAs bs 5 0x34 addr ∧ octetAt bs 2 = slot % 256 ∧ octetAt bs 3 = index % 256 :=
  ⟨⟨encodeLinkFrame_reply_length .., encodeLinkFrame_sum _, rfl, byteOf_toNat _⟩, byteOf_toNat _, byteOf_toNat _⟩

theorem encodeLinkFrame_enrol (addr siteId : Nat) (cap : Byte) :
    let bs := encodeLinkFrame (.enrol addr siteId cap)
    framedAs bs 8 0x35 addr ∧ wordAt bs 2 = siteId % 4294967296 ∧ octetAt bs 6 = cap.toNat :=
  ⟨⟨encodeLinkFrame_enrol_length .., encodeLinkFrame_sum _, rfl, byteOf_toNat _⟩, word_of_bytes _, rfl⟩

/-! ### Frames read back (R194) -/

theorem framedAs.self {bs : List Byte} {n type addr : Nat} (framed : framedAs bs n type addr) : framedAs bs n type (octetAt bs 0) := by
  obtain ⟨length, sum, isType, -⟩ := framed
  exact ⟨length, sum, isType, (Nat.mod_eq_of_lt (octetAt_lt bs 0)).symm⟩

theorem signedOf_eq {w : Nat} {v : Int} (is : (w : Int) = v % 4294967296) (low : -2147483648 ≤ v) (high : v < 2147483648) :
    signedOf w = v := by
  unfold signedOf
  split <;> omega

theorem decode_encode_time (f : TimeFrame) (addr : f.addr < 256) (slot : f.slot < 256) (index : f.index < 256)
    (offset : -2147483648 ≤ f.offset ∧ f.offset < 2147483648) (quality : f.quality < 16) (depth : f.depth < 16)
    (step : -2147483648 ≤ f.appliedStep ∧ f.appliedStep < 2147483648) (senderU : f.senderU < 4294967296) :
    decodeLinkFrame (encodeLinkFrame (.time f)) = some (.time f) := by
  obtain ⟨framed, isCount, isSlot, isIndex, isOffset, isCode, isStep, isU, isReply⟩ := encodeLinkFrame_time f
  have isQuality : (f.quality * 16 + f.depth) % 256 / 16 = f.quality := by omega
  have isDepth : (f.quality * 16 + f.depth) % 256 % 16 = f.depth := by omega
  have asked : ((if f.replyRequested = true then 1 else 0) % 2 == 1) = f.replyRequested := by cases f.replyRequested <;> rfl
  rw [decodeLinkFrame_time framed.self, framed.2.2.2, isCount, isSlot, isIndex, signedOf_eq isOffset offset.1 offset.2, isCode,
    signedOf_eq isStep step.1 step.2, isU, isReply, isQuality, isDepth, asked, Nat.mod_eq_of_lt addr, Nat.mod_eq_of_lt slot,
    Nat.mod_eq_of_lt index, Nat.mod_eq_of_lt senderU, BitVec.ofNat_toNat, BitVec.setWidth_eq]

theorem decode_encode_call {addr hubId depth : Nat} (seconds : Seconds) (addressed : addr < 256) (hub : hubId < 4294967296)
    (deep : depth < 256) :
    decodeLinkFrame (encodeLinkFrame (.call addr hubId depth seconds)) = some (.call addr hubId depth seconds) := by
  obtain ⟨framed, isHub, isDepth, isCount⟩ := encodeLinkFrame_call addr hubId depth seconds
  rw [decodeLinkFrame_call framed.self, framed.2.2.2, isHub, isDepth, isCount, Nat.mod_eq_of_lt addressed, Nat.mod_eq_of_lt hub,
    Nat.mod_eq_of_lt deep, BitVec.ofNat_toNat, BitVec.setWidth_eq]

theorem decode_encode_farewell {addr siteId hubId : Nat} (addressed : addr < 256) (site : siteId < 4294967296) (hub : hubId < 4294967296) :
    decodeLinkFrame (encodeLinkFrame (.farewell addr siteId hubId)) = some (.farewell addr siteId hubId) := by
  obtain ⟨framed, isSite, isHub⟩ := encodeLinkFrame_farewell addr siteId hubId
  rw [decodeLinkFrame_farewell framed.self, framed.2.2.2, isSite, isHub, Nat.mod_eq_of_lt addressed, Nat.mod_eq_of_lt site,
    Nat.mod_eq_of_lt hub]

theorem decode_encode_reply {addr slot index : Nat} (addressed : addr < 256) (within : slot < 256) (indexed : index < 256) :
    decodeLinkFrame (encodeLinkFrame (.reply addr slot index)) = some (.reply addr slot index) := by
  obtain ⟨framed, isSlot, isIndex⟩ := encodeLinkFrame_reply addr slot index
  rw [decodeLinkFrame_reply framed.self, framed.2.2.2, isSlot, isIndex, Nat.mod_eq_of_lt addressed, Nat.mod_eq_of_lt within,
    Nat.mod_eq_of_lt indexed]

theorem decode_encode_enrol {addr siteId : Nat} (cap : Byte) (addressed : addr < 256) (site : siteId < 4294967296) :
    decodeLinkFrame (encodeLinkFrame (.enrol addr siteId cap)) = some (.enrol addr siteId cap) := by
  obtain ⟨framed, isSite, isCap⟩ := encodeLinkFrame_enrol addr siteId cap
  rw [decodeLinkFrame_enrol framed.self, framed.2.2.2, isSite, isCap, Nat.mod_eq_of_lt addressed, Nat.mod_eq_of_lt site,
    BitVec.ofNat_toNat, BitVec.setWidth_eq]

/-- Settles O45: the two slots, then the frames written, read, and read back. -/
theorem callAndFarewell : Obligations.CallAndFarewell := by
  refine ⟨fun l older s => ⟨exec_callSlot_calls, exec_callSlot_idle⟩, fun l slot s => ⟨fun closed => ?closed,
    fun h rest r opened queue found => ?opened⟩, linkFrameLength_eq, encodeLinkFrame_time, encodeLinkFrame_call,
    encodeLinkFrame_farewell, encodeLinkFrame_reply, encodeLinkFrame_enrol, fun bs => ⟨decodeLinkFrame_none, decodeLinkFrame_time,
      decodeLinkFrame_call, decodeLinkFrame_farewell, decodeLinkFrame_reply, decodeLinkFrame_enrol⟩,
    fun f addr slot index low high quality depth stepLow stepHigh senderU =>
      decode_encode_time f addr slot index ⟨low, high⟩ quality depth ⟨stepLow, stepHigh⟩ senderU,
    fun addr hubId depth seconds => decode_encode_call seconds, fun addr siteId hubId => decode_encode_farewell,
    fun addr slot index => decode_encode_reply, fun addr siteId cap => decode_encode_enrol cap⟩
  case closed =>
    by_cases opened : (s.link l).split < slot ∧ slot ≤ 255 ∧ (s.link l).state = .up
    · have empty := closed.resolve_left (not_not.mpr opened)
      exact exec_farewellSlot_nobody opened (by rw [empty]; rfl)
    · exact exec_farewellSlot_closed opened
  case opened =>
    exact exec_farewellSlot_sends opened (by rw [queue]; exact found)

end Sys2Proof.Machine
end

section
/-! PROOF. The alarm table: the notify requests, the conditions found, one scan, and what it does with each condition. -/

namespace Sys2Proof.Machine

open Sys2Proof

/-! ### The notify line (R176 to R178) -/

theorem AlarmEntry.qualifies_iff (threshold : Severity) (e : AlarmEntry) : e.qualifies threshold = true ↔
    e.condition = .active ∧ e.acknowledged = false ∧ e.root = none ∧ e.severity.code ≤ threshold.code := by
  simp [AlarmEntry.qualifies, Severity.reaches, and_assoc]

theorem AlarmTable.anyQualifies_iff (t : AlarmTable) :
    t.anyQualifies = true ↔ ∃ e ∈ t.entries, e.qualifies t.threshold = true :=
  List.any_eq_true

theorem AlarmTable.arm_calls {t : AlarmTable} (any : ∃ e ∈ t.entries, e.qualifies t.threshold = true) :
    t.arm = { t with asserted := true, armed := false } :=
  if_pos (t.anyQualifies_iff.mpr any)

theorem AlarmTable.arm_waits {t : AlarmTable} (none : ¬ ∃ e ∈ t.entries, e.qualifies t.threshold = true) :
    t.arm = { t with armed := true } :=
  if_neg fun any => none (t.anyQualifies_iff.mp any)

/-- Settling leaves a table alone in which an entry qualifies. -/
theorem AlarmTable.settle_stands {t : AlarmTable} (any : ∃ e ∈ t.entries, e.qualifies t.threshold = true) : t.settle = t := by
  rw [AlarmTable.settle, t.anyQualifies_iff.mpr any, Bool.and_true]

theorem AlarmTable.settle_released {t : AlarmTable} (none : ¬ ∃ e ∈ t.entries, e.qualifies t.threshold = true) :
    t.settle = { t with asserted := false } := by
  rw [AlarmTable.settle, Bool.eq_false_iff.mpr fun any => none (t.anyQualifies_iff.mp any), Bool.and_false]

theorem Severity.ofCode_code (v : Severity) : Severity.ofCode v.code = some v := by cases v <;> rfl

theorem Severity.ofCode_none : ∀ {n : Nat}, 4 ≤ n → Severity.ofCode n = none
  | _ + 4, _ => rfl

section Notify

variable {tag : Nat} {s : State} (idle : s.port.state = .idle)
include idle

theorem exec_notifyArm : exec (.notifyArm tag) s = .next (({ s with atu := s.atu.arm } : State).respond tag .ok s.atu.arm.summary) := by
  show Host.Outcome.next (request tag _ s) = _
  rw [request_idle idle]
  rfl

theorem exec_notifyAck : exec (.notifyAck tag) s
    = .next (({ s with atu := { s.atu with asserted := false, armed := false } } : State).respond tag .ok
        ({ s.atu with asserted := false, armed := false } : AlarmTable).summary) := by
  show Host.Outcome.next (request tag _ s) = _
  rw [request_idle idle]
  rfl

theorem exec_notifySet_range {n : Nat} (beyond : 4 ≤ n) : exec (.notifySet tag n) s = .next (s.respond tag .range s.atu.summary) := by
  show Host.Outcome.next (request tag _ s) = _
  rw [request_idle idle, Severity.ofCode_none beyond]
  rfl

theorem exec_notifySet (v : Severity) : exec (.notifySet tag v.code) s
    = .next (({ s with atu := { s.atu with threshold := v }.settle } : State).respond tag .ok
        ({ s.atu with threshold := v } : AlarmTable).settle.summary) := by
  show Host.Outcome.next (request tag _ s) = _
  rw [request_idle idle, Severity.ofCode_code]
  rfl

end Notify

/-- Settles O51. -/
theorem notifyOutcome : Obligations.NotifyOutcome := by
  refine ⟨AlarmEntry.qualifies_iff, fun tag s idle => ⟨fun any => ?_, fun none => ?_, exec_notifyAck idle,
    fun n beyond => exec_notifySet_range idle beyond, fun v any => ?_, fun v none => ?_⟩⟩
  · refine (exec_notifyArm idle).trans ?_
    rw [AlarmTable.arm_calls any]
  · refine (exec_notifyArm idle).trans ?_
    rw [AlarmTable.arm_waits none]
  · refine (exec_notifySet idle v).trans ?_
    rw [AlarmTable.settle_stands (t := { s.atu with threshold := v }) any]
  · refine (exec_notifySet idle v).trans ?_
    rw [AlarmTable.settle_released (t := { s.atu with threshold := v }) none]

/-! ### The conditions found (R162) -/

theorem Found.ext_iff' {f : Found} {k : AlarmKind} {v : Severity} {x : Option AlarmSource} :
    f = { kind := k, severity := v, rootSource := x } ↔ f.kind = k ∧ f.severity = v ∧ f.rootSource = x := by
  cases f
  simp

theorem State.someParent_iff (s : State) : s.someParent = true ↔ ∃ l, (s.link l).role = .parent := by
  simp [State.someParent, LinkId.mem_all]

theorem exists_timebaseFound (p : Published) (k : AlarmKind) : (∃ f ∈ timebaseFound p, f.kind = k) ↔
    (k = .tbFreerun ∧ p.state = .freerun) ∨ (k = .tbHoldover ∧ p.state = .holdover) ∨ (k = .tbFreqHold ∧ p.state = .freqHold) := by
  unfold timebaseFound
  cases p.state <;> simp [eq_comm]

theorem mem_refFound (s : State) (r : RefId) (f : Found) : f ∈ refFound s r ↔
    (s.entry r).settings.enabled = true ∧ f.severity = .minor ∧ f.rootSource = none
      ∧ ((f.kind = .refAbsent ∧ (s.entry r).state = .absent ∧ (r = .parent → ∃ l, (s.link l).role = .parent))
        ∨ (f.kind = .refDisqualified ∧ (s.entry r).state = .disqualified)) := by
  have may : (r != .parent || s.someParent) = true ↔ (r = .parent → ∃ l, (s.link l).role = .parent) := by
    rw [Bool.or_eq_true, bne_iff_ne, s.someParent_iff, ← imp_iff_not_or]
  unfold refFound
  cases enabled : (s.entry r).settings.enabled with
  | false => simp
  | true =>
    cases (s.entry r).state with
    | absent =>
      by_cases present : (r = .parent → ∃ l, (s.link l).role = .parent)
      · rw [if_pos rfl]
        dsimp only
        rw [if_pos (may.mpr present), List.mem_singleton, Found.ext_iff']
        simp only [reduceCtorEq, and_false, or_false, true_and, and_true, and_iff_left present]
        exact and_rotate
      · rw [if_pos rfl]
        dsimp only
        rw [if_neg (mt may.mp present)]
        simp [present]
    | disqualified =>
      rw [if_pos rfl]
      dsimp only
      rw [List.mem_singleton, Found.ext_iff']
      simp only [reduceCtorEq, false_and, and_false, false_or, true_and, and_true]
      exact and_rotate
    | qualifying => simp
    | qualified => simp

theorem mem_linkFound (k : Link) (f : Found) : f ∈ linkFound k ↔
    k.role ≠ .off ∧ k.state = .down ∧ f = { kind := .linkDown, severity := .major, rootSource := none } := by
  unfold linkFound
  by_cases down : k.role ≠ .off ∧ k.state = .down
  · simp [down]
  · rw [if_neg (by simpa using down)]
    simp only [List.not_mem_nil, false_iff]
    exact fun is => down ⟨is.1, is.2.1⟩

theorem siteFound_active {r : SiteRecord} (active : r.lifecycle = .active) : siteFound r = serviceFound r ++ silenceFound r :=
  if_pos active

theorem siteFound_other {r : SiteRecord} (other : r.lifecycle ≠ .active) : siteFound r = [] := if_neg other

theorem mem_siteFound_iff (r : SiteRecord) (f : Found) : f ∈ siteFound r ↔ r.lifecycle = .active
    ∧ ((r.condition = .degraded ∧ f = { kind := .siteService, severity := .minor, rootSource := some .timebase })
      ∨ (r.condition = .unusable ∧ f = { kind := .siteService, severity := .major, rootSource := some .timebase })
      ∨ (r.silence = .short ∧ f = { kind := .siteSilence, severity := .warning, rootSource := some (.link r.link) })
      ∨ (r.silence = .long ∧ f = { kind := .siteSilence, severity := .minor, rootSource := some (.link r.link) })) := by
  by_cases active : r.lifecycle = .active
  · have service : f ∈ serviceFound r ↔
        (r.condition = .degraded ∧ f = { kind := .siteService, severity := .minor, rootSource := some .timebase })
        ∨ (r.condition = .unusable ∧ f = { kind := .siteService, severity := .major, rootSource := some .timebase }) := by
      unfold serviceFound
      cases r.condition <;> simp
    have silence : f ∈ silenceFound r ↔
        (r.silence = .short ∧ f = { kind := .siteSilence, severity := .warning, rootSource := some (.link r.link) })
        ∨ (r.silence = .long ∧ f = { kind := .siteSilence, severity := .minor, rootSource := some (.link r.link) }) := by
      unfold silenceFound
      cases r.silence <;> simp
    rw [siteFound_active active, List.mem_append, service, silence, or_assoc]
    exact (and_iff_right active).symm
  · rw [siteFound_other active]
    exact iff_of_false List.not_mem_nil fun is => active is.1

/-- Settles O52. -/
theorem alarmConditions : Obligations.AlarmConditions := by
  refine ⟨exists_timebaseFound, fun p f m => ?_, mem_refFound, mem_linkFound, mem_siteFound_iff⟩
  unfold timebaseFound at m
  cases state : p.state <;> rw [state] at m
  case acquire => cases m
  case locked => cases m
  all_goals
    rw [List.mem_singleton.mp m]
    exact ⟨rfl, rfl⟩

/-! ### One scan (R163, R177) -/

/-- An armed table calls when an entry qualifies now and did not before. -/
def AlarmTable.calls (before : List Nat) (t : AlarmTable) : Prop :=
  t.armed = true ∧ ∃ e ∈ t.entries, e.qualifies t.threshold = true ∧ e.serial ∉ before

theorem AlarmTable.mem_qualifying {t : AlarmTable} {k : Nat} :
    k ∈ t.qualifying ↔ ∃ e ∈ t.entries, e.qualifies t.threshold = true ∧ e.serial = k := by
  simp only [AlarmTable.qualifying, List.mem_map, List.mem_filter, and_assoc]

theorem AlarmTable.calls_iff (before : List Nat) (t : AlarmTable) :
    (t.armed && t.qualifying.any (fun k => !before.contains k)) = true ↔ t.calls before := by
  rw [Bool.and_eq_true, List.any_eq_true]
  refine and_congr_right' ⟨fun ⟨k, m, new⟩ => ?_, fun ⟨e, m, qualifies, new⟩ => ?_⟩
  · obtain ⟨e, me, qualifies, rfl⟩ := AlarmTable.mem_qualifying.mp m
    exact ⟨e, me, qualifies, by simpa using new⟩
  · exact ⟨e.serial, AlarmTable.mem_qualifying.mpr ⟨e, m, qualifies, rfl⟩, by simpa using new⟩

theorem AlarmTable.judgeNotify_calls {t : AlarmTable} {before : List Nat} (calls : t.calls before) :
    t.judgeNotify before = { t with asserted := true, armed := false } :=
  if_pos ((t.calls_iff before).mpr calls)

theorem AlarmTable.judgeNotify_settles {t : AlarmTable} {before : List Nat} (quiet : ¬ t.calls before) :
    t.judgeNotify before = t.settle :=
  if_neg fun calls => quiet ((t.calls_iff before).mp calls)

/-- The flags of the notify line that a walk leaves alone. -/
theorem Scan.sources_notify (seconds : Seconds) : ∀ (xs : List (AlarmSource × List Found)) (c : Scan),
    (xs.foldl (Scan.source seconds) c).table.notify = c.table.notify
  | [], _ => rfl
  | x :: xs, c => (Scan.sources_notify seconds xs _).trans (Scan.source_notify seconds c x)

/-- The table of a scan before the notify line is judged. -/
def settledScan (s : State) (p : Published) : AlarmTable :=
  let c := (sourcesFound s p).foldl (Scan.source p.seconds) { table := s.atu, unrecorded := 0 }
  c.table.settleFull (min c.unrecorded 255) p.seconds

theorem scanTable_eq (s : State) (p : Published) : scanTable s p = (settledScan s p).judgeNotify s.atu.qualifying := rfl

theorem settledScan_notify (s : State) (p : Published) : (settledScan s p).notify = s.atu.notify :=
  (AlarmTable.settleFull_notify _ _ _).trans (Scan.sources_notify _ _ _)

/-- Settles O53: the notify line is judged with the flags as they stood before the walk, which does not touch them. -/
theorem alarmScanOutcome : Obligations.AlarmScanOutcome := by
  refine ⟨fun older s => ?scan, fun seconds c src found => rfl, fun r => ⟨siteFound_active, siteFound_other⟩⟩
  intro p walk c a before calls stands
  have isA : a = settledScan s (s.copyHeld older) := rfl
  have run : exec (.alarmScan older) s = .next { s with atu := a.judgeNotify before } := rfl
  clear_value a
  have flags : a.notify = s.atu.notify := isA ▸ settledScan_notify s _
  have asserted : a.asserted = s.atu.asserted := congrArg Prod.fst flags
  have armed : a.armed = s.atu.armed := congrArg (fun n => n.2.1) flags
  have threshold : a.threshold = s.atu.threshold := congrArg (fun n => n.2.2) flags
  have isCalls : a.calls before ↔ calls := by
    unfold AlarmTable.calls
    rw [armed, threshold]
  have isStands : a.settle.asserted = true ↔ stands := by
    rw [AlarmTable.settle_asserted, asserted, threshold]
  rw [run]
  refine ⟨fun is => ?_, fun quiet on => ?_, fun quiet off => ?_⟩
  · rw [AlarmTable.judgeNotify_calls (isCalls.mpr is)]
  · rw [AlarmTable.judgeNotify_settles (mt isCalls.mp quiet), ← isStands.mpr on]
    rfl
  · rw [AlarmTable.judgeNotify_settles (mt isCalls.mp quiet), ← Bool.eq_false_iff.mpr (mt isStands.mp off)]
    rfl

end Sys2Proof.Machine
end

section
/-! PROOF. What a scan does with one source: the conditions present, the conditions gone, and TABLE_FULL. -/

namespace Sys2Proof.Machine

open Sys2Proof

/-! ### A condition present (R164, R166, R168) -/

theorem AlarmEntry.meet_eq (f : Found) (root : Option Nat) (seconds : Seconds) (e : AlarmEntry) :
    e.meet f root seconds = if e.condition = .cleared then e.reRaise f.severity root seconds else e.follow f.severity seconds := by
  unfold AlarmEntry.meet
  cases e.condition <;> rfl

theorem Scan.present_met {seconds : Seconds} {src : AlarmSource} {c : Scan} {f : Found}
    (there : ∃ e ∈ c.table.entries, e.source = src ∧ e.kind = f.kind) :
    Scan.present seconds src c f = { c with table := { c.table with entries := c.table.entries.map (fun e =>
      if e.source = src ∧ e.kind = f.kind then e.meet f (c.table.rootOf f.rootSource) seconds else e) } } := by
  refine (if_pos (by simpa using there)).trans ?_
  simp only [Bool.and_eq_true, beq_iff_eq]

theorem Scan.present_new {seconds : Seconds} {src : AlarmSource} {c : Scan} {f : Found} {k : Nat}
    (fresh : ∀ e ∈ c.table.entries, ¬ (e.source = src ∧ e.kind = f.kind)) (free : c.table.freeIndex = some k) :
    Scan.present seconds src c f
      = { c with table := c.table.add k src f.kind f.severity (c.table.rootOf f.rootSource) seconds 0 } := by
  refine (if_neg (by simpa using fresh)).trans ?_
  rw [free]

theorem Scan.present_unrecorded {seconds : Seconds} {src : AlarmSource} {c : Scan} {f : Found}
    (fresh : ∀ e ∈ c.table.entries, ¬ (e.source = src ∧ e.kind = f.kind)) (taken : c.table.freeIndex = none) :
    Scan.present seconds src c f = { c with unrecorded := c.unrecorded + 1 } := by
  refine (if_neg (by simpa using fresh)).trans ?_
  rw [taken]

theorem AlarmTable.freeIndex_eq_some {t : AlarmTable} {k : Nat} (within : k ≤ 46) (free : ∀ e ∈ t.entries, e.index ≠ k)
    (lowest : ∀ j, j < k → ∃ e ∈ t.entries, e.index = j) : t.freeIndex = some k := by
  refine List.find?_range_eq_some.mpr ⟨by simpa using free, List.mem_range.mpr (Nat.lt_succ_of_le within), fun j below => ?_⟩
  simpa using lowest j below

theorem AlarmTable.freeIndex_eq_none {t : AlarmTable} (taken : ∀ j, j ≤ 46 → ∃ e ∈ t.entries, e.index = j) : t.freeIndex = none :=
  List.find?_range_eq_none.mpr fun j within => by simpa using taken j (Nat.le_of_lt_succ within)

theorem AlarmTable.rootOf_none {t : AlarmTable} {src : AlarmSource} (no : ∀ e ∈ t.entries, ¬ (e.source = src ∧ e.condition = .active)) :
    t.rootOf (some src) = none := by
  refine Option.map_eq_none_iff.mpr (List.find?_eq_none.mpr fun e m => ?_)
  simpa using no e m

theorem AlarmTable.rootOf_first {t : AlarmTable} {src : AlarmSource} {e : AlarmEntry} {before after : List AlarmEntry}
    (split : t.entries = before ++ e :: after) (is : e.source = src ∧ e.condition = .active)
    (first : ∀ x ∈ before, ¬ (x.source = src ∧ x.condition = .active)) : t.rootOf (some src) = some e.index := by
  refine Option.map_eq_some_iff.mpr ⟨e, List.find?_eq_some_iff_append.mpr ⟨by simpa using is, before, after, split, fun x m => ?_⟩, rfl⟩
  rw [Bool.not_eq_true', ← Bool.not_eq_true, Bool.and_eq_true, beq_iff_eq, beq_iff_eq]
  exact first x m

/-! ### A condition gone (R165, R169) -/

theorem AlarmEntry.isGone_iff (src : AlarmSource) (found : List Found) (e : AlarmEntry) :
    e.isGone src found = true ↔ e.source = src ∧ e.condition = .active ∧ ∀ f ∈ found, f.kind ≠ e.kind := by
  simp [AlarmEntry.isGone, and_assoc]

theorem AlarmEntry.isGone_unmark (gone : List Nat) (src : AlarmSource) (found : List Found) (e : AlarmEntry) :
    (e.unmark gone).isGone src found = e.isGone src found := by
  rw [AlarmEntry.unmark_eq]
  rfl

theorem AlarmEntry.clear_unmark (gone : List Nat) (seconds : Seconds) (e : AlarmEntry) :
    (e.unmark gone).clear seconds = (e.clear seconds).unmark gone := by
  rw [AlarmEntry.unmark_eq gone e, AlarmEntry.unmark_eq gone (e.clear seconds), AlarmEntry.unmark_root, AlarmEntry.unmark_root]
  rfl

/-- A mark that goes by the smaller list goes by the greater one. -/
theorem AlarmEntry.unmark_unmark {retired gone : List Nat} (within : retired ⊆ gone) (e : AlarmEntry) :
    (e.unmark retired).unmark gone = e.unmark gone := by
  have root : ((e.unmark retired).unmark gone).root = (e.unmark gone).root := by
    by_cases named : ∃ k, e.root = some k ∧ k ∈ retired
    · have off : (e.unmark retired).root = none := (e.unmark_root retired).trans (if_pos named)
      obtain ⟨k, marked, m⟩ := named
      rw [AlarmEntry.unmark_root gone (e.unmark retired), off, ite_self, AlarmEntry.unmark_root, if_pos ⟨k, marked, within m⟩]
    · have same : (e.unmark retired).root = e.root := (e.unmark_root retired).trans (if_neg named)
      rw [AlarmEntry.unmark_root gone (e.unmark retired), same, AlarmEntry.unmark_root]
  rw [AlarmEntry.unmark_eq gone (e.unmark retired), root, AlarmEntry.unmark_eq retired e]
  exact (e.unmark_eq gone).symm

/-- An entry as a source's absent kinds leave it. -/
def AlarmEntry.afterAbsent (gone : List Nat) (seconds : Seconds) (src : AlarmSource) (found : List Found) (e : AlarmEntry) : AlarmEntry :=
  (if e.isGone src found then e.clear seconds else e).unmark gone

theorem AlarmEntry.afterAbsent_gone {gone : List Nat} {seconds : Seconds} {src : AlarmSource} {found : List Found} {e : AlarmEntry}
    (is : e.isGone src found = true) : e.afterAbsent gone seconds src found
      = { e with condition := .cleared, lastChange := seconds, root := (e.afterAbsent gone seconds src found).root } := by
  unfold AlarmEntry.afterAbsent
  rw [if_pos is]
  exact (e.clear seconds).unmark_eq gone

theorem AlarmEntry.afterAbsent_here {gone : List Nat} {seconds : Seconds} {src : AlarmSource} {found : List Found} {e : AlarmEntry}
    (here : e.isGone src found = false) : e.afterAbsent gone seconds src found
      = { e with root := (e.afterAbsent gone seconds src found).root } := by
  unfold AlarmEntry.afterAbsent
  rw [if_neg (Bool.eq_false_iff.mp here)]
  exact e.unmark_eq gone

theorem AlarmEntry.afterAbsent_root (gone : List Nat) (seconds : Seconds) (src : AlarmSource) (found : List Found) (e : AlarmEntry) :
    (e.afterAbsent gone seconds src found).root = if ∃ k, e.root = some k ∧ k ∈ gone then none else e.root := by
  have same : (if e.isGone src found then e.clear seconds else e).root = e.root := by
    cases e.isGone src found <;> rfl
  rw [AlarmEntry.afterAbsent, AlarmEntry.unmark_root, same]

theorem AlarmTable.clearAbsent_entries (seconds : Seconds) (src : AlarmSource) (found : List Found) (t : AlarmTable) :
    (t.clearAbsent seconds src found).entries = (t.entries.filter (fun e => !(e.isGone src found && e.acknowledged))).map
      (AlarmEntry.afterAbsent ((t.entries.filter (AlarmEntry.isGone src found)).map AlarmEntry.index) seconds src found) := by
  show List.map _ (List.map _ _) = _
  rw [List.map_map]
  refine List.map_congr_left fun e _ => ?_
  have within : (t.entries.filter (fun e => e.isGone src found && e.acknowledged)).map AlarmEntry.index
      ⊆ (t.entries.filter (AlarmEntry.isGone src found)).map AlarmEntry.index :=
    List.map_subset _ fun g m => List.mem_filter.mpr ⟨(List.mem_filter.mp m).1, (Bool.and_eq_true_iff.mp (List.mem_filter.mp m).2).1⟩
  rw [Function.comp_apply, AlarmEntry.isGone_unmark, AlarmEntry.clear_unmark, AlarmEntry.afterAbsent]
  cases e.isGone src found <;> exact AlarmEntry.unmark_unmark within _

theorem AlarmTable.clearAbsent_kept {t : AlarmTable} {seconds : Seconds} {src : AlarmSource} {found : List Found} {x : AlarmEntry}
    (m : x ∈ (t.clearAbsent seconds src found).entries) : ∃ e ∈ t.entries, (e.isGone src found && e.acknowledged) = false
      ∧ x = e.afterAbsent ((t.entries.filter (AlarmEntry.isGone src found)).map AlarmEntry.index) seconds src found := by
  rw [AlarmTable.clearAbsent_entries] at m
  obtain ⟨e, me, rfl⟩ := List.mem_map.mp m
  obtain ⟨me, stays⟩ := List.mem_filter.mp me
  exact ⟨e, me, (Bool.not_eq_true' _).mp stays, rfl⟩

/-! ### TABLE_FULL (R167) -/

theorem AlarmEntry.fillAgain_eq (n : Nat) (seconds : Seconds) (e : AlarmEntry) :
    e.fillAgain n seconds = if e.condition = .cleared then
      { e with condition := .active, raiseCount := min (e.raiseCount + 1) 255, lastChange := seconds, unrecorded := n }
      else { e with unrecorded := n } := by
  unfold AlarmEntry.fillAgain
  cases e.condition <;> rfl

section Full

variable {n : Nat} {seconds : Seconds} {t : AlarmTable}

theorem AlarmTable.settleFull_new (some : 0 < n) (no : ∀ e ∈ t.entries, e.kind ≠ .tableFull) :
    t.settleFull n seconds = { t.add 47 .table .tableFull .major none seconds n with lastUnrecorded := n } := by
  unfold AlarmTable.settleFull
  dsimp only
  rw [if_pos some, if_neg (by simpa using no)]
  rfl

theorem AlarmTable.settleFull_again (some : 0 < n) (there : ∃ e ∈ t.entries, e.kind = .tableFull) :
    t.settleFull n seconds = { t with
      lastUnrecorded := n, entries := t.entries.map (fun e => if e.kind = .tableFull then e.fillAgain n seconds else e) } := by
  unfold AlarmTable.settleFull
  dsimp only
  rw [if_pos some, if_pos (by simpa using there)]
  simp only [beq_iff_eq]

/-- With nothing unrecorded, and no mark that names TABLE_FULL where it is retired. -/
theorem AlarmTable.settleFull_none (unmarked : ∀ f ∈ t.entries, ∀ k, f.root = some k → ∀ g ∈ t.entries,
      (g.kind == .tableFull && g.condition == .active && g.acknowledged) = true → g.index ≠ k) :
    t.settleFull 0 seconds = { t with
      lastUnrecorded := 0
      entries := (t.entries.filter (fun e => !(e.kind == .tableFull && e.condition == .active && e.acknowledged))).map
        (fun e => if e.kind = .tableFull ∧ e.condition = .active then e.clear seconds else e) } := by
  unfold AlarmTable.settleFull
  dsimp only
  rw [if_neg (Nat.lt_irrefl 0), AlarmTable.retireWhere_unmarked _ _ unmarked]
  simp only [Bool.and_eq_true, beq_iff_eq]
  rfl

/-- Where TABLE_FULL is not ACTIVE and acknowledged, none is retired. -/
theorem AlarmTable.settleFull_unretired
    (stays : ∀ e ∈ t.entries, (e.kind == .tableFull && e.condition == .active && e.acknowledged) = false) :
    t.settleFull 0 seconds = { t with
      lastUnrecorded := 0
      entries := t.entries.map (fun e => if e.kind = .tableFull ∧ e.condition = .active then e.clear seconds else e) } := by
  have all : t.entries.filter (fun e => !(e.kind == .tableFull && e.condition == .active && e.acknowledged)) = t.entries :=
    List.filter_eq_self.mpr fun e m => by rw [stays e m]; rfl
  rw [AlarmTable.settleFull_none fun f _ k _ g mg retired => absurd (stays g mg) (by rw [retired]; exact nofun)]
  rw [all]

/-- A CLEARED TABLE_FULL, or none, stays as it is. -/
theorem AlarmTable.settleFull_rests (rests : ∀ e ∈ t.entries, e.kind = .tableFull → e.condition = .cleared) :
    t.settleFull 0 seconds = { t with lastUnrecorded := 0 } := by
  have inactive (e) (m : e ∈ t.entries) : ¬ (e.kind = .tableFull ∧ e.condition = .active) := fun is =>
    nomatch is.2.symm.trans (rests e m is.1)
  rw [AlarmTable.settleFull_unretired fun e m => Bool.eq_false_iff.mpr fun is => inactive e m (by simp at is; exact is.1)]
  have untouched : ∀ e ∈ t.entries, (if e.kind = .tableFull ∧ e.condition = .active then e.clear seconds else e) = e := fun e m =>
    if_neg (inactive e m)
  rw [(List.map_congr_left untouched).trans (List.map_id _)]

theorem AlarmTable.settleFull_clears (active : ∀ e ∈ t.entries, e.kind = .tableFull → e.condition = .active ∧ e.acknowledged = false) :
    t.settleFull 0 seconds = { t with
      lastUnrecorded := 0
      entries := t.entries.map (fun e => if e.kind = .tableFull then { e with condition := .cleared, lastChange := seconds } else e) } := by
  rw [AlarmTable.settleFull_unretired fun e m => ?stays]
  case stays =>
    by_cases full : e.kind = .tableFull
    · rw [(active e m full).2, Bool.and_false]
    · simp [full]
  · have same : ∀ e ∈ t.entries, (if e.kind = .tableFull ∧ e.condition = .active then e.clear seconds else e)
        = if e.kind = .tableFull then { e with condition := .cleared, lastChange := seconds } else e := fun e m =>
      if_congr (and_iff_left_of_imp fun full => (active e m full).1) rfl rfl
    rw [List.map_congr_left same]

theorem AlarmTable.settleFull_retires (active : ∀ e ∈ t.entries, e.kind = .tableFull → e.condition = .active ∧ e.acknowledged = true)
    (unmarked : ∀ e ∈ t.entries, ∀ g ∈ t.entries, g.kind = .tableFull → e.root ≠ some g.index) :
    t.settleFull 0 seconds = { t with lastUnrecorded := 0, entries := t.entries.filter (fun e => e.kind != .tableFull) } := by
  have retired : ∀ e ∈ t.entries,
      (!(e.kind == .tableFull && e.condition == .active && e.acknowledged)) = (e.kind != .tableFull) := fun e m => by
    by_cases full : e.kind = .tableFull
    · simp [full, active e m full]
    · rw [beq_false_of_ne full, bne_iff_ne.mpr full]
      rfl
  rw [AlarmTable.settleFull_none fun f mf k marked g mg is isK => unmarked f mf g mg (by simp at is; exact is.1.1) (isK ▸ marked),
    List.filter_congr retired]
  have untouched : ∀ e ∈ t.entries.filter (fun e => e.kind != .tableFull),
      (if e.kind = .tableFull ∧ e.condition = .active then e.clear seconds else e) = e := fun e m =>
    if_neg fun is => (bne_iff_ne.mp (List.mem_filter.mp m).2) is.1
  rw [(List.map_congr_left untouched).trans (List.map_id _)]

end Full

/-- Settles O54. -/
theorem alarmRaiseAndClear : Obligations.AlarmRaiseAndClear := by
  refine ⟨fun seconds src c f => ⟨fun there => ?met, fun k fresh within free lowest => ?new, fun fresh taken => ?unrecorded⟩,
    fun t src => ⟨rfl, AlarmTable.rootOf_none, fun e before after => AlarmTable.rootOf_first⟩,
    fun seconds src found t => ⟨rfl, fun x m => ?cleared, fun e m kept => ?keeps⟩,
    fun n seconds t => ⟨rfl, AlarmTable.settleFull_new, fun some there => ?again, fun none no => ?no, fun none rests => ?rests,
      fun none active => ?clears, fun none active unmarked => ?retires⟩⟩
  case met =>
    refine (Scan.present_met there).trans ?_
    simp only [AlarmEntry.meet_eq]
    rfl
  case new => exact Scan.present_new fresh (AlarmTable.freeIndex_eq_some within free lowest)
  case unrecorded => exact Scan.present_unrecorded fresh (AlarmTable.freeIndex_eq_none taken)
  case cleared =>
    obtain ⟨e, me, stays, rfl⟩ := AlarmTable.clearAbsent_kept m
    have named : (∃ k, e.root = some k ∧ k ∈ (t.entries.filter (AlarmEntry.isGone src found)).map AlarmEntry.index)
        ↔ ∃ k, e.root = some k ∧ ∃ g ∈ t.entries,
          (g.source = src ∧ g.condition = .active ∧ ∀ f ∈ found, f.kind ≠ g.kind) ∧ g.index = k := by
      simp only [List.mem_map, List.mem_filter, AlarmEntry.isGone_iff, and_assoc]
    refine ⟨e, me, fun is => ?_, fun gone => ?_, fun here => ?_, fun off => ?_, fun on => ?_⟩
    · rw [(e.isGone_iff src found).mpr is.1, is.2] at stays
      cases stays
    · exact AlarmEntry.afterAbsent_gone ((e.isGone_iff src found).mpr gone)
    · exact AlarmEntry.afterAbsent_here (Bool.eq_false_iff.mpr (mt (e.isGone_iff src found).mp here))
    · rw [AlarmEntry.afterAbsent_root, if_pos (named.mpr off)]
    · rw [AlarmEntry.afterAbsent_root, if_neg (mt named.mp on)]
  case keeps =>
    refine ⟨e.afterAbsent ((t.entries.filter (AlarmEntry.isGone src found)).map AlarmEntry.index) seconds src found, ?_, ?_⟩
    · rw [AlarmTable.clearAbsent_entries]
      refine List.mem_map_of_mem (List.mem_filter.mpr ⟨m, ?_⟩)
      rw [Bool.not_eq_true', Bool.eq_false_iff]
      exact fun is => kept ⟨(e.isGone_iff src found).mp (Bool.and_eq_true_iff.mp is).1, (Bool.and_eq_true_iff.mp is).2⟩
    · cases is : e.isGone src found
      · rw [AlarmEntry.afterAbsent_here is]
        exact ⟨rfl, rfl⟩
      · rw [AlarmEntry.afterAbsent_gone is]
        exact ⟨rfl, rfl⟩
  case again =>
    refine (AlarmTable.settleFull_again some there).trans ?_
    simp only [AlarmEntry.fillAgain_eq, ne_eq, ite_not]
  case no =>
    subst none
    exact AlarmTable.settleFull_rests fun e m full => absurd full (no e m)
  case rests =>
    subst none
    exact AlarmTable.settleFull_rests rests
  case clears =>
    subst none
    exact AlarmTable.settleFull_clears active
  case retires =>
    subst none
    exact AlarmTable.settleFull_retires active unmarked

end Sys2Proof.Machine
end

section
/-! PROOF. The requests of the alarm table: what each answers, and what an acknowledgement changes. -/

namespace Sys2Proof.Machine

open Sys2Proof

/-! ### Answers (R171) -/

theorem AlarmTable.summary_eq (t : AlarmTable) : t.summary
    = [natItem 1 t.entries.length, natItem 1 (t.entries.filter (AlarmEntry.qualifies t.threshold)).length, .flag t.asserted,
        .flag t.armed, natItem 1 t.threshold.code, natItem 1 t.lastUnrecorded, natItem 6 t.nextSerial] := by
  rw [AlarmTable.summary, AlarmTable.qualifying, List.length_map]

/-- A request of the ATU answers what its act gives, with the summary of the table after it. -/
theorem exec_atu {i : Instr} {tag : Nat} {s t : State} {act : State → State × Result × List Item} {r : Result} {extra : List Item}
    (idle : s.port.state = .idle) (run : exec i s = .next (request tag act s)) (is : act s = atuAnswer t r extra) :
    exec i s = .next (t.respond tag r (extra
      ++ [natItem 1 t.atu.entries.length, natItem 1 (t.atu.entries.filter (AlarmEntry.qualifies t.atu.threshold)).length,
        .flag t.atu.asserted, .flag t.atu.armed, natItem 1 t.atu.threshold.code, natItem 1 t.atu.lastUnrecorded,
        natItem 6 t.atu.nextSerial])) := by
  rw [run, request_idle idle, is, ← AlarmTable.summary_eq]
  rfl

/-! ### Lookups (R174, R175) -/

theorem AlarmEntry.isNumbered_iff (a b c : Nat) (e : AlarmEntry) :
    e.isNumbered a b c = true ↔ e.source.typeCode = a ∧ e.source.number = b ∧ e.kind.code = c := by
  simp [AlarmEntry.isNumbered, and_assoc]

section Lookup

variable {entries : List AlarmEntry} {p : AlarmEntry → Bool} {named : AlarmEntry → Prop} (names : ∀ e, p e = true ↔ named e)
include names

theorem find?_nobody (no : ∀ e ∈ entries, ¬ named e) : entries.find? p = none :=
  List.find?_eq_none.mpr fun e m => mt (names e).mp (no e m)

theorem find?_first {e : AlarmEntry} {before after : List AlarmEntry} (split : entries = before ++ e :: after) (is : named e)
    (first : ∀ x ∈ before, ¬ named x) : entries.find? p = some e := by
  refine List.find?_eq_some_iff_append.mpr ⟨(names e).mpr is, before, after, split, fun x m => ?_⟩
  rw [Bool.not_eq_true', Bool.eq_false_iff]
  exact mt (names x).mp (first x m)

end Lookup

/-! ### Acknowledgement (R172, R173) -/

theorem AlarmEntry.ack_eq (seconds : Seconds) (e : AlarmEntry) : e.ack seconds
    = if e.condition = .active ∧ e.acknowledged = false then { e with acknowledged := true, lastChange := seconds } else e :=
  if_congr (by simp) rfl rfl

theorem AlarmEntry.ack_unmark (gone : List Nat) (seconds : Seconds) (e : AlarmEntry) :
    (e.unmark gone).ack seconds = (e.ack seconds).unmark gone := by
  rw [AlarmEntry.ack_eq, AlarmEntry.unmark_condition, AlarmEntry.unmark_acknowledged, AlarmEntry.ack_eq]
  by_cases fresh : e.condition = .active ∧ e.acknowledged = false
  · rw [if_pos fresh, if_pos fresh, AlarmEntry.unmark_eq gone { e with acknowledged := true, lastChange := seconds },
      AlarmEntry.unmark_root gone { e with acknowledged := true, lastChange := seconds }, ← AlarmEntry.unmark_root gone e]
    rw [AlarmEntry.unmark_eq gone e]
  · rw [if_neg fresh, if_neg fresh]

/-- What taking marks off does to one entry. -/
theorem AlarmEntry.unmark_unmarked {gone : List Nat} {named : Nat → Prop} (names : ∀ k, k ∈ gone ↔ named k) (e : AlarmEntry) :
    e.unmark gone = { e with root := (e.unmark gone).root }
    ∧ (∀ k, e.root = some k → named k → (e.unmark gone).root = none)
    ∧ ((∀ k, e.root = some k → ¬ named k) → (e.unmark gone).root = e.root) := by
  refine ⟨e.unmark_eq gone, fun k marked is => ?_, fun unnamed => ?_⟩
  · rw [AlarmEntry.unmark_root, if_pos ⟨k, marked, (names k).mpr is⟩]
  · rw [AlarmEntry.unmark_root, if_neg fun ⟨k, marked, m⟩ => unnamed k marked ((names k).mp m)]

/-- The indexes of the entries that an acknowledgement retires. -/
def AlarmTable.ackRetired (p : AlarmEntry → Bool) (t : AlarmTable) : List Nat :=
  (t.entries.filter (fun e => p e && e.condition == .cleared)).map AlarmEntry.index

section Ack

variable {p : AlarmEntry → Bool} {chosen : AlarmEntry → Prop} (names : ∀ e, p e = true ↔ chosen e)

theorem AlarmTable.ackWhere_eq (p : AlarmEntry → Bool) (seconds : Seconds) (t : AlarmTable) : t.ackWhere p seconds
    = { t with entries := (t.ackWhere p seconds).entries, asserted := (t.ackWhere p seconds).asserted } := rfl

/-- The entries left, where the choice goes by what a mark does not touch. -/
theorem AlarmTable.ackWhere_entries (byMark : ∀ (gone : List Nat) (e : AlarmEntry), p (e.unmark gone) = p e) (seconds : Seconds)
    (t : AlarmTable) : (t.ackWhere p seconds).entries = (t.entries.filter (fun e => !(p e && e.condition == .cleared))).map
      (fun e => (if p e then e.ack seconds else e).unmark (t.ackRetired p)) := by
  show List.map _ (List.map _ _) = _
  rw [List.map_map]
  refine List.map_congr_left fun e _ => ?_
  rw [Function.comp_apply, byMark, AlarmEntry.ack_unmark]
  cases p e <;> rfl

include names

theorem retired_iff (e : AlarmEntry) : (p e && e.condition == .cleared) = true ↔ chosen e ∧ e.condition = .cleared := by
  rw [Bool.and_eq_true, beq_iff_eq, names]

theorem AlarmTable.mem_ackRetired (t : AlarmTable) (k : Nat) :
    k ∈ t.ackRetired p ↔ ∃ e ∈ t.entries, (chosen e ∧ e.condition = .cleared) ∧ e.index = k := by
  simp only [AlarmTable.ackRetired, List.mem_map, List.mem_filter, retired_iff names, and_assoc]

end Ack

section Acknowledged

variable {p : AlarmEntry → Bool} {chosen : AlarmEntry → Prop} {s : State}

/-- The state after an acknowledgement of the entries chosen. -/
def State.acked (p : AlarmEntry → Bool) (s : State) : State := { s with atu := s.atu.ackWhere p s.published.seconds }

/-- What the statement says of an acknowledgement. -/
theorem State.acked_outcome (names : ∀ e, p e = true ↔ chosen e) (byMark : ∀ (gone : List Nat) (e : AlarmEntry), p (e.unmark gone) = p e) :
    let entries := s.atu.entries
    let stamped := fun e : AlarmEntry => if e.condition = .active ∧ e.acknowledged = false
      then { e with acknowledged := true, lastChange := s.published.seconds } else e
    let unmarked := fun (gone : Nat → Prop) (e f : AlarmEntry) =>
      f = { e with root := f.root } ∧ (∀ k, e.root = some k → gone k → f.root = none)
      ∧ ((∀ k, e.root = some k → ¬ gone k) → f.root = e.root)
    let retired := fun e : AlarmEntry => chosen e ∧ e.condition = .cleared
    let gone := fun k : Nat => ∃ e ∈ entries, retired e ∧ e.index = k
    (∀ f ∈ (s.acked p).atu.entries, ∃ e ∈ entries, ¬ retired e ∧ (chosen e → unmarked gone (stamped e) f)
      ∧ (¬ chosen e → unmarked gone e f))
    ∧ (∀ e ∈ entries, ¬ retired e → ∃ f ∈ (s.acked p).atu.entries, f.serial = e.serial ∧ f.index = e.index) := by
  intro entries stamped unmarked retired gone
  have left : (s.acked p).atu.entries = (entries.filter (fun e => !(p e && e.condition == .cleared))).map
      (fun e => (if p e then e.ack s.published.seconds else e).unmark (s.atu.ackRetired p)) :=
    AlarmTable.ackWhere_entries byMark _ _
  have kept (e : AlarmEntry) : (!(p e && e.condition == .cleared)) = true ↔ ¬ retired e := by
    rw [Bool.not_eq_true', ← Bool.not_eq_true, retired_iff names]
  rw [left]
  refine ⟨fun f m => ?_, fun e m stays => ?_⟩
  · obtain ⟨e, me, rfl⟩ := List.mem_map.mp m
    obtain ⟨me, stays⟩ := List.mem_filter.mp me
    refine ⟨e, me, (kept e).mp stays, fun is => ?_, fun other => ?_⟩
    · rw [if_pos ((names e).mpr is), AlarmEntry.ack_eq]
      exact AlarmEntry.unmark_unmarked (AlarmTable.mem_ackRetired names s.atu) _
    · rw [if_neg (mt (names e).mp other)]
      exact AlarmEntry.unmark_unmarked (AlarmTable.mem_ackRetired names s.atu) _
  · refine ⟨_, List.mem_map_of_mem (List.mem_filter.mpr ⟨m, (kept e).mpr stays⟩), ?_⟩
    have same := AlarmEntry.identity_eq.mp ((AlarmEntry.unmark_identity (s.atu.ackRetired p)
      (if p e then e.ack s.published.seconds else e)).trans (by
        split
        · exact e.ack_identity _
        · rfl))
    exact ⟨same.2.1, same.1⟩

theorem State.acked_asserted : (s.acked p).atu.asserted = true ↔
    s.atu.asserted = true ∧ ∃ f ∈ (s.acked p).atu.entries, f.qualifies s.atu.threshold = true :=
  AlarmTable.settle_asserted _

end Acknowledged

/-- A set of severities without any of the four (R173, R191). -/
theorem noSeverity_iff (set : BitVec 8) : set &&& 0x0F#8 = 0 ↔ ∀ v : Severity, set.getLsbD v.code = false := by
  have low : ∀ k, k < 4 → (0x0F#8).getLsbD k = true := by decide
  have high : ∀ k, k < 8 → 4 ≤ k → (0x0F#8).getLsbD k = false := by decide
  have bit (k : Nat) : (set &&& 0x0F#8).getLsbD k = (set.getLsbD k && (0x0F#8).getLsbD k) := BitVec.getLsbD_and
  refine ⟨fun zero v => ?_, fun no => BitVec.eq_of_getLsbD_eq fun k within => ?_⟩
  · have clear := bit v.code
    rwa [zero, low v.code (by cases v <;> decide), Bool.and_true, BitVec.ofNat_eq_ofNat, BitVec.getLsbD_zero, eq_comm] at clear
  · rw [bit, BitVec.ofNat_eq_ofNat, BitVec.getLsbD_zero]
    by_cases four : k < 4
    · obtain ⟨v, rfl⟩ : ∃ v : Severity, v.code = k := by
        match k, four with
        | 0, _ => exact ⟨.critical, rfl⟩
        | 1, _ => exact ⟨.major, rfl⟩
        | 2, _ => exact ⟨.minor, rfl⟩
        | 3, _ => exact ⟨.warning, rfl⟩
      rw [no v, Bool.false_and]
    · rw [high k within (Nat.le_of_not_lt four), Bool.and_false]

theorem AlarmEntry.items_eq (e : AlarmEntry) : e.items
    = [natItem 1 e.index, natItem 6 e.serial, natItem 1 e.source.typeCode, natItem 1 e.source.number, natItem 4 e.source.siteId,
        natItem 1 e.kind.code, natItem 1 e.severity.code, natItem 1 e.condition.code, .flag e.acknowledged, optNat 1 e.root,
        natItem 1 e.raiseCount, natItem 6 e.firstRaised.toNat, natItem 6 e.lastChange.toNat,
        optNat 1 (if e.kind = .tableFull then some e.unrecorded else none)] := rfl

/-- Settles O50: one search per lookup, and one rule for what an acknowledgement leaves. -/
theorem alarmRequestsOutcome : Obligations.AlarmRequestsOutcome := by
  intro tag s idle entries answer stamped unmarked acked
  have byIndex (k : Nat) : ∀ e : AlarmEntry, (e.index == k) = true ↔ e.index = k := fun e => beq_iff_eq
  have above (cursor : Nat) : ∀ e : AlarmEntry, decide (cursor < e.serial) = true ↔ cursor < e.serial := fun e => decide_eq_true_iff
  refine ⟨fun e => ?items, fun k no => ⟨?_, ?_⟩, fun k before e after split is first => ⟨?_, ?_⟩,
    fun a b c no => ?_, fun a b c before e after split is first => ?_, fun f => ?_, fun cursor no => ?_,
    fun cursor before e after split first is => ?_, fun set no => ?_, fun set v some => ?_⟩
  case items =>
    rw [AlarmEntry.items_eq]
    obtain ⟨index, serial, source, kind, severity, condition, rest⟩ := e
    cases kind <;> rfl
  · refine exec_atu idle rfl ?_
    show entryAnswer s (entries.find? _) = _
    rw [find?_nobody (byIndex k) no]
    rfl
  · refine exec_atu idle rfl ?_
    have nobody := find?_nobody (byIndex k) no
    simp only [entries] at nobody
    simp only [nobody]
  · refine exec_atu idle rfl ?_
    show entryAnswer s (entries.find? _) = _
    rw [find?_first (byIndex k) split is first]
    rfl
  · obtain ⟨left, keeps⟩ := State.acked_outcome (s := s) (byIndex k) fun gone e => by rw [AlarmEntry.unmark_eq]
    refine ⟨s.acked (fun x => x.index == k), ⟨rfl, left, keeps, State.acked_asserted⟩, exec_atu idle rfl ?_⟩
    have found := find?_first (byIndex k) split is first
    simp only [entries] at found
    simp only [found]
    rfl
  · refine exec_atu idle rfl ?_
    show entryAnswer s (entries.find? _) = _
    rw [find?_nobody (AlarmEntry.isNumbered_iff a b c) no]
    rfl
  · refine exec_atu idle rfl ?_
    show entryAnswer s (entries.find? _) = _
    rw [find?_first (AlarmEntry.isNumbered_iff a b c) split is first]
    rfl
  · exact exec_atu idle rfl rfl
  · refine exec_atu idle rfl ?_
    show entryAnswer s (entries.find? _) = _
    rw [find?_nobody (above cursor) fun e m => Nat.not_lt.mpr (no e m)]
    rfl
  · refine exec_atu idle rfl ?_
    show entryAnswer s (entries.find? _) = _
    rw [find?_first (above cursor) split is fun x m => Nat.not_lt.mpr (first x m)]
    rfl
  · exact exec_atu idle rfl (if_pos ((noSeverity_iff set).mpr no))
  · have inSome : ¬ set &&& 0x0F#8 = 0 := fun zero => by
      rw [(noSeverity_iff set).mp zero v] at some
      cases some
    intro chosen
    obtain ⟨left, keeps⟩ := State.acked_outcome (s := s) (p := inSet set) (chosen := chosen) (fun e => Iff.rfl) fun gone e => by
      rw [AlarmEntry.unmark_eq]
      rfl
    exact ⟨s.acked (inSet set), ⟨rfl, left, keeps, State.acked_asserted⟩, exec_atu idle rfl (if_neg inSome)⟩

end Sys2Proof.Machine
end

section
/-! PROOF. What the bytes of a request's parameters spell: numbers, presence bits, flags, and each parameter record read back. -/

namespace Sys2Proof.Machine

open Sys2Proof

/-! ### Numbers -/

theorem fits_iff {n v : Nat} : fits n v = true ↔ v < 256 ^ n := decide_eq_true_iff

theorem optFits_getD {n : Nat} {x : Option Nat} (within : optFits n x = true) : fits n (x.getD 0) = true := by
  cases x with
  | none => exact fits_iff.mpr (Nat.pow_pos (by decide))
  | some v => exact within

theorem foldl_beBytes (v : Nat) : ∀ n a : Nat,
    (beBytes n v).foldl (fun a b => a * 256 + b.toNat) a = a * 256 ^ n + v % 256 ^ n
  | 0, a => by simp [beBytes, Nat.mod_one]
  | n + 1, a => by
    rw [beBytes, List.foldl_cons, foldl_beBytes v n, byteOf_toNat, Nat.pow_succ, Nat.mod_mul, Nat.add_mul, Nat.mul_assoc,
      Nat.mul_comm 256, Nat.mul_comm (256 ^ n) (v / 256 ^ n % 256)]
    omega

/-- A number that fits is spelled by its bytes (R191). -/
theorem beNat_beBytes {n v : Nat} (within : fits n v = true) : beNat (beBytes n v) = v := by
  rw [beNat, foldl_beBytes, Nat.zero_mul, Nat.zero_add, Nat.mod_eq_of_lt (fits_iff.mp within)]

theorem leNat_leBytes : ∀ n v : Nat, leNat (leBytes n v) = v % 256 ^ n
  | 0, v => by simp [leBytes, leNat, Nat.mod_one]
  | n + 1, v => by rw [leBytes, leNat, leNat_leBytes n, byteOf_toNat, Nat.pow_succ', Nat.mod_mul]

theorem byteOf_fits {v : Nat} (within : fits 1 v = true) : (byteOf v).toNat = v := by
  rw [byteOf_toNat]
  exact Nat.mod_eq_of_lt (fits_iff.mp within)

theorem byteOf_bits (b : Byte) : byteOf b.toNat = b := BitVec.ofNat_toNat 8 b

theorem beBytes_zero : ∀ n : Nat, beBytes n 0 = List.replicate n 0
  | 0 => rfl
  | n + 1 => by rw [beBytes, beBytes_zero n, Nat.zero_div]; rfl

theorem signedOf_mod {v : Int} (within : fitsSigned v = true) : signedOf (v % 4294967296).toNat = v := by
  obtain ⟨low, high⟩ := decide_eq_true_iff.mp within
  exact signedOf_eq (Int.toNat_of_nonneg (Int.emod_nonneg v (by decide))) low (by omega)

/-! ### Fields -/

section Fields

variable {bs : List Byte} {start width : Nat}

theorem fieldAt_spelled {v : Nat} (there : (bs.drop start).take width = beBytes width v) (within : fits width v = true) :
    fieldAt bs start width = v := by
  rw [fieldAt, there, beNat_beBytes within]

theorem fieldAt_signed {v : Int} (there : (bs.drop start).take 4 = beSigned v) (within : fitsSigned v = true) :
    signedOf (fieldAt bs start 4) = v := by
  have below : fits 4 (v % 4294967296).toNat = true := fits_iff.mpr (by omega)
  rw [fieldAt_spelled there below, signedOf_mod within]

theorem fieldAt_bits {b : Byte} (there : (bs.drop start).take 1 = beBytes 1 b.toNat) : byteOf (fieldAt bs start 1) = b := by
  rw [fieldAt_spelled there (fits_iff.mpr b.isLt), byteOf_bits]

/-- A base, its "any" bit apart. -/
theorem readBase_spelled {any : Bool} {b : BaseReq} (isAny : any = baseIsAny b)
    (there : (bs.drop start).take 1 = beBytes 1 (baseValue b)) (within : baseFits b = true) :
    readBase any (fieldAt bs start 1) = b := by
  subst isAny
  cases b with
  | any => rfl
  | explicit v => exact congrArg BaseReq.explicit (fieldAt_spelled there within)

end Fields

/-! ### Values that may be absent (R193) -/

@[simp] theorem optNat_values (w : Nat) (x : Option Nat) : (optNat w x).values = beBytes w (x.getD 0) := by
  cases x with
  | none => exact (beBytes_zero w).symm
  | some v => rfl

@[simp] theorem optInt_values (x : Option Int) : (optInt x).values = beSigned (x.getD 0) := by
  cases x with
  | none => exact (beBytes_zero 4).symm
  | some v => rfl

@[simp] theorem optNat_presence (w : Nat) (x : Option Nat) : (optNat w x).presence = [x.isSome] := by cases x <;> rfl

@[simp] theorem optInt_presence (x : Option Int) : (optInt x).presence = [x.isSome] := by cases x <;> rfl

@[simp] theorem optNat_flags (w : Nat) (x : Option Nat) : (optNat w x).flags = [] := rfl

@[simp] theorem optInt_flags (x : Option Int) : (optInt x).flags = [] := rfl

@[simp] theorem natItem_values (w v : Nat) : (natItem w v).values = beBytes w v := rfl

@[simp] theorem natItem_presence (w v : Nat) : (natItem w v).presence = [] := rfl

@[simp] theorem natItem_flags (w v : Nat) : (natItem w v).flags = [] := rfl

@[simp] theorem intItem_values (v : Int) : (intItem v).values = beSigned v := rfl

@[simp] theorem intItem_presence (v : Int) : (intItem v).presence = [] := rfl

@[simp] theorem intItem_flags (v : Int) : (intItem v).flags = [] := rfl

@[simp] theorem flag_values (b : Bool) : (Item.flag b).values = [] := rfl

@[simp] theorem flag_presence (b : Bool) : (Item.flag b).presence = [] := rfl

@[simp] theorem flag_flags (b : Bool) : (Item.flag b).flags = [b] := rfl

@[simp] theorem optFlag_values (x : Option Bool) : (Item.optFlag x).values = [] := rfl

@[simp] theorem optFlag_presence (x : Option Bool) : (Item.optFlag x).presence = [x.isSome] := rfl

@[simp] theorem optFlag_flags (x : Option Bool) : (Item.optFlag x).flags = [x.getD false] := rfl

section Present

variable {α : Type} {n k : Nat} {x : Option α}

theorem presentAt_spelled {v : α} (bit : n.testBit k = x.isSome) (value : ∀ y, x = some y → v = y) : presentAt n k v = x := by
  unfold presentAt
  rw [bit]
  cases x with
  | none => rfl
  | some y => exact congrArg some (value y rfl)

end Present

section Read

variable {bs : List Byte} {n k start width : Nat}

theorem presentAt_field {x : Option Nat} (bit : n.testBit k = x.isSome) (there : (bs.drop start).take width = beBytes width (x.getD 0))
    (within : optFits width x = true) : presentAt n k (fieldAt bs start width) = x :=
  presentAt_spelled bit fun y is => (fieldAt_spelled there (optFits_getD within)).trans (by rw [is]; rfl)

theorem presentAt_signed {x : Option Int} (bit : n.testBit k = x.isSome) (there : (bs.drop start).take 4 = beSigned (x.getD 0))
    (within : optFitsSigned x = true) : presentAt n k (signedOf (fieldAt bs start 4)) = x :=
  presentAt_spelled bit fun y is => fieldAt_signed (by rw [there, is]; rfl) (by rw [is] at within; exact within)

theorem presentAt_bits {x : Option Byte} (bit : n.testBit k = x.isSome)
    (there : (bs.drop start).take 1 = beBytes 1 ((x.map BitVec.toNat).getD 0)) : presentAt n k (byteOf (fieldAt bs start 1)) = x :=
  presentAt_spelled bit fun y is => fieldAt_bits (by rw [there, is]; rfl)

theorem presentAt_flag {x : Option Bool} {b : Bool} (bit : n.testBit k = x.isSome) (flag : b = x.getD false) : presentAt n k b = x :=
  presentAt_spelled bit fun y is => by rw [flag, is]; rfl

theorem presentAt_base {x : Option BaseReq} {any : Bool} (bit : n.testBit k = x.isSome) (isAny : any = (x.map baseIsAny).getD false)
    (there : (bs.drop start).take 1 = beBytes 1 ((x.map baseValue).getD 0)) (within : ∀ b, x = some b → baseFits b = true) :
    presentAt n k (readBase any (fieldAt bs start 1)) = x :=
  presentAt_spelled bit fun y is => readBase_spelled (by rw [isAny, is]; rfl) (by rw [there, is]; rfl) (within y is)

end Read

/-! ### Presence and flag bytes -/

/-- The bits of one presence or flag byte. -/
theorem octet_bit (bits : List Bool) {k : Nat} (low : k < 8) : (byteOf (bitsNat bits)).toNat.testBit k = bits[k]?.getD false :=
  (byteOf_testBit low).trans (bitsNat_testBit bits k)

/-- The bits of two presence bytes. -/
theorem octets_bit (bits : List Bool) {k : Nat} (low : k < 16) : (leNat (leBytes 2 (bitsNat bits))).testBit k = bits[k]?.getD false := by
  rw [leNat_leBytes, show 256 ^ 2 = 2 ^ 16 from rfl, Nat.testBit_mod_two_pow, bitsNat_testBit]
  simp [low]

/-! ### The parameter records -/

theorem hubSetParams_eq (p : HubSetReq) : hubSetParams p
    = leBytes 1 (bitsNat [p.identity.isSome, p.tTurn.isSome, p.parentDrop.isSome, p.timeout.isSome])
      ++ (beBytes 4 (p.identity.getD 0) ++ (beBytes 4 (p.tTurn.getD 0) ++ (beBytes 1 (p.parentDrop.getD 0)
        ++ beBytes 1 (p.timeout.getD 0)))) := by
  simp [hubSetParams, packItems, flagByte]

theorem readHubSet_params {p : HubSetReq} (wf : p.wf = true) (last : Byte) : readHubSet (hubSetParams p ++ [last]) = p := by
  simp only [HubSetReq.wf, Bool.and_eq_true] at wf
  obtain ⟨⟨⟨identity, tTurn⟩, parentDrop⟩, timeout⟩ := wf
  have bit {k : Nat} (low : k < 8) := octet_bit [p.identity.isSome, p.tTurn.isSome, p.parentDrop.isSome, p.timeout.isSome] low
  rw [hubSetParams_eq]
  refine (HubSetReq.mk.injEq ..).mpr ⟨?_, ?_, ?_, ?_⟩
  · exact presentAt_field (bit (by decide)) rfl identity
  · exact presentAt_field (bit (by decide)) rfl tTurn
  · exact presentAt_field (bit (by decide)) rfl parentDrop
  · exact presentAt_field (bit (by decide)) rfl timeout

theorem tbSetParams_eq (p : TbSetReq) : tbSetParams p
    = leBytes 2 (bitsNat [p.learningPeriod.isSome, p.lockThreshold.isSome, p.lockCount.isSome, p.unlockThreshold.isSome,
        p.slewLimit.isSome, p.ceiling.isSome, p.g0.isSome, p.agingInterval.isSome, p.ga.isSome])
      ++ (beBytes 2 (p.learningPeriod.getD 0) ++ (beBytes 2 (p.lockThreshold.getD 0) ++ (beBytes 1 (p.lockCount.getD 0)
        ++ (beBytes 2 (p.unlockThreshold.getD 0) ++ (beBytes 2 (p.slewLimit.getD 0) ++ (beBytes 4 (p.ceiling.getD 0)
        ++ (beBytes 2 (p.g0.getD 0) ++ (beBytes 2 (p.agingInterval.getD 0) ++ beBytes 2 (p.ga.getD 0))))))))) := by
  simp [tbSetParams, packItems, flagByte]

theorem readTbSet_params {p : TbSetReq} (wf : p.wf = true) (last : Byte) : readTbSet (tbSetParams p ++ [last]) = p := by
  simp only [TbSetReq.wf, Bool.and_eq_true] at wf
  obtain ⟨⟨⟨⟨⟨⟨⟨⟨learningPeriod, lockThreshold⟩, lockCount⟩, unlockThreshold⟩, slewLimit⟩, ceiling⟩, g0⟩, agingInterval⟩, ga⟩ := wf
  have bit {k : Nat} (low : k < 16) := octets_bit [p.learningPeriod.isSome, p.lockThreshold.isSome, p.lockCount.isSome,
    p.unlockThreshold.isSome, p.slewLimit.isSome, p.ceiling.isSome, p.g0.isSome, p.agingInterval.isSome, p.ga.isSome] low
  rw [tbSetParams_eq]
  refine (TbSetReq.mk.injEq ..).mpr ⟨?_, ?_, ?_, ?_, ?_, ?_, ?_, ?_, ?_⟩
  · exact presentAt_field (bit (by decide)) rfl learningPeriod
  · exact presentAt_field (bit (by decide)) rfl lockThreshold
  · exact presentAt_field (bit (by decide)) rfl lockCount
  · exact presentAt_field (bit (by decide)) rfl unlockThreshold
  · exact presentAt_field (bit (by decide)) rfl slewLimit
  · exact presentAt_field (bit (by decide)) rfl ceiling
  · exact presentAt_field (bit (by decide)) rfl g0
  · exact presentAt_field (bit (by decide)) rfl agingInterval
  · exact presentAt_field (bit (by decide)) rfl ga

theorem refThresholdParams_eq (t : RefThresholdReq) : refThresholdParams t
    = leBytes 1 (bitsNat [t.t1.isSome, t.t2.isSome, t.t3.isSome, t.t4.isSome, t.t5.isSome, t.t6.isSome, t.t7.isSome])
      ++ (beBytes 4 (t.t1.getD 0) ++ (beBytes 4 (t.t2.getD 0) ++ (beBytes 4 (t.t3.getD 0) ++ (beBytes 4 (t.t4.getD 0)
        ++ (beBytes 4 (t.t5.getD 0) ++ (beBytes 4 (t.t6.getD 0) ++ beBytes 4 (t.t7.getD 0))))))) := by
  simp [refThresholdParams, packItems, flagByte]

theorem readRefThresholds_params {t : RefThresholdReq} (wf : t.wf = true) (last : Byte) :
    readRefThresholds (refThresholdParams t ++ [last]) = t := by
  simp only [RefThresholdReq.wf, Bool.and_eq_true] at wf
  obtain ⟨⟨⟨⟨⟨⟨t1, t2⟩, t3⟩, t4⟩, t5⟩, t6⟩, t7⟩ := wf
  have bit {k : Nat} (low : k < 8) := octet_bit [t.t1.isSome, t.t2.isSome, t.t3.isSome, t.t4.isSome, t.t5.isSome, t.t6.isSome,
    t.t7.isSome] low
  rw [refThresholdParams_eq]
  refine (RefThresholdReq.mk.injEq ..).mpr ⟨?_, ?_, ?_, ?_, ?_, ?_, ?_⟩
  · exact presentAt_field (bit (by decide)) rfl t1
  · exact presentAt_field (bit (by decide)) rfl t2
  · exact presentAt_field (bit (by decide)) rfl t3
  · exact presentAt_field (bit (by decide)) rfl t4
  · exact presentAt_field (bit (by decide)) rfl t5
  · exact presentAt_field (bit (by decide)) rfl t6
  · exact presentAt_field (bit (by decide)) rfl t7

theorem refGeneralParams_eq (g : RefGeneralReq) : refGeneralParams g
    = leBytes 2 (bitsNat [g.wtr.isSome, g.revertive.isSome, g.enabled.isSome, g.priority.isSome, g.hysteresis.isSome,
        g.window.isSome, g.floor.isSome, g.qualifyPeriod.isSome, g.gateWidth.isSome, g.acceptLevel.isSome, g.maxDepth.isSome,
        g.baseUncertainty.isSome, g.allowance.isSome])
      ++ (byteOf (bitsNat [g.revertive.getD false, g.enabled.getD false]) :: (beBytes 2 (g.wtr.getD 0)
        ++ (beBytes 1 (g.priority.getD 0) ++ (beBytes 1 (g.hysteresis.getD 0) ++ (beBytes 1 (g.window.getD 0)
        ++ (beBytes 1 (g.floor.getD 0) ++ (beBytes 1 (g.qualifyPeriod.getD 0) ++ (beBytes 4 (g.gateWidth.getD 0)
        ++ (beBytes 1 (g.acceptLevel.getD 0) ++ (beBytes 1 (g.maxDepth.getD 0) ++ (beBytes 2 (g.baseUncertainty.getD 0)
        ++ beBytes 2 (g.allowance.getD 0)))))))))))) := by
  simp [refGeneralParams, packItems, flagByte]

theorem readRefGeneral_params {g : RefGeneralReq} (wf : g.wf = true) (last : Byte) :
    readRefGeneral (refGeneralParams g ++ [last]) = g := by
  simp only [RefGeneralReq.wf, Bool.and_eq_true] at wf
  obtain ⟨⟨⟨⟨⟨⟨⟨⟨⟨⟨wtr, priority⟩, hysteresis⟩, window⟩, floor⟩, qualifyPeriod⟩, gateWidth⟩, acceptLevel⟩, maxDepth⟩,
    baseUncertainty⟩, allowance⟩ := wf
  have bit {k : Nat} (low : k < 16) := octets_bit [g.wtr.isSome, g.revertive.isSome, g.enabled.isSome, g.priority.isSome,
    g.hysteresis.isSome, g.window.isSome, g.floor.isSome, g.qualifyPeriod.isSome, g.gateWidth.isSome, g.acceptLevel.isSome,
    g.maxDepth.isSome, g.baseUncertainty.isSome, g.allowance.isSome] low
  have flag {k : Nat} (low : k < 8) := octet_bit [g.revertive.getD false, g.enabled.getD false] low
  rw [refGeneralParams_eq]
  refine (RefGeneralReq.mk.injEq ..).mpr ⟨?_, ?_, ?_, ?_, ?_, ?_, ?_, ?_, ?_, ?_, ?_, ?_, ?_⟩
  · exact presentAt_field (bit (by decide)) rfl wtr
  · exact presentAt_flag (bit (by decide)) (flag (by decide))
  · exact presentAt_flag (bit (by decide)) (flag (by decide))
  · exact presentAt_field (bit (by decide)) rfl priority
  · exact presentAt_field (bit (by decide)) rfl hysteresis
  · exact presentAt_field (bit (by decide)) rfl window
  · exact presentAt_field (bit (by decide)) rfl floor
  · exact presentAt_field (bit (by decide)) rfl qualifyPeriod
  · exact presentAt_field (bit (by decide)) rfl gateWidth
  · exact presentAt_field (bit (by decide)) rfl acceptLevel
  · exact presentAt_field (bit (by decide)) rfl maxDepth
  · exact presentAt_field (bit (by decide)) rfl baseUncertainty
  · exact presentAt_field (bit (by decide)) rfl allowance

theorem admitParams_eq (p : AdmitReq) : admitParams p
    = byteOf p.handle :: byteOf (bitsNat [p.protectedFlag, p.squelch, p.autoComp, baseIsAny p.slotBase])
      :: (beBytes 1 p.cls ++ (beBytes 2 p.budget ++ (beBytes 1 p.rate ++ (beBytes 1 (baseValue p.slotBase) ++ (beBytes 1 p.ackMode
        ++ (beBytes 1 p.window ++ (beSigned p.compensation ++ beBytes 1 p.groups.toNat))))))) := by
  simp [admitParams, packItems, flagByte, leBytes]

theorem readAdmit_params {p : AdmitReq} (wf : p.wf = true) (last : Byte) : readAdmit (admitParams p ++ [last]) = p := by
  simp only [AdmitReq.wf, Bool.and_eq_true] at wf
  obtain ⟨⟨⟨⟨⟨⟨⟨handle, cls⟩, budget⟩, rate⟩, slotBase⟩, ackMode⟩, window⟩, compensation⟩ := wf
  have flag {k : Nat} (low : k < 8) := octet_bit [p.protectedFlag, p.squelch, p.autoComp, baseIsAny p.slotBase] low
  rw [admitParams_eq]
  refine (AdmitReq.mk.injEq ..).mpr ⟨?_, ?_, ?_, ?_, ?_, ?_, ?_, ?_, ?_, ?_, ?_, ?_⟩
  · exact byteOf_fits handle
  · exact flag (by decide)
  · exact flag (by decide)
  · exact flag (by decide)
  · exact fieldAt_spelled rfl cls
  · exact fieldAt_spelled rfl budget
  · exact fieldAt_spelled rfl rate
  · exact readBase_spelled (flag (by decide)) rfl slotBase
  · exact fieldAt_spelled rfl ackMode
  · exact fieldAt_spelled rfl window
  · exact fieldAt_signed rfl compensation
  · exact fieldAt_bits rfl

theorem amendParams_eq (p : AmendReq) : amendParams p
    = byteOf p.handle :: (leBytes 2 (bitsNat [p.budget.isSome, p.groups.isSome, p.protectedFlag.isSome, p.autoComp.isSome,
        p.cls.isSome, p.rate.isSome, p.slotBase.isSome, p.ackMode.isSome, p.window.isSome, p.compensation.isSome, p.squelch.isSome])
      ++ (byteOf (bitsNat [p.protectedFlag.getD false, p.autoComp.getD false, p.squelch.getD false,
        (p.slotBase.map baseIsAny).getD false]) :: (beBytes 2 (p.budget.getD 0) ++ (beBytes 1 ((p.groups.map BitVec.toNat).getD 0)
        ++ (beBytes 1 (p.cls.getD 0) ++ (beBytes 1 (p.rate.getD 0) ++ (beBytes 1 ((p.slotBase.map baseValue).getD 0)
        ++ (beBytes 1 (p.ackMode.getD 0) ++ (beBytes 1 (p.window.getD 0) ++ beSigned (p.compensation.getD 0)))))))))) := by
  simp [amendParams, packItems, flagByte]

theorem readAmend_params {p : AmendReq} (wf : p.wf = true) (last : Byte) : readAmend (amendParams p ++ [last]) = p := by
  simp only [AmendReq.wf, Bool.and_eq_true] at wf
  obtain ⟨⟨⟨⟨⟨⟨⟨handle, budget⟩, cls⟩, rate⟩, slotBase⟩, ackMode⟩, window⟩, compensation⟩ := wf
  have based : ∀ b, p.slotBase = some b → baseFits b = true := fun b is => by rwa [is] at slotBase
  have bit {k : Nat} (low : k < 16) := octets_bit [p.budget.isSome, p.groups.isSome, p.protectedFlag.isSome, p.autoComp.isSome,
    p.cls.isSome, p.rate.isSome, p.slotBase.isSome, p.ackMode.isSome, p.window.isSome, p.compensation.isSome, p.squelch.isSome] low
  have flag {k : Nat} (low : k < 8) := octet_bit [p.protectedFlag.getD false, p.autoComp.getD false, p.squelch.getD false,
    (p.slotBase.map baseIsAny).getD false] low
  rw [amendParams_eq]
  refine (AmendReq.mk.injEq ..).mpr ⟨?_, ?_, ?_, ?_, ?_, ?_, ?_, ?_, ?_, ?_, ?_, ?_⟩
  · exact byteOf_fits handle
  · exact presentAt_field (bit (by decide)) rfl budget
  · exact presentAt_bits (bit (by decide)) rfl
  · exact presentAt_flag (bit (by decide)) (flag (by decide))
  · exact presentAt_flag (bit (by decide)) (flag (by decide))
  · exact presentAt_field (bit (by decide)) rfl cls
  · exact presentAt_field (bit (by decide)) rfl rate
  · exact presentAt_base (bit (by decide)) (flag (by decide)) rfl based
  · exact presentAt_field (bit (by decide)) rfl ackMode
  · exact presentAt_field (bit (by decide)) rfl window
  · exact presentAt_signed (bit (by decide)) rfl compensation
  · exact presentAt_flag (bit (by decide)) (flag (by decide))

theorem amendGroupParams_eq (p : AmendGroupReq) : amendGroupParams p
    = byteOf p.mask.toNat :: (leBytes 1 (bitsNat [p.budget.isSome, p.window.isSome, p.squelch.isSome, p.autoComp.isSome, p.delta.isSome])
      ++ (byteOf (bitsNat [p.squelch.getD false, p.autoComp.getD false]) :: (beBytes 2 (p.budget.getD 0)
        ++ (beBytes 1 (p.window.getD 0) ++ beSigned (p.delta.getD 0))))) := by
  simp [amendGroupParams, packItems, flagByte]

theorem readAmendGroup_params {p : AmendGroupReq} (wf : p.wf = true) (last : Byte) :
    readAmendGroup (amendGroupParams p ++ [last]) = p := by
  simp only [AmendGroupReq.wf, Bool.and_eq_true] at wf
  obtain ⟨⟨budget, window⟩, delta⟩ := wf
  have bit {k : Nat} (low : k < 8) := octet_bit [p.budget.isSome, p.window.isSome, p.squelch.isSome, p.autoComp.isSome,
    p.delta.isSome] low
  have flag {k : Nat} (low : k < 8) := octet_bit [p.squelch.getD false, p.autoComp.getD false] low
  rw [amendGroupParams_eq]
  refine (AmendGroupReq.mk.injEq ..).mpr ⟨?_, ?_, ?_, ?_, ?_, ?_⟩
  · exact (congrArg byteOf (byteOf_fits (fits_iff.mpr p.mask.isLt))).trans (byteOf_bits p.mask)
  · exact presentAt_field (bit (by decide)) rfl budget
  · exact presentAt_field (bit (by decide)) rfl window
  · exact presentAt_flag (bit (by decide)) (flag (by decide))
  · exact presentAt_flag (bit (by decide)) (flag (by decide))
  · exact presentAt_signed (bit (by decide)) rfl delta

end Sys2Proof.Machine
end

section
/-! PROOF. Every request row is read back from its frame, row by row, and a write select of the frame is acted on as that row. -/

namespace Sys2Proof.Machine

open Sys2Proof

/-! ### A request frame (R192) -/

@[simp] theorem requestFrame_length (code tag : Nat) (params : List Byte) : (requestFrame code tag params).length = params.length + 4 := by
  simp [requestFrame]

theorem requestLengths_bounds {code form n : Nat} (m : n ∈ requestLengths code form) : 4 ≤ n ∧ n ≤ 35 := by
  unfold requestLengths at m
  (repeat' split at m) <;> simp only [List.mem_cons, List.not_mem_nil, or_false] at m <;> omega

/-- The frame spells the row, at a length of its code. -/
def Spells (i : Instr) (code tag : Nat) (params : List Byte) : Prop :=
  decodeRequest (requestFrame code tag params) = some i
  ∧ params.length + 4 ∈ requestLengths (byteAt (requestFrame code tag params) 0) (byteAt (requestFrame code tag params) 4)

/-- The check byte of a request frame. -/
def requestCheck (code tag : Nat) (params : List Byte) : Byte :=
  checkByte ([byteOf code, byteOf (params.length + 4), byteOf tag] ++ params)

/-! ### Rows of a tag and single bytes -/

/-- A row without parameters. -/
theorem spells_plain {row : Nat → Instr} {code tag : Nat} (tagged : fits 1 tag = true)
    (reads : decodeRequest (requestFrame code tag []) = some (row (byteOf tag).toNat))
    (lengths : requestLengths (byteAt (requestFrame code tag []) 0) (byteAt (requestFrame code tag []) 4) = [4]) :
    Spells (row tag) code tag [] := by
  refine ⟨?_, ?_⟩
  · rw [reads, byteOf_fits tagged]
  · rw [lengths]
    exact List.mem_cons_self

/-- A row of one byte. -/
theorem spells_octet {row : Nat → Nat → Instr} {code tag v : Nat} (fit : (fits 1 tag && fits 1 v) = true)
    (reads : decodeRequest (requestFrame code tag [byteOf v]) = some (row (byteOf tag).toNat (byteOf v).toNat))
    (lengths : requestLengths (byteAt (requestFrame code tag [byteOf v]) 0) (byteAt (requestFrame code tag [byteOf v]) 4) = [5]) :
    Spells (row tag v) code tag [byteOf v] := by
  obtain ⟨tagged, within⟩ := Bool.and_eq_true_iff.mp fit
  refine ⟨?_, ?_⟩
  · rw [reads, byteOf_fits tagged, byteOf_fits within]
  · rw [lengths]
    exact List.mem_cons_self

/-- A row of two bytes. -/
theorem spells_octets {row : Nat → Nat → Nat → Instr} {code tag v w : Nat} (fit : (fits 1 tag && fits 1 v && fits 1 w) = true)
    (reads : decodeRequest (requestFrame code tag [byteOf v, byteOf w]) = some (row (byteOf tag).toNat (byteOf v).toNat (byteOf w).toNat))
    (lengths : requestLengths (byteAt (requestFrame code tag [byteOf v, byteOf w]) 0) (byteAt (requestFrame code tag [byteOf v, byteOf w]) 4) = [6]) :
    Spells (row tag v w) code tag [byteOf v, byteOf w] := by
  simp only [Bool.and_eq_true] at fit
  obtain ⟨⟨tagged, first⟩, second⟩ := fit
  refine ⟨?_, ?_⟩
  · rw [reads, byteOf_fits tagged, byteOf_fits first, byteOf_fits second]
  · rw [lengths]
    exact List.mem_cons_self

/-- A row of one value, read from all of the parameters. -/
theorem spells_value {α : Type} (row : Nat → α → Instr) (read : List Byte → α) {code tag n : Nat} {params : List Byte} {p : α}
    (tagged : fits 1 tag = true) (readBack : ∀ last, read (params ++ [last]) = p) (length : params.length + 4 = n)
    (reads : ∀ ps, decodeRequest (requestFrame code tag ps) = some (row (byteOf tag).toNat (read (ps ++ [requestCheck code tag ps]))))
    (lengths : ∀ ps, requestLengths (byteAt (requestFrame code tag ps) 0) (byteAt (requestFrame code tag ps) 4) = [n]) :
    Spells (row tag p) code tag params := by
  refine ⟨?_, ?_⟩
  · rw [reads, byteOf_fits tagged, readBack]
  · rw [lengths, length]
    exact List.mem_cons_self

/-! ### Keys and forms -/

theorem readSiteKey_other {ps : List Byte} (other : 3 ≤ byteAt ps 0) : readSiteKey ps = .other (byteAt ps 0) := by
  unfold readSiteKey
  split
  · omega
  · omega
  · omega
  · rfl

theorem readSiteKey_params {key : SiteKey} (wf : key.wf = true) (last : Byte) : readSiteKey (siteKeyParams key ++ [last]) = key := by
  cases key with
  | byHandle handle => exact congrArg SiteKey.byHandle (byteOf_fits wf)
  | bySiteId siteId => exact congrArg SiteKey.bySiteId (fieldAt_spelled rfl wf)
  | byLinkDrop link drop =>
    obtain ⟨linked, dropped⟩ := Bool.and_eq_true_iff.mp wf
    exact congrArg₂ SiteKey.byLinkDrop (byteOf_fits linked) (byteOf_fits dropped)
  | other f =>
    obtain ⟨other, formed⟩ := Bool.and_eq_true_iff.mp wf
    have form : byteAt (siteKeyParams (.other f) ++ [last]) 0 = f := byteOf_fits formed
    rw [readSiteKey_other (by rw [form]; exact of_decide_eq_true other), form]

theorem siteKeyParams_length (key : SiteKey) : (siteKeyParams key).length = 5 := by cases key <;> rfl

theorem readAlarmKey_other {ps : List Byte} (other : 2 ≤ byteAt ps 0) : readAlarmKey ps = .other (byteAt ps 0) := by
  unfold readAlarmKey
  split
  · omega
  · omega
  · rfl

theorem readAlarmKey_params {key : AlarmKey} (wf : key.wf = true) (last : Byte) : readAlarmKey (alarmKeyParams key ++ [last]) = key := by
  cases key with
  | byIndex index => exact congrArg AlarmKey.byIndex (byteOf_fits wf)
  | bySource type number kind =>
    simp only [AlarmKey.wf, Bool.and_eq_true] at wf
    obtain ⟨⟨typed, numbered⟩, kinded⟩ := wf
    show AlarmKey.bySource (byteOf type).toNat (byteOf number).toNat (byteOf kind).toNat = _
    rw [byteOf_fits typed, byteOf_fits numbered, byteOf_fits kinded]
  | other f =>
    obtain ⟨other, formed⟩ := Bool.and_eq_true_iff.mp wf
    have form : byteAt (alarmKeyParams (.other f) ++ [last]) 0 = f := byteOf_fits formed
    rw [readAlarmKey_other (by rw [form]; exact of_decide_eq_true other), form]

theorem alarmKeyParams_length (key : AlarmKey) : (alarmKeyParams key).length = 5 := by cases key <;> rfl

theorem readRefSet_other {ps : List Byte} (other : 2 ≤ byteAt ps 1) : readRefSet ps = .other (byteAt ps 1) := by
  unfold readRefSet
  split
  · omega
  · omega
  · rfl

theorem requestLengths_other : ∀ {form : Nat}, 2 ≤ form → requestLengths 0x19 form = [26, 35]
  | _ + 2, _ => rfl

theorem readRefSet_params {index : Nat} {body : RefSetBody} (wf : body.wf = true) (last : Byte) :
    readRefSet (byteOf index :: refSetParams body ++ [last]) = body := by
  cases body with
  | general g => exact congrArg RefSetBody.general (readRefGeneral_params wf last)
  | thresholds t => exact congrArg RefSetBody.thresholds (readRefThresholds_params wf last)
  | other f =>
    obtain ⟨other, formed⟩ := Bool.and_eq_true_iff.mp wf
    have form : byteAt (byteOf index :: refSetParams (.other f) ++ [last]) 1 = f := byteOf_fits formed
    rw [readRefSet_other (by rw [form]; exact of_decide_eq_true other), form]

/-! ### The other rows -/

section Rows

variable {tag : Nat} (tagged : fits 1 tag = true)
include tagged

/-- An unknown form byte is taken at the length it is written at, form 0's (log 22). -/
theorem spells_refSet {index : Nat} {body : RefSetBody} (indexed : fits 1 index = true) (wf : body.wf = true) :
    Spells (.refSet tag index body) 0x19 tag (byteOf index :: refSetParams body) := by
  have reads (ps : List Byte) : decodeRequest (requestFrame 0x19 tag (byteOf index :: ps)) = some (.refSet (byteOf tag).toNat
      (byteOf index).toNat (readRefSet (byteOf index :: ps ++ [requestCheck 0x19 tag (byteOf index :: ps)]))) := rfl
  have lengths (form : Byte) (ps : List Byte) : requestLengths (byteAt (requestFrame 0x19 tag (byteOf index :: form :: ps)) 0)
      (byteAt (requestFrame 0x19 tag (byteOf index :: form :: ps)) 4) = requestLengths 0x19 form.toNat := rfl
  refine ⟨?_, ?_⟩
  · rw [reads, byteOf_fits tagged, byteOf_fits indexed, readRefSet_params wf]
  cases body with
  | general g =>
    rw [refSetParams, lengths]
    simp [refGeneralParams_eq, requestLengths, byteOf]
  | thresholds t =>
    rw [refSetParams, lengths]
    simp [refThresholdParams_eq, requestLengths, byteOf]
  | other f =>
    obtain ⟨other, formed⟩ := Bool.and_eq_true_iff.mp wf
    rw [refSetParams, lengths, byteOf_fits formed, requestLengths_other (of_decide_eq_true other)]
    exact List.mem_cons_self

theorem spells_siteCreate {siteId link drop : Nat} (site : fits 4 siteId = true) (linked : fits 1 link = true) (dropped : fits 1 drop = true) :
    Spells (.siteCreate tag siteId link drop) 0x20 tag (beBytes 4 siteId ++ [byteOf link, byteOf drop]) := by
  refine ⟨?_, List.mem_singleton.mpr rfl⟩
  have read (rest : List Byte) : fieldAt (beBytes 4 siteId ++ rest) 0 4 = siteId := fieldAt_spelled rfl site
  show some (Instr.siteCreate (byteOf tag).toNat (fieldAt (beBytes 4 siteId ++ ([byteOf link, byteOf drop] ++ [_])) 0 4)
    (byteOf link).toNat (byteOf drop).toNat) = _
  rw [byteOf_fits tagged, read, byteOf_fits linked, byteOf_fits dropped]

theorem spells_siteRetire {handle : Nat} (now : Bool) (handled : fits 1 handle = true) :
    Spells (.siteRetire tag handle now) 0x26 tag [byteOf handle, byteOf now.toNat] := by
  refine ⟨?_, List.mem_singleton.mpr rfl⟩
  have bit : (byteOf now.toNat).toNat.testBit 0 = now := by cases now <;> rfl
  show some (Instr.siteRetire (byteOf tag).toNat (byteOf handle).toNat ((byteOf now.toNat).toNat.testBit 0)) = _
  rw [byteOf_fits tagged, byteOf_fits handled, bit]

theorem spells_linkSet {link : Nat} {role split : Option Nat} (linked : fits 1 link = true) (roled : optFits 1 role = true)
    (splits : optFits 1 split = true) :
    Spells (.linkSet tag link role split) 0x32 tag (byteOf link :: packItems [optNat 1 role, optNat 1 split]) := by
  have packed : packItems [optNat 1 role, optNat 1 split]
      = leBytes 1 (bitsNat [role.isSome, split.isSome]) ++ (beBytes 1 (role.getD 0) ++ beBytes 1 (split.getD 0)) := by
    simp [packItems, flagByte]
  have bit {k : Nat} (low : k < 8) := octet_bit [role.isSome, split.isSome] low
  rw [packed]
  refine ⟨?_, List.mem_singleton.mpr rfl⟩
  show some (Instr.linkSet (byteOf tag).toNat (byteOf link).toNat
    (presentAt (byteOf (bitsNat [role.isSome, split.isSome])).toNat 0 (byteOf (role.getD 0 / 256 ^ 0)).toNat)
    (presentAt (byteOf (bitsNat [role.isSome, split.isSome])).toNat 1 (byteOf (split.getD 0 / 256 ^ 0)).toNat)) = _
  have roleRead := presentAt_spelled (x := role) (v := (byteOf (role.getD 0 / 256 ^ 0)).toNat) (bit (k := 0) (by decide)) fun y is => by
    subst is
    rw [Option.getD_some, Nat.pow_zero, Nat.div_one, byteOf_fits roled]
  have splitRead := presentAt_spelled (x := split) (v := (byteOf (split.getD 0 / 256 ^ 0)).toNat) (bit (k := 1) (by decide)) fun y is => by
    subst is
    rw [Option.getD_some, Nat.pow_zero, Nat.div_one, byteOf_fits splits]
  rw [byteOf_fits tagged, byteOf_fits linked, roleRead, splitRead]

theorem spells_linkLookup {link : Nat} (take : Bool) (linked : fits 1 link = true) :
    Spells (.linkLookup tag link take) 0x34 tag [byteOf link, byteOf take.toNat] := by
  refine ⟨?_, List.mem_singleton.mpr rfl⟩
  have bit : (byteOf take.toNat).toNat.testBit 0 = take := by cases take <;> rfl
  show some (Instr.linkLookup (byteOf tag).toNat (byteOf link).toNat ((byteOf take.toNat).toNat.testBit 0)) = _
  rw [byteOf_fits tagged, byteOf_fits linked, bit]

theorem spells_alarmAckSeverity (set : BitVec 8) : Spells (.alarmAckSeverity tag set) 0x43 tag [byteOf set.toNat] := by
  refine ⟨?_, List.mem_singleton.mpr rfl⟩
  show some (Instr.alarmAckSeverity (byteOf tag).toNat (byteOf (byteOf set.toNat).toNat)) = _
  rw [byteOf_fits tagged, byteOf_bits, byteOf_bits]

end Rows

/-- Every request row that fits is spelled by its frame. -/
theorem encodeRequest_spells {i : Instr} {frame : List Byte} (wf : i.wf = true) (encoded : encodeRequest i = some frame) :
    ∃ code tag params, frame = requestFrame code tag params ∧ Spells i code tag params := by
  cases i <;> first | (cases encoded; done) | (obtain rfl := Option.some.inj encoded; refine ⟨_, _, _, rfl, ?_⟩)
  case deviceIdentify | deviceWarmReset | tbLookup | refRelease | notifyArm | notifyAck => exact spells_plain wf rfl rfl
  case refForce | siteSuspend | siteResume | siteTakeCounts | enrolClose | linkRestart | alarmAck | notifySet =>
    exact spells_octet wf rfl rfl
  case refLookup | enrolOpen => exact spells_octets wf rfl rfl
  case tbSetTime tag v =>
    refine spells_value Instr.tbSetTime (fun ps => BitVec.ofNat 48 (fieldAt ps 0 6)) wf (fun last => ?_) rfl (fun _ => rfl) fun _ => rfl
    rw [fieldAt_spelled (v := v.toNat) rfl (fits_iff.mpr v.isLt), BitVec.ofNat_toNat, BitVec.setWidth_eq]
  case alarmAckSeverity tag set => exact spells_alarmAckSeverity wf set
  all_goals simp only [Instr.wf, Bool.and_eq_true] at wf
  case hubSet =>
    exact spells_value Instr.hubSet readHubSet wf.1 (readHubSet_params wf.2) (by simp [hubSetParams_eq]) (fun _ => rfl) fun _ => rfl
  case tbSet =>
    exact spells_value Instr.tbSet readTbSet wf.1 (readTbSet_params wf.2) (by simp [tbSetParams_eq]) (fun _ => rfl) fun _ => rfl
  case refSet tag index body => exact spells_refSet wf.1.1 wf.1.2 wf.2
  case siteCreate =>
    obtain ⟨⟨⟨tagged, site⟩, linked⟩, dropped⟩ := wf
    exact spells_siteCreate tagged site linked dropped
  case siteAdmit =>
    exact spells_value Instr.siteAdmit readAdmit wf.1 (readAdmit_params wf.2) (by simp [admitParams_eq, beSigned]) (fun _ => rfl)
      fun _ => rfl
  case siteAmend =>
    exact spells_value Instr.siteAmend readAmend wf.1 (readAmend_params wf.2) (by simp [amendParams_eq, beSigned]) (fun _ => rfl)
      fun _ => rfl
  case siteAmendGroup =>
    exact spells_value Instr.siteAmendGroup readAmendGroup wf.1 (readAmendGroup_params wf.2) (by simp [amendGroupParams_eq, beSigned])
      (fun _ => rfl) fun _ => rfl
  case siteRetire tag handle now => exact spells_siteRetire wf.1 now wf.2
  case siteLookup =>
    exact spells_value Instr.siteLookup readSiteKey wf.1 (readSiteKey_params wf.2) (by rw [siteKeyParams_length]) (fun _ => rfl)
      fun _ => rfl
  case siteNext =>
    exact spells_value Instr.siteNext (fieldAt · 0 4) wf.1 (fun _ => fieldAt_spelled rfl wf.2) rfl (fun _ => rfl) fun _ => rfl
  case linkSet =>
    obtain ⟨⟨⟨tagged, linked⟩, roled⟩, splits⟩ := wf
    exact spells_linkSet tagged linked roled splits
  case linkLookup tag link take => exact spells_linkLookup wf.1 take wf.2
  case alarmLookup =>
    exact spells_value Instr.alarmLookup readAlarmKey wf.1 (readAlarmKey_params wf.2) (by rw [alarmKeyParams_length]) (fun _ => rfl)
      fun _ => rfl
  case alarmNext =>
    exact spells_value Instr.alarmNext (fieldAt · 0 6) wf.1 (fun _ => fieldAt_spelled rfl wf.2) rfl (fun _ => rfl) fun _ => rfl

/-! ### The select acted on (R182, log 6) -/

/-- A sound frame taken from IDLE with the queue empty: the step after the select acts on the row it spells. -/
theorem step_after_select {s : State} {frame : List Byte} {i : Instr} (sound : frameRefusal frame = none)
    (reads : decodeRequest frame = some i) (some : frame ≠ []) (empty : s.pending = []) (idle : s.port.state = .idle)
    (none : s.port.request = []) : ∃ t : State, exec (.writeSelect (0x01 :: frame)) s = .next t ∧ step t = exec i s := by
  refine ⟨_, (select_idle frame some idle).trans (congrArg Host.Outcome.next (State.takeRequest_taken sound)), ?_⟩
  have again : { s.port with state := .idle, request := [] } = s.port := by rw [← idle, ← none]
  refine step_inHand empty (p := (i, s)) ((State.inHand_executing rfl).trans ?_)
  simp only [reads, Option.map_some, again]

/-- Settles O55: the frame by its row, and the checks of R182 passed. -/
theorem requestsReadBack : Obligations.RequestsReadBack := by
  intro i frame wf encoded
  obtain ⟨code, tag, params, rfl, reads, length⟩ := encodeRequest_spells wf encoded
  rw [← requestFrame_length code tag params] at length
  have bounds := requestLengths_bounds length
  have counted : byteAt (requestFrame code tag params) 1 = (requestFrame code tag params).length := by
    have short : params.length + 4 < 256 := by
      rw [requestFrame_length] at bounds
      omega
    rw [requestFrame_length]
    exact (byteOf_toNat _).trans (Nat.mod_eq_of_lt short)
  have sum : byteSum (requestFrame code tag params) = 0 := byteSum_withCheck _
  have sound : frameRefusal (requestFrame code tag params) = none := by
    obtain ⟨-, -, -, passes⟩ := frameRefusal_cases (requestFrame code tag params)
    exact passes ((frameSound_iff _).mpr ⟨bounds.1, by omega, counted, sum⟩)
      ((codeKnown_iff _).mpr (List.ne_nil_of_mem length)) ((lengthFits_iff _).mpr length)
  exact ⟨reads, length, counted, sum, fun s => step_after_select sound reads (List.cons_ne_nil _ _)⟩

end Sys2Proof.Machine
end
